-- ==== Sys2Proof/Word.lean ====
section
/-! DEFINITION. The words of the ZH16: bytes of a message frame, the elapsed-minute counter, temperatures.

A temperature is a signed whole number of tenths of a degree (00_scope.md, CONVENTIONS); the manual
compares, adds and divides it exactly, so it is an `Int`. Counts and settings are `Nat`. Bit vectors
hold only what the manual treats as bits: bytes, the wrapping counter of R2, object sets. -/

namespace Sys2Proof

/-- One byte of a frame (R165). -/
abbrev Byte := BitVec 8

/-- A value of the elapsed-minute counter, 0 to 4 294 967 295, which wraps (R2). -/
abbrev Elapsed := BitVec 32

/-- A set of objects as a bit word, bit 0 standing for number 1 (R165). -/
abbrev ObjectSet := BitVec 32

/-- A temperature or a temperature difference in tenths of a degree (00_scope.md, CONVENTIONS). -/
abbrev Temp := Int

end Sys2Proof
end

