-- ==== Sys2Proof/Syntax.lean ====
section
/-! DEFINITION. The commands of the block: one constructor of `Instr` per row of spec/opcode_table.json.

Number operands are raw: what the message or the event carries, inside or outside the range its rule
gives. A named value in a request (a level, a role) is its code on the wire (R171), for the same reason. -/

namespace Sys2Proof

/-- The two message ports (09, introduction). -/
inductive Port where
  | main
  | service
  deriving DecidableEq, Repr, Inhabited

/-- The three wired sensors (R151), in the order of R171's sensor byte. -/
inductive Sensor where
  | flow
  | outdoor
  | cylinder
  deriving DecidableEq, Repr, Inhabited

/-- Why a frame being built is discarded by what arrives (R167); a gap has its own command. -/
inductive FrameFault where
  /-- The length byte is 0 or above 200. -/
  | badLength (byte : Byte)
  /-- A byte is received with a bad stop bit. -/
  | badStopBit
  /-- The check byte arrives and the sum is not 0. -/
  | badSum (byte : Byte)
  deriving DecidableEq, Repr

/-- One record of a TABLE-WRITE (R185): a switch point (R8) or a program table entry (R9). -/
inductive TableRecord where
  | point (days weeks slot level : Nat)
  | entry (start length : Nat)
  deriving DecidableEq, Repr

/-- One category of the complete mask an ATTN-MASK carries (R177). -/
structure MaskItem where
  /-- The category number. -/
  category : Nat
  /-- The whole-category flag. -/
  whole : Bool
  /-- The masked objects. -/
  objects : ObjectSet
  deriving DecidableEq, Repr

/-- The commands of the block, one per row of the table, in the table's order. -/
inductive Instr where
  | coldReset
  | warmResetComplete
  | wallMinute
  | elapsedMinute
  | layerExpiry (channel : Nat)
  | watchEnd (zone : Nat)
  | stallRetry (slot : Nat)
  | minOnElapsed
  | minOffElapsed
  | regulationPass (zone : Nat)
  | goodReply (address position : Nat) (running stall calibrated : Bool) (temperature : Option Temp)
  | discardedReply (frameCheckPasses : Bool) (address position : Nat)
  | miss
  | moveTimeout (slot : Nat)
  | linkFault
  | supplyMeasurement (tenthsOfVolt : Nat)
  | supplyQualified (tenthsOfVolt : Nat)
  | sensorSample (sensor : Sensor) (converted : Temp)
  | inputChange (input : Nat) (high : Bool)
  | inputEstablished (input : Nat) (high : Bool)
  | leadExpiry
  | overrunExpiry
  | pumpTimerExpiry
  | rampStep
  | storeWriteEnd
  | editClaimLapse
  | frameGap (port : Port)
  | frameDiscard (port : Port) (cause : FrameFault)
  | frameSent (port : Port)
  | unknownKind (port : Port) (kind : Byte)
  | clockSet (port : Port) (minuteOfWeek seconds parity : Nat)
  | clockGet (port : Port)
  | channelSet (port : Port) (channel : Nat) (fields : List (Nat × Int))
  | channelGet (port : Port) (channel : Nat)
  | roomTemp (port : Port) (zone : Nat) (temperature : Temp)
  | layerPush (port : Port) (mask : BitVec 24) (kind : Nat) (setpoint : Temp) (duration : Nat)
  | layerPop (port : Port) (channel : Nat)
  | layerClear (port : Port) (mask : BitVec 24)
  | holdRelease (port : Port) (channel runOut : Nat)
  | zonePark (port : Port) (zone : Nat)
  | zoneUnpark (port : Port) (zone : Nat)
  | valveSet (port : Port) (slot : Nat) (fields : List (Nat × Int))
  | valveGet (port : Port) (slot : Nat)
  | valveHome (port : Port) (slot : Nat)
  | linkClear (port : Port)
  | boilerSet (port : Port) (fields : List (Nat × Int))
  | boilerGet (port : Port)
  | inputSet (port : Port) (input sensitivity function : Nat)
      (zone : Option Nat) (setpoint : Option Temp) (minutes : Option Nat)
  /-- `input = none` is the word ALL (R159). -/
  | inputGet (port : Port) (input : Option Nat) (clear : Bool)
  | attnGet (port : Port)
  | attnMask (port : Port) (mask : List MaskItem)
  | editClaim (port : Port)
  | editCommit (port : Port)
  | editDrop (port : Port)
  | tableRead (port : Port) (tag : Nat)
  | tableWrite (port : Port) (tag first : Nat) (records : List TableRecord)
  | storeSave (port : Port)
  | storeErase (port : Port)
  | restart (port : Port)
  | ident (port : Port)
  | secondTick
  | inputSample (input : Nat) (high : Bool)
  | byteArrival (port : Port) (byte : Byte)
  | warmResetStopEnd
  deriving DecidableEq, Repr

end Sys2Proof
end

