-- ==== Sys2Proof/Decode.lean ====
section
/-! DEFINITION. The command a word spells by the bits of spec/opcode_table.json. Every row of the table gives
its command no bits ("fields": [], no "fixed"), so no word spells a command. The byte form of a request
(R165, R171) is read by the receiver: `BYTE_ARRIVAL` in Machine/Ports.lean. -/

namespace Sys2Proof

/-- The command that the word `w` of `nbits` bits spells: none, since no row gives bits. -/
def decodeTableWord (_nbits _w : Nat) : Option Instr := none

end Sys2Proof
end

