-- ==== Sys2Proof/Machine/State.lean ====
section
/-! DEFINITION. The state of the ZH16 as plain data, block by block (00_scope.md, BLOCK OVERVIEW), its value after
reset, and the reasons a step can stop. A value that the manual makes a function of other state (base level,
effective setpoint, committed position, committed capacity, units in use, parked flag) is computed in
Machine/Flags.lean and stored nowhere. -/

namespace Sys2Proof.Machine

/-! ## Named values, each in the order of the list in which the manual first defines it (R171) -/

/-- Week parity (R1). -/
inductive Parity where | a | b
  deriving DecidableEq, Repr, Inhabited

/-- A switch point's week set (R8). -/
inductive WeekSet where | a | b | ab
  deriving DecidableEq, Repr, Inhabited

/-- The four levels (R8). -/
inductive Level where | frost | setback | eco | comfort
  deriving DecidableEq, Repr, Inhabited

/-- The layer kinds (R24). -/
inductive LayerKind where | timed | untilNext | hold | window
  deriving DecidableEq, Repr, Inhabited

/-- Where a layer comes from (R24). -/
inductive Origin where | main | service | input | detect
  deriving DecidableEq, Repr, Inhabited

/-- The head states (R84). -/
inductive HeadState where | unknown | homing | ready | moving | stalled | absent
  deriving DecidableEq, Repr, Inhabited

/-- The classes of a queue entry, from the highest precedence (R112). -/
inductive MoveClass where | safety | normal | homing | exercise
  deriving DecidableEq, Repr, Inhabited

/-- The operation of a queue entry (R112). -/
inductive MoveOp where | drive | home
  deriving DecidableEq, Repr, Inhabited

/-- The boiler states (R128). -/
inductive BoilerState where | idle | lead | firing | overrun | rest | faulted
  deriving DecidableEq, Repr, Inhabited

/-- The sensitivities of a digital input (R154). -/
inductive Sensitivity where | high | low | rise | fall
  deriving DecidableEq, Repr, Inhabited

/-- The refusal codes (R165, R170). INVALID carries a program number and is a form of `ReplyBody`. -/
inductive RefusalCode where | busy | range | state | claimed | noClaim | full | unknownKind
  deriving DecidableEq, Repr, Inhabited

/-- The attention categories in the order of their numbers (R165). -/
inductive Category where
  | clock | restart | stack | sensor | stall | absent | link | supply
  | boiler | capacity | sink | overheat | input | edit | store | frame
  deriving DecidableEq, Repr, Inhabited

/-! ## Time base (R1, R2, R4) -/

/-- Wall clock, elapsed-minute counter, and which minute events of the last second tick are still to be taken. -/
structure Clock where
  minuteOfWeek : Nat
  wallSeconds : Nat
  parity : Parity
  clockSet : Bool
  elapsed : Elapsed
  /-- Second ticks since the last elapsed minute (R2: every sixtieth second tick from the reset). -/
  tickCount : Nat
  /-- A second tick took the wall seconds past 59 and its WALL_MINUTE is still to be taken (log 3). -/
  wallDue : Bool
  /-- A sixtieth second tick has come and its ELAPSED_MINUTE is still to be taken (log 3). -/
  elapsedDue : Bool
  deriving DecidableEq, Repr, Inhabited

/-! ## The stored set (R188) -/

/-- A pool record (R8); bit 0 of `days` stands for MO. -/
structure SwitchPoint where
  days : BitVec 7
  weeks : WeekSet
  slot : Nat
  level : Level
  deriving DecidableEq, Repr, Inhabited

/-- An entry of the program table (R9). -/
structure ProgramEntry where
  start : Nat
  length : Nat
  deriving DecidableEq, Repr, Inhabited

/-- What every channel has: program and default level (R9), temperatures (R23), priority (R63, R65). -/
structure ChannelCfg where
  program : Nat
  defaultLevel : Level
  frost : Temp
  setback : Temp
  eco : Temp
  comfort : Temp
  limit : Temp
  priority : Nat
  deriving DecidableEq, Repr, Inhabited

/-- What a zone has beside (R16, R35, R46, R50, R51, R53, R59, R61). -/
structure ZoneCfg where
  preheatEnable : Bool
  rate : Nat
  preheatLimit : Nat
  detectEnable : Bool
  dropThreshold : Nat
  windowTime : Nat
  /-- `none` is PORT, `some n` is HEAD n (R46). -/
  source : Option Nat
  staleLimit : Nat
  period : Nat
  band : Nat
  integralTime : Nat
  fallback : Nat
  requestAt : Nat
  releaseAt : Nat
  deriving DecidableEq, Repr, Inhabited

/-- A layer (R24); an absent field is `none`. -/
structure Layer where
  kind : LayerKind
  setpoint : Option Temp
  remaining : Option Nat
  origin : Origin
  deriving DecidableEq, Repr, Inhabited

/-- The context a park slot holds (R40). -/
structure Park where
  zone : Nat
  layers : List Layer
  integrator : Nat
  rate : Nat
  priority : Nat
  deriving DecidableEq, Repr, Inhabited

/-- What a valve slot serves; zone and dump-eligible are present for ZONE only (R82). -/
inductive Role where
  | unused
  | zone (number : Nat) (dumpEligible : Bool)
  | cylinder
  | sink
  deriving DecidableEq, Repr, Inhabited

/-- A valve slot's configuration (R82). -/
structure ValveCfg where
  role : Role
  weight : Nat
  liftMin : Nat
  liftMax : Nat
  deadband : Nat
  stroke : Nat
  deriving DecidableEq, Repr, Inhabited

/-- The settings of BOILER-SET (R145, R79, R116, R124, R162). -/
structure BoilerCfg where
  leadTime : Nat
  minOn : Nat
  overrunTime : Nat
  minOff : Nat
  highLimitDelta : Nat
  designOutdoor : Temp
  designFlow : Temp
  neutralOutdoor : Temp
  baseFlow : Temp
  shift : Nat
  flowDelta : Nat
  flowMin : Temp
  flowMax : Temp
  sinkMinimum : Nat
  motorAllowance : Nat
  exerciseSlot : Nat
  rampStep : Nat
  deriving DecidableEq, Repr, Inhabited

/-- The function of a digital input, with the fields it takes (R154). -/
inductive InputFunction where
  | none
  | window (zone : Nat)
  | inhibit
  | boilerFault
  | boost (zone : Nat) (setpoint : Temp) (minutes : Nat)
  deriving DecidableEq, Repr, Inhabited

/-- A digital input's configuration (R154). -/
structure InputCfg where
  sensitivity : Sensitivity
  function : InputFunction
  deriving DecidableEq, Repr, Inhabited

/-- One category of a port's attention mask (R177). -/
structure Mask where
  whole : Bool
  objects : ObjectSet
  deriving DecidableEq, Repr, Inhabited

/-- The stored set (R188): channels 1 to 17, zones 1 to 16, pool 0 to 255, programs 1 to 24, park slots 1 to 4,
valve slots 1 to 32, inputs 1 to 4, and the masks of the 16 categories for each port, as lists in that order. -/
structure Stored where
  channels : List ChannelCfg
  zones : List ZoneCfg
  /-- W's differential (R65). -/
  differential : Nat
  pool : List SwitchPoint
  programs : List ProgramEntry
  parks : List (Option Park)
  valves : List ValveCfg
  boiler : BoilerCfg
  inputs : List InputCfg
  masksMain : List Mask
  masksService : List Mask
  deriving DecidableEq, Repr, Inhabited

/-- The settings store (R188, R189): the image's copy of the stored set, the check value written with it, the image
state, the snapshot of a write in progress, and the model's own count of writes cut short, which numbers their free
values (log 43). The image state is the check's verdict, which an erase makes INVALID whatever value stands (log 7). -/
structure Store where
  image : Stored
  check : Nat
  imageValid : Bool
  writing : Option Stored
  cuts : Nat
  deriving DecidableEq, Repr, Inhabited

/-- The edit claim while it is held (R183): holder, lapse timer in seconds, staging copy. -/
structure EditClaim where
  holder : Port
  lapse : Nat
  pool : List SwitchPoint
  programs : List ProgramEntry
  deriving DecidableEq, Repr, Inhabited

/-! ## Schedule unit, setpoint unit, zone regulator (R12, R16, R24, R45) -/

/-- A channel's compiled plan, 288 levels (R12), and its layer stack, bottom first (R24). -/
structure ChannelRun where
  plan : List Level
  stack : List Layer
  deriving DecidableEq, Repr, Inhabited

/-- The fields of the preheat record beside its phase and rise elapsed (R16). -/
structure PreheatRun where
  target : Level
  riseMinute : Nat
  startElapsed : Elapsed
  startReading : Temp
  spoiled : Bool
  learningDone : Bool
  deriving DecidableEq, Repr, Inhabited

/-- The preheat record (R16): the phase is the constructor, every phase holds the fields of `run`, WATCH rise elapsed
too. What the fields hold in IDLE is the model's choice (log 35). -/
inductive Preheat where
  | idle (run : PreheatRun)
  | early (run : PreheatRun)
  | watch (run : PreheatRun) (riseElapsed : Elapsed)
  deriving DecidableEq, Repr, Inhabited

/-- A held room reading with its stamp (R45). -/
structure Reading where
  value : Temp
  stamp : Elapsed
  deriving DecidableEq, Repr, Inhabited

/-- The regulator record of a zone (R45), its preheat record (R16), and whether the pass of this elapsed minute is
still to be taken (R51, log 3). -/
structure ZoneRun where
  reading : Option Reading
  previous : Option Temp
  integrator : Nat
  demand : Nat
  demandCall : Bool
  frostCall : Bool
  sensorless : Bool
  preheat : Preheat
  passDue : Bool
  deriving DecidableEq, Repr, Inhabited

/-! ## Consumer table (R68) -/

/-- A consumer's entry (R68). -/
structure Consumer where
  requesting : Bool
  level : Nat
  deferred : Bool
  heatAvailable : Bool
  deriving DecidableEq, Repr, Inhabited

/-- The consumer table: Z1 to Z16 and W, and the served level (R68). -/
structure ConsumerTable where
  entries : List Consumer
  servedLevel : Nat
  deriving DecidableEq, Repr, Inhabited

/-! ## Valve link controller (R84 to R88) -/

/-- A move in flight (R84), with the stroke time configured at its grant (R95). -/
structure Move where
  start : Nat
  target : Nat
  accepted : Bool
  timer : Option Nat
  stroke : Nat
  deriving DecidableEq, Repr, Inhabited

/-- The run-time record of a valve slot (R84). -/
structure Head where
  state : HeadState
  position : Nat
  calibrated : Bool
  temperature : Option Temp
  move : Option Move
  misses : Nat
  lastMoved : Elapsed
  retries : Nat
  retryDue : Option Elapsed
  deriving DecidableEq, Repr, Inhabited

/-- The requests of the valve link (R86). -/
inductive LinkRequest where
  | poll
  | drive (target : Nat)
  | home
  | stop
  deriving DecidableEq, Repr, Inhabited

/-- A pending command (R87); `sent` marks the command that is in flight as it stands. -/
structure Command where
  slot : Nat
  request : LinkRequest
  sent : Bool
  deriving DecidableEq, Repr, Inhabited

/-- The transaction in flight (R85). -/
structure Transaction where
  slot : Nat
  request : LinkRequest
  deriving DecidableEq, Repr, Inhabited

/-- The valve link controller's own state (R85, R87, R88, R98). -/
structure Link where
  fault : Bool
  transaction : Option Transaction
  commands : List Command
  cursor : Nat
  deriving DecidableEq, Repr, Inhabited

/-! ## Move arbiter (R106, R112) -/

/-- A wanted target (R106). -/
structure Wanted where
  target : Nat
  cls : MoveClass
  deriving DecidableEq, Repr, Inhabited

/-- A queue entry (R112). -/
structure Entry where
  slot : Nat
  op : MoveOp
  target : Nat
  cls : MoveClass
  arrival : Nat
  deferred : Bool
  deriving DecidableEq, Repr, Inhabited

/-- The move arbiter (R106, R112). The queue stands in order of arrival. -/
structure Arbiter where
  wanted : List (Option Wanted)
  queue : List Entry
  arrivals : Nat
  sinkOpen : Bool
  deriving DecidableEq, Repr, Inhabited

/-! ## Boiler controller (R128) -/

/-- The parts of the last computation of the flow setpoint (R150). -/
structure FlowParts where
  outdoor : Temp
  outdoorValid : Bool
  curve : Temp
  shift : Option Int
  zoneFlow : Option Temp
  cylinderFlow : Option Temp
  deriving DecidableEq, Repr, Inhabited

/-- The boiler controller's record (R128), with the min-on hold (R135) and the parts read back by R150. -/
structure Boiler where
  state : BoilerState
  leadTimer : Option Nat
  leadExtended : Bool
  leadHeld : Bool
  overrunTimer : Option Nat
  pumpTimer : Option Nat
  fireMark : Elapsed
  restMark : Elapsed
  heatDump : Bool
  minOnHold : Bool
  flowSetpoint : Temp
  modulationTarget : Nat
  parts : FlowParts
  deriving DecidableEq, Repr, Inhabited

/-! ## Field I/O (R101, R151, R155, R161, R162) -/

/-- A wired sensor's record (R151); `due` says that the sample of this second tick is still to be taken (log 3). -/
structure SensorRec where
  value : Option Temp
  valid : Bool
  sampled : Bool
  due : Bool
  deriving DecidableEq, Repr, Inhabited

/-- A digital input's debounce record (R155); `true` is high. -/
structure InputRec where
  last : Option Bool
  level : Option Bool
  edges : Nat
  deriving DecidableEq, Repr, Inhabited

/-- The ramp record (R162). -/
structure Ramp where
  start : Nat
  target : Nat
  next : Nat
  timer : Nat
  deriving DecidableEq, Repr, Inhabited

/-- Field I/O. -/
structure FieldIO where
  flow : SensorRec
  outdoor : SensorRec
  cylinder : SensorRec
  /-- Second ticks since the last sample, 0 to 9; at 0 the next second tick samples (R151). -/
  samplePhase : Nat
  inputs : List InputRec
  /-- The actuator supply state: `true` is OK, `false` LOW (R101). -/
  supplyOk : Bool
  /-- The qualification time in tenths of a second, 0 to 100 (R101). -/
  supplyQual : Nat
  /-- The last supply measurement in tenths of a volt (R101, R159). -/
  supplyLast : Option Nat
  /-- The present modulation output (R162). -/
  output : Nat
  ramp : Option Ramp
  /-- The burner enable relay is energised (R161). -/
  burner : Bool
  /-- The pump relay is energised (R161). -/
  pump : Bool
  deriving DecidableEq, Repr, Inhabited

/-! ## Message ports (R166, R169, R178, R182) -/

/-- A port's receiver (R166): idle, waiting for the length byte, or building a frame of `length` bytes of kind and
payload, of which `bytes` have come. -/
inductive Receiver where
  | idle
  | awaitLength
  | building (length : Nat) (bytes : List Byte)
  deriving DecidableEq, Repr, Inhabited

/-- The marks byte of a DONE reply (R165). -/
structure Marks where
  clamped : Bool := false
  rejected : Bool := false
  ended : Bool := false
  deriving DecidableEq, Repr, Inhabited

/-- What a reply says (R165, R170). -/
inductive ReplyBody where
  | done (marks : Marks) (data : List Byte)
  | refused (code : RefusalCode)
  | invalid (program : Nat)
  deriving DecidableEq, Repr

/-- A reply: the request's kind and what it is answered (R170). -/
structure Reply where
  kind : Byte
  body : ReplyBody
  deriving DecidableEq, Repr

/-- A frame of a transmit list (R169). A notice's category word is fixed when its first byte goes out (R178). -/
inductive TxFrame where
  | served (reply : Reply)
  | busy (reply : Reply)
  | notice (word : Option (BitVec 16))
  deriving DecidableEq, Repr

/-- A port's transmit list (R169): the frame being sent and the frames whose first byte has not gone out. -/
structure Transmit where
  sending : Option TxFrame
  queue : List TxFrame
  deriving DecidableEq, Repr

/-- A category present in an attention set (R178). Objects of SENSOR are the zones in bits 0 to 15 and the sensors
in bits 24 to 26, as R171 lays the words out. -/
structure Attention where
  objects : ObjectSet
  marks : Byte
  notifying : Bool
  deriving DecidableEq, Repr, Inhabited

/-- A port's table cursor (R182). -/
structure Cursor where
  tag : Nat
  next : Nat
  deriving DecidableEq, Repr, Inhabited

/-- A message port: receiver, transmit list, attention set by category number, cursor. -/
structure PortState where
  rx : Receiver
  tx : Transmit
  attn : List (Option Attention)
  cursor : Option Cursor
  deriving DecidableEq, Repr

/-! ## The machine -/

/-- The whole state of the part, and the queue of commands that wait. -/
structure State where
  clock : Clock
  /-- The live stored set. -/
  cfg : Stored
  store : Store
  claim : Option EditClaim
  channels : List ChannelRun
  zones : List ZoneRun
  /-- W requesting (R65). -/
  wRequest : Bool
  table : ConsumerTable
  heads : List Head
  link : Link
  arbiter : Arbiter
  boiler : Boiler
  field : FieldIO
  main : PortState
  service : PortState
  /-- A RESTART has been accepted and has not yet acted (R175). -/
  restartPending : Bool
  /-- A WARM reset is acting; the slots whose STOP is still to be sent (R104). -/
  acting : Option (List Nat)
  /-- The commands that wait, first in first out. -/
  pending : List Instr
  deriving DecidableEq, Repr

/-- Reasons the machine stops with a fault. There is none: the manual names no event that stops the part; what it
calls a fault is state (INVENTORY.md, Faults). So no step raises one, which is safe. -/
inductive Fault where
  deriving DecidableEq, Repr

/-- Reasons a step has no meaning. -/
inductive Refusal where
  /-- Raised by an arm of `exec` whose command has no meaning yet; no arm raises it. Safe: it stops. -/
  | notModelled (mnemonic : String)
  deriving DecidableEq, Repr

/-! ## Defaults (the owning rules' tables) -/

/-- Defaults of a zone's channel (R9, R23, R63). -/
def ChannelCfg.zoneDefault : ChannelCfg :=
  { program := 0, defaultLevel := .setback, frost := 70, setback := 160, eco := 185, comfort := 210, limit := 280,
    priority := 2 }

/-- Defaults of channel W (R9, R23, R65). -/
def ChannelCfg.wDefault : ChannelCfg :=
  { program := 0, defaultLevel := .eco, frost := 50, setback := 400, eco := 450, comfort := 550, limit := 650,
    priority := 3 }

/-- Defaults of a zone (R16, R35, R46, R50, R51, R53, R59, R61). -/
def ZoneCfg.initial : ZoneCfg :=
  { preheatEnable := true, rate := 20, preheatLimit := 120, detectEnable := true, dropThreshold := 10,
    windowTime := 20, source := none, staleLimit := 20, period := 5, band := 20, integralTime := 60,
    fallback := 200, requestAt := 50, releaseAt := 20 }

/-- A pool record after defaults are loaded (R11). -/
def SwitchPoint.initial : SwitchPoint := { days := 0, weeks := .ab, slot := 0, level := .frost }

/-- A program table entry after defaults are loaded (R11). -/
def ProgramEntry.initial : ProgramEntry := { start := 0, length := 0 }

/-- Defaults of a valve slot (R82). -/
def ValveCfg.initial : ValveCfg :=
  { role := .unused, weight := 0, liftMin := 0, liftMax := 100, deadband := 3, stroke := 120 }

/-- Defaults of the settings of BOILER-SET (R145, R79, R116, R124, R162). -/
def BoilerCfg.initial : BoilerCfg :=
  { leadTime := 30, minOn := 3, overrunTime := 120, minOff := 5, highLimitDelta := 100, designOutdoor := -100,
    designFlow := 700, neutralOutdoor := 200, baseFlow := 250, shift := 50, flowDelta := 150, flowMin := 250,
    flowMax := 750, sinkMinimum := 30, motorAllowance := 2, exerciseSlot := 18, rampStep := 8 }

/-- Defaults of a digital input (R154). -/
def InputCfg.initial : InputCfg := { sensitivity := .high, function := .none }

/-- The stored set when the defaults are loaded (R192). -/
def Stored.defaults : Stored :=
  { channels := List.replicate 16 .zoneDefault ++ [.wDefault]
    zones := List.replicate 16 .initial
    differential := 50
    pool := List.replicate 256 .initial
    programs := List.replicate 24 .initial
    parks := List.replicate 4 none
    valves := List.replicate 32 .initial
    boiler := .initial
    inputs := List.replicate 4 .initial
    masksMain := List.replicate 16 ⟨false, 0⟩
    masksService := List.replicate 16 ⟨false, 0⟩ }

/-! ## The records after a reset -/

/-- The preheat record's fields after a reset: learning done clear (R16); the others are named by the model (log 35). -/
def PreheatRun.initial : PreheatRun :=
  { target := .frost, riseMinute := 0, startElapsed := 0, startReading := 0, spoiled := false, learningDone := false }

/-- A zone's record after a reset (R45); the preheat record is IDLE (R16). -/
def ZoneRun.initial : ZoneRun :=
  { reading := none, previous := none, integrator := 0, demand := 0, demandCall := false, frostCall := false,
    sensorless := false, preheat := .idle .initial, passDue := false }

/-- A consumer's entry after a reset (R68). -/
def Consumer.initial : Consumer := { requesting := false, level := 0, deferred := false, heatAvailable := false }

/-- A head's record after a reset (R84). -/
def Head.initial : Head :=
  { state := .unknown, position := 0, calibrated := false, temperature := none, move := none, misses := 0,
    lastMoved := 0, retries := 0, retryDue := none }

/-- A sensor's record after a reset (R151). -/
def SensorRec.initial : SensorRec := { value := none, valid := false, sampled := false, due := false }

/-- An input's debounce record after a reset (R160). -/
def InputRec.initial : InputRec := { last := none, level := none, edges := 0 }

/-- Field I/O after a reset (R101, R151, R160, R161, R162). -/
def FieldIO.initial : FieldIO :=
  { flow := .initial, outdoor := .initial, cylinder := .initial, samplePhase := 0
    inputs := List.replicate 4 .initial, supplyOk := false, supplyQual := 0, supplyLast := none
    output := 0, ramp := none, burner := false, pump := false }

/-- A channel's plan while the clock is unset, at the default level throughout (R13), and an empty stack (R24). -/
def ChannelRun.unset (l : Level) : ChannelRun := { plan := List.replicate 288 l, stack := [] }

/-- A port after the COLD reset of a part whose image is INVALID: CLOCK, RESTART and STORE with DEFAULTS stand in
the attention set (R179, R192), and the notice owed for them is being sent (R169). -/
def PortState.afterBlankReset : PortState :=
  { rx := .idle
    tx := { sending := some (.notice (some 0x4003)), queue := [] }
    attn := [some ⟨0, 0, true⟩, some ⟨0, 0, true⟩] ++ List.replicate 12 none ++ [some ⟨0, 2, true⟩, none]
    cursor := none }

/-- The machine right after a COLD reset (11.5). The image is INVALID, so the defaults are loaded (log 5); its check
value, which no rule gives and nothing reads, is 0 (log 7). -/
def State.reset : State :=
  { clock := { minuteOfWeek := 0, wallSeconds := 0, parity := .a, clockSet := false, elapsed := 0, tickCount := 0,
               wallDue := false, elapsedDue := false }
    cfg := .defaults
    store := { image := .defaults, check := 0, imageValid := false, writing := none, cuts := 0 }
    claim := none
    channels := List.replicate 16 (.unset .setback) ++ [.unset .eco]
    zones := List.replicate 16 .initial
    wRequest := false
    table := { entries := List.replicate 17 .initial, servedLevel := 0 }
    heads := List.replicate 32 .initial
    link := { fault := false, transaction := none, commands := [], cursor := 32 }
    arbiter := { wanted := List.replicate 32 none, queue := [], arrivals := 0, sinkOpen := false }
    boiler := { state := .rest, leadTimer := none, leadExtended := false, leadHeld := false, overrunTimer := none,
                pumpTimer := none, fireMark := 0, restMark := 0, heatDump := false, minOnHold := false,
                flowSetpoint := 250, modulationTarget := 71,
                parts := { outdoor := 0, outdoorValid := false, curve := 550, shift := none, zoneFlow := none,
                           cylinderFlow := none } }
    field := .initial
    main := .afterBlankReset
    service := .afterBlankReset
    restartPending := false
    acting := none
    pending := [] }

end Sys2Proof.Machine
end

