-- ==== Sys2Proof/Config.lean ====
section
/-! DEFINITION. What a part fixes and the manual does not give: the identity sector (R191), the function that computes
the check value of a settings image (R188), and what a write cut short leaves in the image (R189). No rule states them,
so they have no body and no proof can lean on a value of theirs (logs 6, 7 and 43). -/

namespace Sys2Proof

/-- The vendor code of the identity sector, 16 bits (R191). -/
opaque Config.vendorCode : BitVec 16

/-- The part code of the identity sector, 16 bits (R191). -/
opaque Config.partCode : BitVec 16

/-- The revision of the identity sector, 8 bits (R191). -/
opaque Config.revision : BitVec 8

/-- The serial number of the identity sector, 32 bits (R191). -/
opaque Config.serialNumber : BitVec 32

/-- The check value computed over a copy of the stored set (R188). -/
opaque Config.checkValue : Machine.Stored → Nat

/-- The contents that the cut write with this number leaves in the image, part written (R189). -/
opaque Config.partWritten : Nat → Machine.Stored

/-- The number that the check value after the cut write with this number is taken from (R189). -/
opaque Config.partCheck : Nat → Nat

end Sys2Proof
end

