-- ==== Sys2Proof/Machine/Arith.lean ====
section
/-! DEFINITION. Numbered lists, rounding, clamping and time differences, as 00_scope.md (CONVENTIONS) and R2 give
them. -/

namespace Sys2Proof.Machine

/-- Item number `n`, counted from 1, of a list; `d` where there is none. -/
def item {α : Type} (l : List α) (n : Nat) (d : α) : α :=
  match n with
  | 0 => d
  | k + 1 => l.getD k d

/-- The list with item number `n`, counted from 1, replaced; unchanged where there is none. -/
def setItem {α : Type} (l : List α) (n : Nat) (x : α) : List α :=
  match n with
  | 0 => l
  | k + 1 => l.set k x

/-- The numbers 1 to `n`. -/
def numbers (n : Nat) : List Nat := (List.range n).map (· + 1)

/-- Clamp to `lo … hi` (CLAMPING). -/
def clamp (lo hi x : Int) : Int := if x < lo then lo else if hi < x then hi else x

/-- Clamp a count to `lo … hi` (CLAMPING). -/
def clampNat (lo hi x : Nat) : Nat := if x < lo then lo else if hi < x then hi else x

/-- `n / d` rounded half away from zero, for `d > 0` (ROUNDING). -/
def roundHalfAway (n : Int) (d : Nat) : Int :=
  if n < 0 then -(((2 * n.natAbs + d) / (2 * d) : Nat) : Int) else (((2 * n.natAbs + d) / (2 * d) : Nat) : Int)

/-- `n / d` rounded half up, for counts (ROUNDING). -/
def roundHalfUp (n d : Nat) : Nat := (2 * n + d) / (2 * d)

/-- `n / d` truncated toward zero (ROUNDING). -/
def truncDiv (n : Int) (d : Nat) : Int :=
  if n < 0 then -((n.natAbs / d : Nat) : Int) else ((n.natAbs / d : Nat) : Int)

/-- The ceiling of `n / d`, for counts (ROUNDING). -/
def ceilDiv (n d : Nat) : Nat := (n + d - 1) / d

/-- The age at `now` of something stamped `mark`: the difference modulo 4 294 967 296 (R2). -/
def minutesSince (now mark : Elapsed) : Nat := (now - mark).toNat

/-- One second tick of a timer: the seconds remaining, down to 0, where its expiry is due (log 3). -/
def tickTimer (t : Option Nat) : Option Nat := t.map (· - 1)

/-- A timer whose expiry is due. -/
def timerExpired (t : Option Nat) : Bool := t == some 0

/-- A timer started with `seconds`; with 0 seconds it is not started (R131, R136, R140). -/
def startTimer (seconds : Nat) : Option Nat := if seconds = 0 then none else some seconds

/-- The one-object set of object number `n`, counted from 1 (R165). -/
def object (n : Nat) : ObjectSet := if n = 0 then 0 else BitVec.ofNat 32 (2 ^ (n - 1))

/-- The set of the numbered objects of a list (R165). -/
def objectsOf (ns : List Nat) : ObjectSet := ns.foldl (fun w n => w ||| object n) 0

end Sys2Proof.Machine
end

