-- ==== Sys2Proof/Machine/Flags.lean ====
section
/-! DEFINITION. What the manual makes a function of other state: base level and temperature (R15), the effective
setpoint (R33), freshness (R50), activity of an input (R156), blockers (R129), committed position and capacity
(R75, R76), the served set (R68), the deadlines of min-on and min-off (R128), the pump reasons (R144). -/

namespace Sys2Proof.Machine

/-! ## Numbered parts of the state -/

/-- The configuration of channel `c`. -/
def State.channelCfg (s : State) (c : Nat) : ChannelCfg := item s.cfg.channels c .zoneDefault

/-- The configuration of zone `k`. -/
def State.zoneCfg (s : State) (k : Nat) : ZoneCfg := item s.cfg.zones k .initial

/-- The configuration of valve slot `v`. -/
def State.valveCfg (s : State) (v : Nat) : ValveCfg := item s.cfg.valves v .initial

/-- The configuration of input `n`. -/
def State.inputCfg (s : State) (n : Nat) : InputCfg := item s.cfg.inputs n .initial

/-- Plan and stack of channel `c`. -/
def State.channel (s : State) (c : Nat) : ChannelRun := item s.channels c ⟨[], []⟩

/-- The regulator record of zone `k`. -/
def State.zone (s : State) (k : Nat) : ZoneRun := item s.zones k .initial

/-- The run-time record of valve slot `v`. -/
def State.head (s : State) (v : Nat) : Head := item s.heads v .initial

/-- The consumer table entry of channel `c`. -/
def State.consumer (s : State) (c : Nat) : Consumer := item s.table.entries c .initial

/-- The debounce record of input `n`. -/
def State.inputRec (s : State) (n : Nat) : InputRec := item s.field.inputs n .initial

/-- The wanted target of valve slot `v` (R106). -/
def State.wantedOf (s : State) (v : Nat) : Option Wanted := item s.arbiter.wanted v none

/-- The queue entry of valve slot `v`: at most one (R112). -/
def State.entryOf (s : State) (v : Nat) : Option Entry := s.arbiter.queue.find? (·.slot == v)

/-- A port's state. -/
def State.port (s : State) : Port → PortState
  | .main => s.main
  | .service => s.service

/-- A sensor's record. -/
def State.sensor (s : State) : Sensor → SensorRec
  | .flow => s.field.flow
  | .outdoor => s.field.outdoor
  | .cylinder => s.field.cylinder

/-- Zone numbers 1 to 16. -/
def zoneNumbers : List Nat := numbers 16

/-- Channel numbers 1 to 17, W being 17. -/
def channelNumbers : List Nat := numbers 17

/-- Valve slot numbers 1 to 32. -/
def slotNumbers : List Nat := numbers 32

/-- Input numbers 1 to 4. -/
def inputNumbers : List Nat := numbers 4

/-- Channel number of W (00_scope.md, CHANNELS). -/
def channelW : Nat := 17

/-! ## Time and plans (R1, R12, R15) -/

/-- The minute of day (R1). -/
def Clock.minuteOfDay (c : Clock) : Nat := c.minuteOfWeek % 1440

/-- The day index, 0 for MO (00_scope.md, TIME OF WEEK). -/
def Clock.day (c : Clock) : Nat := c.minuteOfWeek / 1440

/-- The current plan slot, 0 to 143 (R12). -/
def Clock.slot (c : Clock) : Nat := c.minuteOfDay / 10

/-- The other parity. -/
def Parity.other : Parity → Parity
  | .a => .b
  | .b => .a

/-- A channel's present temperature for a level (R15, R23). -/
def ChannelCfg.temperature (c : ChannelCfg) : Level → Temp
  | .frost => c.frost
  | .setback => c.setback
  | .eco => c.eco
  | .comfort => c.comfort

/-- The plan level of channel `c` at plan slot `i`. -/
def State.planLevel (s : State) (c i : Nat) : Level := (s.channel c).plan.getD i (s.channelCfg c).defaultLevel

/-- The base level: the plan entry at the current plan slot (R15). -/
def State.baseLevel (s : State) (c : Nat) : Level := s.planLevel c s.clock.slot

/-- The level that gives the base temperature: the target of an EARLY preheat, else the base level (R15, R18). -/
def State.baseTempLevel (s : State) (c : Nat) : Level :=
  match (s.zone c).preheat with
  | .early run => run.target
  | _ => s.baseLevel c

/-- The base temperature (R15). -/
def State.baseTemp (s : State) (c : Nat) : Temp := (s.channelCfg c).temperature (s.baseTempLevel c)

/-! ## Parking and the effective setpoint (R33, R40) -/

/-- The number of the park slot that holds zone `k`, counting from `n` (R40). -/
def parkSlotFrom (k : Nat) : Nat → List (Option Park) → Option Nat
  | _, [] => none
  | n, p :: ps => if p.any (·.zone == k) then some n else parkSlotFrom k (n + 1) ps

/-- The park slot that holds zone `k`'s context. -/
def State.parkSlot (s : State) (k : Nat) : Option Nat := parkSlotFrom k 1 s.cfg.parks

/-- The parked flag: a zone is parked exactly when one park slot holds its context (R40). -/
def State.parked (s : State) (k : Nat) : Bool := (s.parkSlot k).isSome

/-- The top layer of a stack held bottom first. -/
def topLayer (stack : List Layer) : Option Layer := stack.getLast?

/-- A stack whose top is a WINDOW layer. -/
def windowOnTop (stack : List Layer) : Bool := (topLayer stack).any (·.kind == .window)

/-- The effective setpoint (R33). -/
def State.effectiveSetpoint (s : State) (c : Nat) : Temp :=
  let cfg := s.channelCfg c
  if s.parked c then cfg.frost
  else
    clamp cfg.frost cfg.limit <|
      match topLayer (s.channel c).stack with
      | none => s.baseTemp c
      | some l => if l.kind = .window then cfg.frost else l.setpoint.getD cfg.frost

/-! ## Readings (R50) -/

/-- The reading of zone `k`, if it is fresh: present, and its age at most the stale limit (R50). -/
def State.freshReading (s : State) (k : Nat) : Option Temp :=
  match (s.zone k).reading with
  | none => none
  | some r => if minutesSince s.clock.elapsed r.stamp ≤ (s.zoneCfg k).staleLimit then some r.value else none

/-! ## Digital inputs and blockers (R129, R156) -/

/-- An input with this sensitivity is active at this debounced level (R156). -/
def activeAt (sens : Sensitivity) (level : Option Bool) : Bool :=
  match sens, level with
  | .high, some true => true
  | .low, some false => true
  | _, _ => false

/-- Input `n` is active (R156). -/
def State.inputActive (s : State) (n : Nat) : Bool := activeAt (s.inputCfg n).sensitivity (s.inputRec n).level

/-- The inputs of function `f` that are active. -/
def State.activeInputs (s : State) (f : InputFunction) : List Nat :=
  inputNumbers.filter fun n => (s.inputCfg n).function == f && s.inputActive n

/-- A window contact configured for zone `k` is active (R37). -/
def State.windowContact (s : State) (k : Nat) : Bool := !(s.activeInputs (.window k)).isEmpty

/-- The boiler fault input is active (R129). -/
def State.faultInput (s : State) : Bool := !(s.activeInputs .boilerFault).isEmpty

/-- The inhibit input is active (R129). -/
def State.inhibitInput (s : State) : Bool := !(s.activeInputs .inhibit).isEmpty

/-- The blockers other than the boiler fault: inhibit, or an invalid flow sensor (R129). -/
def State.held (s : State) : Bool := s.inhibitInput || !s.field.flow.valid

/-- A blocker is present (R129). -/
def State.blocked (s : State) : Bool := s.faultInput || s.held

/-! ## Committed capacity (R75 to R78) -/

/-- Committed position of a head (R75). -/
def Head.committed (h : Head) : Nat :=
  match h.state with
  | .ready | .stalled => h.position
  | .moving => h.move.elim 0 fun m => min m.start m.target
  | .homing | .unknown | .absent => 0

/-- Committed position of valve slot `v` (R75). -/
def State.committed (s : State) (v : Nat) : Nat := if s.link.fault then 0 else (s.head v).committed

/-- A slot whose role is not UNUSED. -/
def State.used (s : State) (v : Nat) : Bool := (s.valveCfg v).role != .unused

/-- The raw sum with slot `v` counted at `at v` (R76, R78). -/
def State.rawSumWith (s : State) (positions : Nat → Nat) : Nat :=
  slotNumbers.foldl (fun sum v => if s.used v then sum + (s.valveCfg v).weight * positions v else sum) 0

/-- The raw sum of committed capacity (R76). -/
def State.rawSum (s : State) : Nat := s.rawSumWith s.committed

/-- Capacity from a raw sum: the floor of the hundredth, at most 100 (R76). -/
def capacityOf (raw : Nat) : Nat := min (raw / 100) 100

/-- Committed capacity C (R76). -/
def State.capacity (s : State) : Nat := capacityOf s.rawSum

/-- The sink minimum Cmin (R79). -/
def State.sinkMinimum (s : State) : Nat := s.cfg.boiler.sinkMinimum

/-- The committed position a slot would have once its entry were granted (R78). -/
def State.trialPosition (s : State) (e : Entry) : Nat :=
  match e.op with
  | .drive => min (s.committed e.slot) e.target
  | .home => 0

/-- The trial capacity of an entry (R78). -/
def State.trialCapacity (s : State) (e : Entry) : Nat :=
  capacityOf (s.rawSumWith fun v => if v = e.slot then s.trialPosition e else s.committed v)

/-- A head that runs a move. -/
def Head.running (h : Head) : Bool := h.state == .moving || h.state == .homing

/-- The slots whose heads are MOVING or HOMING. -/
def State.runningSlots (s : State) : List Nat := slotNumbers.filter fun v => (s.head v).running

/-- The allowance units in use (R116). -/
def State.unitsInUse (s : State) : Nat := s.runningSlots.length

/-- The slots of a role SINK. -/
def State.sinkSlots (s : State) : List Nat := slotNumbers.filter fun v => (s.valveCfg v).role == .sink

/-- The slots of role CYLINDER. -/
def State.cylinderSlots (s : State) : List Nat := slotNumbers.filter fun v => (s.valveCfg v).role == .cylinder

/-- A slot that serves zone `k`. -/
def Role.serves (k : Nat) : Role → Bool
  | .zone j _ => j == k
  | _ => false

/-- The slots that serve zone `k`. -/
def State.zoneSlots (s : State) (k : Nat) : List Nat := slotNumbers.filter fun v => (s.valveCfg v).role.serves k

/-- A role ZONE (R82). -/
def Role.isZone : Role → Bool
  | .zone _ _ => true
  | .unused | .cylinder | .sink => false

/-- The slots of role ZONE, dump-eligible or not. -/
def State.radiatorSlots (s : State) : List Nat := slotNumbers.filter fun v => (s.valveCfg v).role.isZone

/-- A dump-eligible slot of role ZONE (R82, R123). -/
def Role.dumpEligible : Role → Bool
  | .zone _ d => d
  | .unused | .cylinder | .sink => false

/-! ## Consumers (R68, R63, R66) -/

/-- A consumer is served: requesting and not deferred (R68). -/
def Consumer.served (c : Consumer) : Bool := c.requesting && !c.deferred

/-- The channels of the served set (R68). -/
def State.servedSet (s : State) : List Nat := channelNumbers.filter fun c => (s.consumer c).served

/-- Some consumer is requesting; the served set is empty exactly when none is (R70). -/
def State.anyRequest (s : State) : Bool := s.table.entries.any (·.requesting)

/-- The level at which zone `k` requests, 0 for not requesting (R63). -/
def State.zoneRequest (s : State) (k : Nat) : Nat :=
  let z := s.zone k
  if z.frostCall then 3 else if z.demandCall then (s.channelCfg k).priority else 0

/-- The level at which W requests, 0 for not requesting (R66). -/
def State.wRequestLevel (s : State) : Nat := if s.wRequest then (s.channelCfg channelW).priority else 0

/-- The consumer a slot's openings belong to: the zone, or W (R74). -/
def Role.consumer : Role → Option Nat
  | .zone k _ => some k
  | .cylinder => some channelW
  | .unused | .sink => none

/-- The consumer of slot `v` is deferred (R120). -/
def State.consumerDeferred (s : State) (v : Nat) : Bool :=
  (s.valveCfg v).role.consumer.any fun c => (s.consumer c).deferred

/-! ## Queue entries (R117 to R121) -/

/-- A drive above the committed position is an opening (R120). -/
def State.isOpening (s : State) (e : Entry) : Bool := e.op == .drive && s.committed e.slot < e.target

/-- A drive below the committed position, or a homing from above 0, is a closing (R120). -/
def State.isClosing (s : State) (e : Entry) : Bool :=
  match e.op with
  | .drive => e.target < s.committed e.slot
  | .home => 0 < s.committed e.slot

/-- The gated states (R121). -/
def Boiler.gates (b : Boiler) : Bool :=
  match b.state with
  | .lead | .firing | .overrun => true
  | .faulted => b.pumpTimer.isSome
  | .idle | .rest => false

/-- A gated closing (R121). -/
def State.gatedClosing (s : State) (e : Entry) : Bool :=
  s.boiler.gates && s.trialCapacity e < s.capacity && s.trialCapacity e < s.sinkMinimum

/-- The head states that take an operation (R117). -/
def headTakes (st : HeadState) : MoveOp → Bool
  | .drive => st == .ready
  | .home => st == .ready || st == .unknown || st == .stalled

/-- An entry is eligible for a grant (R117). -/
def State.eligible (s : State) (e : Entry) : Bool :=
  !s.link.fault && s.field.supplyOk && headTakes (s.head e.slot).state e.op && !e.deferred && !s.gatedClosing e

/-- The precedence of a class, 0 the highest (R112). -/
def MoveClass.rank : MoveClass → Nat
  | .safety => 0
  | .normal => 1
  | .homing => 2
  | .exercise => 3

/-- The queue in grant order: by class, and in order of arrival within a class (R118). -/
def grantOrder (queue : List Entry) : List Entry :=
  queue.filter (·.cls == .safety) ++ queue.filter (·.cls == .normal) ++ queue.filter (·.cls == .homing)
    ++ queue.filter (·.cls == .exercise)

/-! ## Boiler (R128, R144) -/

/-- Min-on has elapsed (R128). -/
def State.minOnElapsed (s : State) : Bool :=
  s.cfg.boiler.minOn ≤ minutesSince s.clock.elapsed s.boiler.fireMark

/-- Min-off has elapsed (R128). -/
def State.minOffElapsed (s : State) : Bool :=
  s.cfg.boiler.minOff ≤ minutesSince s.clock.elapsed s.boiler.restMark

/-- The frost run of the pump: the outdoor sensor is valid and below 30 (R144). -/
def State.frostRun (s : State) : Bool := s.field.outdoor.valid && s.field.outdoor.value.any (· < 30)

/-- The pump reasons in the order of R144's table: lead, firing, overrun, fault, dump, frost run. -/
def State.pumpReasons (s : State) : List Bool :=
  [s.boiler.state == .lead, s.boiler.state == .firing, s.boiler.state == .overrun,
    s.boiler.state == .faulted && s.boiler.pumpTimer.isSome, s.boiler.heatDump, s.frostRun]

/-- The pump relay is called for (R144). -/
def State.pumpCalled (s : State) : Bool := s.pumpReasons.any id

/-! ## Stored set (R168, R189) -/

/-- A store write is in progress (R189). -/
def State.storeWriting (s : State) : Bool := s.store.writing.isSome

end Sys2Proof.Machine
end

