-- ==== Sys2Proof/Machine/Operands.lean ====
section
/-! DEFINITION. The codes of named values and the encoding of payload fields, both ways (R165, R170, R171), and
the frame of a reply or a notice. Where the manual leaves an encoding open the choice is log 8 or log 9. -/

namespace Sys2Proof.Machine

/-! ## Codes: the position, from 0, in the list in which the value is first defined (R171) -/

def Parity.code : Parity → Nat
  | .a => 0
  | .b => 1

def Parity.ofCode : Nat → Option Parity
  | 0 => some .a
  | 1 => some .b
  | _ => none

def WeekSet.code : WeekSet → Nat
  | .a => 0
  | .b => 1
  | .ab => 2

def WeekSet.ofCode : Nat → Option WeekSet
  | 0 => some .a
  | 1 => some .b
  | 2 => some .ab
  | _ => none

def Level.code : Level → Nat
  | .frost => 0
  | .setback => 1
  | .eco => 2
  | .comfort => 3

def Level.ofCode : Nat → Option Level
  | 0 => some .frost
  | 1 => some .setback
  | 2 => some .eco
  | 3 => some .comfort
  | _ => none

def LayerKind.code : LayerKind → Nat
  | .timed => 0
  | .untilNext => 1
  | .hold => 2
  | .window => 3

def LayerKind.ofCode : Nat → Option LayerKind
  | 0 => some .timed
  | 1 => some .untilNext
  | 2 => some .hold
  | 3 => some .window
  | _ => none

def Origin.code : Origin → Nat
  | .main => 0
  | .service => 1
  | .input => 2
  | .detect => 3

def Role.code : Role → Nat
  | .unused => 0
  | .zone _ _ => 1
  | .cylinder => 2
  | .sink => 3

def MoveClass.code : MoveClass → Nat
  | .safety => 0
  | .normal => 1
  | .homing => 2
  | .exercise => 3

def MoveOp.code : MoveOp → Nat
  | .drive => 0
  | .home => 1

def HeadState.code : HeadState → Nat
  | .unknown => 0
  | .homing => 1
  | .ready => 2
  | .moving => 3
  | .stalled => 4
  | .absent => 5

def BoilerState.code : BoilerState → Nat
  | .idle => 0
  | .lead => 1
  | .firing => 2
  | .overrun => 3
  | .rest => 4
  | .faulted => 5

def Sensitivity.code : Sensitivity → Nat
  | .high => 0
  | .low => 1
  | .rise => 2
  | .fall => 3

def Sensitivity.ofCode : Nat → Option Sensitivity
  | 0 => some .high
  | 1 => some .low
  | 2 => some .rise
  | 3 => some .fall
  | _ => none

def InputFunction.code : InputFunction → Nat
  | .none => 0
  | .window _ => 1
  | .inhibit => 2
  | .boilerFault => 3
  | .boost _ _ _ => 4

/-- The requests of the valve link, in the order of R86's table. -/
def LinkRequest.code : LinkRequest → Nat
  | .poll => 0
  | .drive _ => 1
  | .home => 2
  | .stop => 3

/-- Refusal codes (R165). -/
def RefusalCode.code : RefusalCode → Nat
  | .busy => 1
  | .range => 2
  | .state => 3
  | .claimed => 4
  | .noClaim => 5
  | .full => 6
  | .unknownKind => 7

/-- The number of an attention category (R165). -/
def Category.number : Category → Nat
  | .clock => 0
  | .restart => 1
  | .stack => 2
  | .sensor => 3
  | .stall => 4
  | .absent => 5
  | .link => 6
  | .supply => 7
  | .boiler => 8
  | .capacity => 9
  | .sink => 10
  | .overheat => 11
  | .input => 12
  | .edit => 13
  | .store => 14
  | .frame => 15

/-- The kinds of objects of an attention category (R176). -/
inductive ObjectKind where
  | none
  | channels
  | zonesAndSensors
  | slots
  | inputs
  | sensors
  deriving DecidableEq, Repr

/-- The objects of category number `c` (R176). -/
def objectKind : Nat → ObjectKind
  | 2 => .channels
  | 3 => .zonesAndSensors
  | 4 | 5 | 6 | 7 | 9 | 10 => .slots
  | 8 | 12 => .inputs
  | 11 => .sensors
  | _ => .none

/-- The object words a kind of objects admits (R176): 17 channels; zones in bits 0 to 15 and sensors in bits 24 to
26; 32 slots; 4 inputs; 3 sensors. -/
def ObjectKind.range : ObjectKind → ObjectSet
  | .none => 0
  | .channels => 0x1FFFF
  | .zonesAndSensors => 0x0700FFFF
  | .slots => 0xFFFFFFFF
  | .inputs => 0xF
  | .sensors => 0x7

/-- The bytes of an object set of this kind (R165, R171). -/
def ObjectKind.width : ObjectKind → Nat
  | .none => 0
  | .channels => 3
  | .zonesAndSensors | .slots => 4
  | .inputs | .sensors => 1

/-! ## Writing fields (R170, R171) -/

/-- A one-byte number. -/
def byteOf (n : Nat) : List Byte := [BitVec.ofNat 8 n]

/-- `count` bytes of a number, low byte first. -/
def bytesLow : Nat → Nat → List Byte
  | 0, _ => []
  | k + 1, n => BitVec.ofNat 8 n :: bytesLow k (n / 256)

/-- A 16-bit value, low byte first, in two's complement where it is negative. -/
def wordOf (i : Int) : List Byte := bytesLow 2 (BitVec.ofInt 16 i).toNat

/-- A 32-bit value, low byte first. -/
def longOf (n : Nat) : List Byte := bytesLow 4 n

/-- A two-valued indication: 1 for the first of the two values. -/
def flagOf (b : Bool) : List Byte := [if b then 1 else 0]

/-- A field that may be absent: presence byte 0, or presence byte 1 and the value. -/
def optOf {α : Type} (enc : α → List Byte) : Option α → List Byte
  | none => [0]
  | some a => 1 :: enc a

/-- An object set of a category (R165, R171). -/
def objectsBytes (kind : ObjectKind) (w : ObjectSet) : List Byte := bytesLow kind.width w.toNat

/-- The set of channels of a list, as a 24-bit word (R165). -/
def channelSetOf (ns : List Nat) : List Byte := bytesLow 3 (objectsOf ns).toNat

/-! ## Reading fields -/

/-- Read a byte. -/
def takeByte : List Byte → Option (Nat × List Byte)
  | [] => none
  | b :: r => some (b.toNat, r)

/-- Read `count` bytes, low byte first. -/
def takeLow : Nat → List Byte → Option (Nat × List Byte)
  | 0, r => some (0, r)
  | _ + 1, [] => none
  | k + 1, b :: r => (takeLow k r).map fun (n, rest) => (b.toNat + 256 * n, rest)

/-- Read an unsigned 16-bit value. -/
def takeWord (l : List Byte) : Option (Nat × List Byte) := takeLow 2 l

/-- Read a signed 16-bit value. -/
def takeTemp (l : List Byte) : Option (Int × List Byte) :=
  (takeLow 2 l).map fun (n, r) => ((BitVec.ofNat 16 n).toInt, r)

/-- Read a two-valued indication. A byte that is neither 0 nor 1 is taken as a payload that does not fit the form of its
kind (R168 step 3, log 45). -/
def takeFlag : List Byte → Option (Bool × List Byte)
  | b :: r => if b = 0 then some (false, r) else if b = 1 then some (true, r) else none
  | [] => none

/-- Read a field that may be absent. A presence byte that is neither 0 nor 1 does not fit the form (R170, log 45). -/
def takeOpt {α : Type} (dec : List Byte → Option (α × List Byte)) :
    List Byte → Option (Option α × List Byte)
  | [] => none
  | b :: r =>
    if b = 0 then some (none, r)
    else if b = 1 then (dec r).map fun (a, rest) => (some a, rest)
    else none

/-- The form of a setting's value on the wire. -/
inductive ValueForm where
  | byte
  | word
  | temp
  deriving DecidableEq, Repr

/-- Read a value of this form. -/
def takeValue : ValueForm → List Byte → Option (Int × List Byte)
  | .byte, l => (takeByte l).map fun (n, r) => ((n : Int), r)
  | .word, l => (takeWord l).map fun (n, r) => ((n : Int), r)
  | .temp, l => takeTemp l

/-- Read a list of pairs of field code and value to the end of the payload. `forms` gives the form of each field
code; a code it does not know does not fit the kind (R168). `fuel` bounds the number of pairs. -/
def takePairs (forms : Nat → Option ValueForm) : Nat → List Byte → Option (List (Nat × Int))
  | _, [] => some []
  | 0, _ :: _ => none
  | fuel + 1, b :: r => do
    let form ← forms b.toNat
    let (v, rest) ← takeValue form r
    let more ← takePairs forms fuel rest
    return (b.toNat, v) :: more

/-- The settings of CHANNEL-SET by field code: the rules R9, R16, R23, R35, R46, R50, R51, R53, R59, R61, R63, R65
in that order and each rule's settings in its own (R171). -/
inductive ChannelField where
  | program | defaultLevel
  | preheatEnable | rate | preheatLimit
  | frost | setback | eco | comfort | limit
  | detectEnable | dropThreshold | windowTime
  | source | staleLimit | period | band | integralTime | fallback
  | requestAt | releaseAt | priority | differential
  deriving DecidableEq, Repr

/-- The setting a CHANNEL-SET field code names. -/
def ChannelField.ofCode : Nat → Option ChannelField
  | 1 => some .program
  | 2 => some .defaultLevel
  | 3 => some .preheatEnable
  | 4 => some .rate
  | 5 => some .preheatLimit
  | 6 => some .frost
  | 7 => some .setback
  | 8 => some .eco
  | 9 => some .comfort
  | 10 => some .limit
  | 11 => some .detectEnable
  | 12 => some .dropThreshold
  | 13 => some .windowTime
  | 14 => some .source
  | 15 => some .staleLimit
  | 16 => some .period
  | 17 => some .band
  | 18 => some .integralTime
  | 19 => some .fallback
  | 20 => some .requestAt
  | 21 => some .releaseAt
  | 22 => some .priority
  | 23 => some .differential
  | _ => none

/-- The wire form of a CHANNEL-SET value: temperatures and ranges beyond 255 take 16 bits (R171, log 9). -/
def ChannelField.form : ChannelField → ValueForm
  | .frost | .setback | .eco | .comfort | .limit => .temp
  | .fallback | .requestAt | .releaseAt => .word
  | _ => .byte

/-- The settings of VALVE-SET, the rows of the R82 table. -/
inductive ValveField where
  | role | zone | dumpEligible | weight | liftMin | liftMax | deadband | stroke
  deriving DecidableEq, Repr

/-- The setting a VALVE-SET field code names. -/
def ValveField.ofCode : Nat → Option ValveField
  | 1 => some .role
  | 2 => some .zone
  | 3 => some .dumpEligible
  | 4 => some .weight
  | 5 => some .liftMin
  | 6 => some .liftMax
  | 7 => some .deadband
  | 8 => some .stroke
  | _ => none

/-- The wire form of a VALVE-SET value. -/
def ValveField.form : ValveField → ValueForm
  | .stroke => .word
  | _ => .byte

/-- The settings of BOILER-SET: the rows of the R145 table, then sink minimum, motor allowance, exercise slot and
ramp step interval (R171). -/
inductive BoilerField where
  | leadTime | minOn | overrunTime | minOff | highLimitDelta | designOutdoor | designFlow | neutralOutdoor
  | baseFlow | shift | flowDelta | flowMin | flowMax | sinkMinimum | motorAllowance | exerciseSlot | rampStep
  deriving DecidableEq, Repr

/-- The setting a BOILER-SET field code names. -/
def BoilerField.ofCode : Nat → Option BoilerField
  | 1 => some .leadTime
  | 2 => some .minOn
  | 3 => some .overrunTime
  | 4 => some .minOff
  | 5 => some .highLimitDelta
  | 6 => some .designOutdoor
  | 7 => some .designFlow
  | 8 => some .neutralOutdoor
  | 9 => some .baseFlow
  | 10 => some .shift
  | 11 => some .flowDelta
  | 12 => some .flowMin
  | 13 => some .flowMax
  | 14 => some .sinkMinimum
  | 15 => some .motorAllowance
  | 16 => some .exerciseSlot
  | 17 => some .rampStep
  | _ => none

/-- The wire form of a BOILER-SET value. -/
def BoilerField.form : BoilerField → ValueForm
  | .overrunTime => .word
  | .designOutdoor | .designFlow | .neutralOutdoor | .baseFlow | .flowMin | .flowMax => .temp
  | _ => .byte

/-! ## Frames (R165) -/

/-- The marks byte (R165). -/
def Marks.byte (m : Marks) : Byte :=
  (if m.clamped then 1 else 0) ||| (if m.rejected then 2 else 0) ||| (if m.ended then 4 else 0)

/-- The payload of a reply (R165, R170). -/
def ReplyBody.payload : ReplyBody → List Byte
  | .done marks data => 0 :: marks.byte :: data
  | .refused code => [1, BitVec.ofNat 8 code.code]
  | .invalid program => [1, 8, BitVec.ofNat 8 program]

/-- The 8-bit sum of bytes. -/
def sumBytes (l : List Byte) : Byte := l.foldl (· + ·) 0

/-- A whole frame: start byte, length, kind, payload, check byte (R165). -/
def frameBytes (kind : Byte) (payload : List Byte) : List Byte :=
  let body := BitVec.ofNat 8 (payload.length + 1) :: kind :: payload
  0xC3 :: (body ++ [-(sumBytes body)])

/-- A reply's kind is the request's with the top bit set (R165). -/
def replyKind (kind : Byte) : Byte := kind ||| 0x80

/-- The bytes of a frame of the transmit list; a notice whose first byte has not gone out carries no word yet. -/
def TxFrame.bytes : TxFrame → List Byte
  | .served r | .busy r => frameBytes (replyKind r.kind) r.body.payload
  | .notice word => frameBytes 0xFF (bytesLow 2 (word.getD 0).toNat)

end Sys2Proof.Machine
end

