-- ==== Sys2Proof/Machine/Ops.lean ====
section
/-! DEFINITION. The shared operations on the state: the updates of its numbered parts, raising attention (R176 to
R178), the transmit lists (R169), placing and removing layers (R26, R27), and the pending command list (R87). -/

namespace Sys2Proof.Machine

/-! ## Updates of the numbered parts -/

/-- Replace plan and stack of channel `c`. -/
def State.setChannel (s : State) (c : Nat) (r : ChannelRun) : State :=
  { s with channels := setItem s.channels c r }

/-- Replace the stack of channel `c`. -/
def State.setStack (s : State) (c : Nat) (stack : List Layer) : State :=
  s.setChannel c { s.channel c with stack := stack }

/-- Replace the plan of channel `c`. -/
def State.setPlan (s : State) (c : Nat) (plan : List Level) : State :=
  s.setChannel c { s.channel c with plan := plan }

/-- Replace the regulator record of zone `k`. -/
def State.setZone (s : State) (k : Nat) (z : ZoneRun) : State := { s with zones := setItem s.zones k z }

/-- Replace the preheat record of zone `k`. -/
def State.setPreheat (s : State) (k : Nat) (p : Preheat) : State := s.setZone k { s.zone k with preheat := p }

/-- Replace the run-time record of valve slot `v`. -/
def State.setHead (s : State) (v : Nat) (h : Head) : State := { s with heads := setItem s.heads v h }

/-- Replace the live stored set. -/
def State.setCfg (s : State) (c : Stored) : State := { s with cfg := c }

/-- Replace the configuration of channel `c`. -/
def State.setChannelCfg (s : State) (c : Nat) (x : ChannelCfg) : State :=
  s.setCfg { s.cfg with channels := setItem s.cfg.channels c x }

/-- Replace the configuration of zone `k`. -/
def State.setZoneCfg (s : State) (k : Nat) (x : ZoneCfg) : State :=
  s.setCfg { s.cfg with zones := setItem s.cfg.zones k x }

/-- Replace the configuration of valve slot `v`. -/
def State.setValveCfg (s : State) (v : Nat) (x : ValveCfg) : State :=
  s.setCfg { s.cfg with valves := setItem s.cfg.valves v x }

/-- Replace the configuration of input `n`. -/
def State.setInputCfg (s : State) (n : Nat) (x : InputCfg) : State :=
  s.setCfg { s.cfg with inputs := setItem s.cfg.inputs n x }

/-- Replace the park slots. -/
def State.setParks (s : State) (ps : List (Option Park)) : State := s.setCfg { s.cfg with parks := ps }

/-- Replace the consumer table. -/
def State.setTable (s : State) (t : ConsumerTable) : State := { s with table := t }

/-- Replace the valve link controller's own state. -/
def State.setLink (s : State) (l : Link) : State := { s with link := l }

/-- Replace the move arbiter's own state. -/
def State.setArbiter (s : State) (a : Arbiter) : State := { s with arbiter := a }

/-- Replace the move queue. -/
def State.setQueue (s : State) (q : List Entry) : State := s.setArbiter { s.arbiter with queue := q }

/-- Replace the boiler controller's record. -/
def State.setBoiler (s : State) (b : Boiler) : State := { s with boiler := b }

/-- Replace field I/O. -/
def State.setField (s : State) (f : FieldIO) : State := { s with field := f }

/-- Replace the debounce record of input `n`. -/
def State.setInputRec (s : State) (n : Nat) (r : InputRec) : State :=
  s.setField { s.field with inputs := setItem s.field.inputs n r }

/-- Replace a sensor's record. -/
def State.setSensor (s : State) (x : Sensor) (r : SensorRec) : State :=
  s.setField <|
    match x with
    | .flow => { s.field with flow := r }
    | .outdoor => { s.field with outdoor := r }
    | .cylinder => { s.field with cylinder := r }

/-- Replace the clock. -/
def State.setClock (s : State) (c : Clock) : State := { s with clock := c }

/-- Replace the edit claim. -/
def State.setClaim (s : State) (c : Option EditClaim) : State := { s with claim := c }

/-- Replace the settings store. -/
def State.setStore (s : State) (x : Store) : State := { s with store := x }

/-- Replace a port's state. -/
def State.setPort (s : State) (p : Port) (x : PortState) : State :=
  match p with
  | .main => { s with main := x }
  | .service => { s with service := x }

/-! ## Attention (R176 to R178) -/

/-- A port's attention masks (R177). -/
def State.masks (s : State) : Port → List Mask
  | .main => s.cfg.masksMain
  | .service => s.cfg.masksService

/-- A raise is masked: its category wholly, or it names objects and every one is masked (R177). -/
def raiseMasked (m : Mask) (objects : ObjectSet) : Bool :=
  m.whole || (objects != 0 && (objects &&& ~~~m.objects) == 0)

/-- Some category of the set is notifying. -/
def someNotifying (attn : List (Option Attention)) : Bool := attn.any (·.any (·.notifying))

/-- The entry of a category after a raise (R178). -/
def joinAttention (old : Option Attention) (objects : ObjectSet) (marks : Byte) (unmasked : Bool) : Attention :=
  match old with
  | none => ⟨objects, marks, unmasked⟩
  | some a => ⟨a.objects ||| objects, a.marks ||| marks, a.notifying || unmasked⟩

/-- A raise in a port's attention set. A set that comes to have a notifying category has a notice join the transmit
list (R178). -/
def PortState.raise (ps : PortState) (m : Mask) (c : Category) (objects : ObjectSet) (marks : Byte) : PortState :=
  let unmasked := !raiseMasked m objects
  let attn := ps.attn.set c.number (some (joinAttention (ps.attn.getD c.number none) objects marks unmasked))
  if unmasked && !someNotifying ps.attn then
    { ps with attn := attn, tx := { ps.tx with queue := ps.tx.queue ++ [.notice none] } }
  else { ps with attn := attn }

/-- Raise attention in one port's set (FRAME, EDIT: R176). -/
def State.raiseAt (s : State) (p : Port) (c : Category) (objects : ObjectSet) (marks : Byte) : State :=
  s.setPort p ((s.port p).raise ((s.masks p).getD c.number ⟨false, 0⟩) c objects marks)

/-- Raise attention in both ports' sets, each judged with its own masks (R176). -/
def State.raise (s : State) (c : Category) (objects : ObjectSet) : State :=
  (s.raiseAt .main c objects 0).raiseAt .service c objects 0

/-- Raise STORE attention with its marks: bit 0 SAVED, bit 1 DEFAULTS (R171, R176). -/
def State.raiseStore (s : State) (marks : Byte) : State :=
  (s.raiseAt .main .store 0 marks).raiseAt .service .store 0 marks

/-- The object of SENSOR for a wired sensor: its bit of the sensor byte behind the channel word (R171). -/
def sensorObject : Sensor → ObjectSet
  | .flow => 0x01000000
  | .outdoor => 0x02000000
  | .cylinder => 0x04000000

/-! ## Transmit lists (R169) -/

/-- The categories whose notifying flag is set, as a category word (R178). -/
def notifyingWord (attn : List (Option Attention)) : BitVec 16 :=
  (List.range 16).foldl
    (fun w c => if (attn.getD c none).any (·.notifying) then w ||| BitVec.ofNat 16 (2 ^ c) else w) 0

/-- A frame whose first byte goes out: a notice takes its category word then (R178). -/
def firstByteOut (attn : List (Option Attention)) : TxFrame → TxFrame
  | .notice _ => .notice (some (notifyingWord attn))
  | f => f

/-- With nothing being sent, the next frame of the list starts (R169). -/
def PortState.startNext (ps : PortState) : PortState :=
  match ps.tx.sending, ps.tx.queue with
  | none, f :: rest => { ps with tx := { sending := some (firstByteOut ps.attn f), queue := rest } }
  | _, _ => ps

/-- The end of an event: on each port the next frame starts where none is being sent (log 15). -/
def State.endEvent (s : State) : State :=
  let s := s.setPort .main s.main.startNext
  s.setPort .service s.service.startNext

/-- A frame joins a port's transmit list (R169). -/
def State.pushTx (s : State) (p : Port) (f : TxFrame) : State :=
  let ps := s.port p
  s.setPort p { ps with tx := { ps.tx with queue := ps.tx.queue ++ [f] } }

/-- A served reply. -/
def TxFrame.isServed : TxFrame → Bool
  | .served _ => true
  | _ => false

/-- A BUSY reply. -/
def TxFrame.isBusy : TxFrame → Bool
  | .busy _ => true
  | _ => false

/-- A notice. -/
def TxFrame.isNotice : TxFrame → Bool
  | .notice _ => true
  | _ => false

/-- A served reply is unsent: waiting or being sent (R169). -/
def Transmit.servedUnsent (t : Transmit) : Bool := t.sending.any (·.isServed) || t.queue.any (·.isServed)

/-- A BUSY reply waits: its first byte has not gone out. One that is being sent no longer counts (R169; log 41). -/
def Transmit.busyWaiting (t : Transmit) : Bool := t.queue.any (·.isBusy)

/-! ## Layers (R26, R27) -/

/-- A stack with a non-WINDOW layer placed: below a WINDOW layer on top, else on top (R26 step 2). -/
def layerPlaced (stack : List Layer) (l : Layer) : List Layer :=
  if windowOnTop stack then stack.dropLast ++ l :: stack.getLast?.toList else stack ++ [l]

/-- The stack is full: a placement discards its bottom layer (R26 step 1). -/
def stackFull (stack : List Layer) : Bool := 4 ≤ stack.length

/-- Make room on channel `c`'s stack: a full stack loses its bottom layer, and STACK is raised (R26, R27). -/
def State.makeRoom (s : State) (c : Nat) : State :=
  let stack := (s.channel c).stack
  if stackFull stack then (s.setStack c stack.tail).raise .stack (object c) else s

/-- Place a TIMED, UNTIL-NEXT or HOLD layer on channel `c` (R26). -/
def State.placeLayer (s : State) (c : Nat) (l : Layer) : State :=
  let s := s.makeRoom c
  s.setStack c (layerPlaced (s.channel c).stack l)

/-- An existing WINDOW layer after a new placement (R27's table). -/
def windowRefreshed (origin : Origin) (windowTime : Nat) (l : Layer) : Layer :=
  if l.kind = .window ∧ l.origin = .detect then
    if origin = .detect then { l with remaining := some windowTime }
    else { l with origin := .input, remaining := none }
  else l

/-- Place a WINDOW layer of this origin (DETECT or INPUT) on zone `k` (R27). -/
def State.placeWindow (s : State) (k : Nat) (origin : Origin) : State :=
  let time := (s.zoneCfg k).windowTime
  let stack := (s.channel k).stack
  if stack.any (·.kind == .window) then s.setStack k (stack.map (windowRefreshed origin time))
  else
    let s := s.makeRoom k
    s.setStack k ((s.channel k).stack ++
      [{ kind := .window, setpoint := none, remaining := if origin = .detect then some time else none, origin }])

/-- A WINDOW layer of origin INPUT. -/
def Layer.isInputWindow (l : Layer) : Bool := l.kind == .window && l.origin == .input

/-! ## Pending command list (R87) -/

/-- A command joins the list; a slot's earlier command is replaced in its place (R87). -/
def joinCommand (cmds : List Command) (v : Nat) (r : LinkRequest) : List Command :=
  if cmds.any (·.slot == v) then cmds.map fun c => if c.slot = v then ⟨v, r, false⟩ else c
  else cmds ++ [⟨v, r, false⟩]

/-- Add a command for slot `v` (R87). -/
def State.addCommand (s : State) (v : Nat) (r : LinkRequest) : State :=
  s.setLink { s.link with commands := joinCommand s.link.commands v r }

/-- The commands of slot `v` leave the list (R90). -/
def State.dropCommands (s : State) (v : Nat) : State :=
  s.setLink { s.link with commands := s.link.commands.filter (·.slot != v) }

/-- The command of slot `v` that is in flight as it stands in the list (R87, R93). -/
def State.ownCommand (s : State) (v : Nat) : Option Command :=
  s.link.commands.find? fun c => c.slot == v && c.sent

/-! ## Requests -/

/-- What the work of a request answers: a refusal, nothing changed. -/
def refuse (s : State) (code : RefusalCode) : State × ReplyBody := (s, .refused code)

/-- DONE with data and no marks. -/
def doneWith (s : State) (data : List Byte) : State × ReplyBody := (s, .done {} data)

/-- DONE with no data and no marks. -/
def done (s : State) : State × ReplyBody := (s, .done {} [])

end Sys2Proof.Machine
end

