-- ==== Sys2Proof/Machine/Arbiter.lean ====
section
/-! DEFINITION. The move arbiter: wanted targets (R106 to R109), the offer (R110), joining the queue (R113, R114),
the DEFERRED marks (R120), the grant (R92, R119) and the grant round (R118). -/

namespace Sys2Proof.Machine

/-! ## Wanted targets -/

/-- The wanted target of a ZONE slot from its zone's demand (R107). -/
def regulatedTarget (cfg : ValveCfg) (demand : Nat) : Nat :=
  if demand = 0 then 0 else roundHalfUp (cfg.liftMin * 1000 + demand * (cfg.liftMax - cfg.liftMin)) 1000

/-- The wanted target of slot `v` from its cause; none for an UNUSED slot (R106 to R109). -/
def State.formTarget (s : State) (v : Nat) : Option Wanted :=
  let cfg := s.valveCfg v
  match cfg.role with
  | .unused => none
  | .zone k dump =>
    if s.boiler.heatDump ∧ dump then some ⟨100, .safety⟩
    else some ⟨regulatedTarget cfg (s.zone k).demand, .normal⟩
  | .cylinder => some ⟨if (s.consumer channelW).heatAvailable then 100 else 0, .normal⟩
  | .sink => some (if s.arbiter.sinkOpen then ⟨100, .safety⟩ else ⟨0, .normal⟩)

/-- Store a wanted target. -/
def State.setWanted (s : State) (v : Nat) (w : Option Wanted) : State :=
  s.setArbiter { s.arbiter with wanted := setItem s.arbiter.wanted v w }

/-! ## The queue -/

/-- The next arrival number: after 4 294 967 295 the counter returns to 1 (R112). -/
def nextArrival (n : Nat) : Nat := if n = 4294967295 then 1 else n + 1

/-- The class that takes precedence (R113). -/
def MoveClass.higher (x y : MoveClass) : MoveClass := if x.rank < y.rank then x else y

/-- Make a new entry, with the next arrival number (R112). -/
def State.newEntry (s : State) (v : Nat) (op : MoveOp) (target : Nat) (cls : MoveClass) : State :=
  let n := nextArrival s.arbiter.arrivals
  s.setArbiter { s.arbiter with
    arrivals := n
    queue := s.arbiter.queue ++ [{ slot := v, op, target, cls, arrival := n, deferred := false }] }

/-- Change slot `v`'s entry in its place. -/
def State.updateEntry (s : State) (v : Nat) (f : Entry → Entry) : State :=
  s.setQueue (s.arbiter.queue.map fun e => if e.slot = v then f e else e)

/-- Remove slot `v`'s entry, if any (R115). -/
def State.removeEntry (s : State) (v : Nat) : State := s.setQueue (s.arbiter.queue.filter (·.slot != v))

/-- A slot's entry when a drive target of this class joins (R113). -/
def Entry.takeDrive (target : Nat) (cls : MoveClass) (e : Entry) : Entry :=
  match e.op with
  | .drive => { e with target, cls := cls.higher e.cls }
  | .home => { e with cls := cls.higher e.cls }

/-- A drive target joins the queue (R113). -/
def State.joinDrive (s : State) (v target : Nat) (cls : MoveClass) : State :=
  match s.entryOf v with
  | none => s.newEntry v .drive target cls
  | some _ => s.updateEntry v (Entry.takeDrive target cls)

/-- A slot's entry when a homing request joins (R114). -/
def Entry.takeHoming (e : Entry) : Entry :=
  match e.op with
  | .drive => { e with op := .home, target := 0, cls := if e.cls = .exercise then .homing else e.cls }
  | .home => e

/-- A homing request (R114): none is taken for an UNUSED slot, an ABSENT head, or a head already HOMING (R97). -/
def State.requestHoming (s : State) (v : Nat) : State :=
  if ¬ s.used v ∨ (s.head v).state = .absent ∨ (s.head v).state = .homing then s
  else
    match s.entryOf v with
    | none => s.newEntry v .home 0 .homing
    | some _ => s.updateEntry v Entry.takeHoming

/-! ## The offer (R110) -/

/-- The reference position: the reported position of a READY head, the in-flight target of a MOVING one (R110). -/
def Head.reference (h : Head) : Option Nat :=
  match h.state with
  | .ready => some h.position
  | .moving => h.move.map (·.target)
  | _ => none

/-- A wanted target needs a move from the reference position (R110). -/
def needsMove (deadband wanted reference : Nat) : Bool :=
  wanted != reference &&
    (decide (deadband ≤ max wanted reference - min wanted reference) || wanted == 0 || wanted == 100)

/-- Remove slot `v`'s entry if it is a drive of class SAFETY or NORMAL (R110). -/
def State.dropRegulated (s : State) (v : Nat) : State :=
  match s.entryOf v with
  | some e => if e.op = .drive ∧ (e.cls = .safety ∨ e.cls = .normal) then s.removeEntry v else s
  | none => s

/-- Offer slot `v`'s wanted target to the queue (R110). -/
def State.offer (s : State) (v : Nat) : State :=
  match s.wantedOf v with
  | none => s
  | some w =>
    match (s.head v).state, (s.head v).reference with
    | .absent, _ => s
    | _, some r =>
      if needsMove (s.valveCfg v).deadband w.target r then s.joinDrive v w.target w.cls else s.dropRegulated v
    | _, none => if (s.entryOf v).isSome then s.joinDrive v w.target w.cls else s

/-- Form slot `v`'s wanted target and offer it (R106, R110). -/
def State.formAndOffer (s : State) (v : Nat) : State := (s.setWanted v (s.formTarget v)).offer v

/-- Form and offer the wanted targets of these slots. -/
def State.formAll (s : State) (vs : List Nat) : State := vs.foldl State.formAndOffer s

/-- Give sink-open a value and form every SINK slot's wanted target (R109, R123). -/
def State.formSinks (s : State) (b : Bool) : State :=
  let s := s.setArbiter { s.arbiter with sinkOpen := b }
  s.formAll s.sinkSlots

/-- Set or clear sink-open; a change forms every SINK slot's wanted target (R109). -/
def State.setSinkOpen (s : State) (b : Bool) : State := if s.arbiter.sinkOpen = b then s else s.formSinks b

/-- Set or clear the heat dump; the wanted target of every ZONE slot is formed (R107). -/
def State.setHeatDump (s : State) (b : Bool) : State :=
  let s := s.setBoiler { s.boiler with heatDump := b }
  s.formAll s.radiatorSlots

/-! ## Marks and grants -/

/-- Judge every entry's DEFERRED mark afresh (R120). -/
def State.remark (s : State) : State :=
  s.setQueue (s.arbiter.queue.map fun e => { e with deferred := s.isOpening e && s.consumerDeferred e.slot })

/-- The head state of a granted operation (R92). -/
def MoveOp.headState : MoveOp → HeadState
  | .drive => .moving
  | .home => .homing

/-- The link command of a granted entry (R92). -/
def Entry.request (e : Entry) : LinkRequest :=
  match e.op with
  | .drive => .drive e.target
  | .home => .home

/-- A granted entry's head (R92). A STALLED head leaves STALLED, so its retry due becomes absent (R96). -/
def Head.granted (h : Head) (e : Entry) (stroke : Nat) : Head :=
  { h with
    state := e.op.headState
    move := some { start := h.position, target := if e.op = .drive then e.target else 0, accepted := false,
                   timer := none, stroke }
    retryDue := none }

/-- Grant an entry: it leaves the queue, its head becomes MOVING or HOMING, its command is pending (R92, R119). -/
def State.grant (s : State) (e : Entry) : State :=
  let s := s.removeEntry e.slot
  let s := s.setHead e.slot ((s.head e.slot).granted e (s.valveCfg e.slot).stroke)
  s.addCommand e.slot e.request

/-- The entry a grant round grants next: with a unit free, the first eligible one in the grant order (R118). -/
def State.nextGrant (s : State) : Option Entry :=
  if s.unitsInUse < s.cfg.boiler.motorAllowance then (grantOrder s.arbiter.queue).find? s.eligible else none

/-- A grant round of at most `fuel` grants (R118). -/
def grantRoundUpTo : Nat → State → State
  | 0, s => s
  | fuel + 1, s =>
    match s.nextGrant with
    | none => s
    | some e => grantRoundUpTo fuel (s.grant e)

/-- A grant round: it ends when no unit is free or no entry is eligible (R118). Each grant takes a unit, so the
motor allowance bounds the grants. -/
def State.grantRound (s : State) : State := grantRoundUpTo s.cfg.boiler.motorAllowance s

/-! ## Exercise (R124) -/

/-- Slot `v` is due for exercise: in use, READY, no entry, unmoved for 10 080 minutes (R124). -/
def State.exerciseDue (s : State) (v : Nat) : Bool :=
  s.used v && (s.head v).state == .ready && (s.entryOf v).isNone
    && 10080 ≤ minutesSince s.clock.elapsed (s.head v).lastMoved

/-- The entries of the exercise slot, V1 first, while the boiler is in IDLE or REST (R124). -/
def State.exercise (s : State) : State :=
  if s.boiler.state = .idle ∨ s.boiler.state = .rest then
    slotNumbers.foldl (fun s v => if s.exerciseDue v then s.newEntry v .drive 100 .exercise else s) s
  else s

end Sys2Proof.Machine
end

