-- ==== Sys2Proof/Machine/Boiler.lean ====
section
/-! DEFINITION. The consumer table (R69 to R72), the flow setpoint and modulation target (R146 to R149), the ramp
(R163, R164) and the boiler controller's states (R129 to R140). -/

namespace Sys2Proof.Machine

/-! ## Consumer table -/

/-- The served level of a table: the highest level among requesting entries (R70). -/
def servedLevelOf (es : List Consumer) : Nat := es.foldl (fun m e => if e.requesting then max m e.level else m) 0

/-- An entry's flags at this served level, with the boiler in LEAD or FIRING or not (R70, R71). -/
def Consumer.judged (served : Nat) (warm : Bool) (e : Consumer) : Consumer :=
  let deferred := e.requesting && decide (e.level < served)
  { e with deferred, heatAvailable := e.requesting && !deferred && warm }

/-- The boiler states in which a served consumer has heat (R71). -/
def BoilerState.warm : BoilerState → Bool
  | .lead | .firing => true
  | _ => false

/-- A table recomputed (R70, R71). -/
def ConsumerTable.judged (t : ConsumerTable) (warm : Bool) : ConsumerTable :=
  let served := servedLevelOf t.entries
  { entries := t.entries.map (Consumer.judged served warm), servedLevel := served }

/-- Recompute the table; a change of W's heat-available forms the CYLINDER slots' wanted targets (R70, R71, R74,
R108). -/
def State.judgeTable (s : State) : State :=
  let t := s.setTable (s.table.judged s.boiler.state.warm)
  if (t.consumer channelW).heatAvailable = (s.consumer channelW).heatAvailable then t else t.formAll t.cylinderSlots

/-- A consumer's request, level 0 for not requesting, enters its entry (R69). -/
def Consumer.request (level : Nat) (e : Consumer) : Consumer :=
  { e with requesting := level != 0, level }

/-! ## Ramp (R162 to R164) -/

/-- The step weights (R162). -/
def stepWeights : List Nat :=
  [10, 38, 84, 146, 222, 309, 402, 500, 598, 691, 778, 854, 916, 962, 990, 1000]

/-- The output of step `k` of a ramp (R163). -/
def rampValue (start target k : Nat) : Nat :=
  (start + truncDiv (((target : Int) - start) * item stepWeights k 1000) 1000).toNat

/-- Hand over a ramp (R163). -/
def State.handRamp (s : State) (start target : Nat) : State :=
  if target = start then s.setField { s.field with output := target, ramp := none }
  else s.setField { s.field with ramp := some { start, target, next := 1, timer := s.cfg.boiler.rampStep } }

/-- Stop the ramp and set the output to 0 (R164). -/
def State.stopRamp (s : State) : State := s.setField { s.field with ramp := none, output := 0 }

/-! ## Flow setpoint (R146 to R149) -/

/-- The weather curve (R146). -/
def weatherCurve (b : BoilerCfg) (outdoor : Temp) : Temp :=
  clamp b.baseFlow b.designFlow
    (roundHalfAway (b.baseFlow * (b.neutralOutdoor - b.designOutdoor)
        + (b.neutralOutdoor - outdoor) * (b.designFlow - b.baseFlow))
      (b.neutralOutdoor - b.designOutdoor).toNat)

/-- The demand shift (R147). -/
def demandShift (shift demand : Nat) : Int := roundHalfAway (((demand : Int) - 500) * shift) 500

/-- The zones of the served set. -/
def State.servedZones (s : State) : List Nat := s.servedSet.filter (· ≤ 16)

/-- The highest demand among the served zones (R147). -/
def State.highestDemand (s : State) : Nat := s.servedZones.foldl (fun m k => max m (s.zone k).demand) 0

/-- The outdoor temperature used: the sensor's value when valid, else 0 (R146). -/
def State.outdoorUsed (s : State) : Temp :=
  if s.field.outdoor.valid then s.field.outdoor.value.getD 0 else 0

/-- The parts of the flow setpoint from the served set as it stands (R146 to R148). -/
def State.flowParts (s : State) : FlowParts :=
  let curve := weatherCurve s.cfg.boiler s.outdoorUsed
  let shift := if s.servedZones.isEmpty then none else some (demandShift s.cfg.boiler.shift s.highestDemand)
  { outdoor := s.outdoorUsed
    outdoorValid := s.field.outdoor.valid
    curve
    shift
    zoneFlow := shift.map (curve + ·)
    cylinderFlow :=
      if (s.consumer channelW).served then some (s.effectiveSetpoint channelW + s.cfg.boiler.flowDelta) else none }

/-- The greater of the contributions present (R148). -/
def FlowParts.contribution (p : FlowParts) : Option Temp :=
  match p.zoneFlow, p.cylinderFlow with
  | some z, some w => some (max z w)
  | some z, none => some z
  | none, w => w

/-- The flow setpoint: the contribution clamped, flow min with an empty served set (R148). -/
def FlowParts.setpoint (p : FlowParts) (b : BoilerCfg) : Temp :=
  match p.contribution with
  | some t => clamp b.flowMin b.flowMax t
  | none => b.flowMin

/-- The modulation target of a flow setpoint (R149). -/
def modulationOf (flow : Temp) : Nat := (flow - 200).toNat * 1000 / 700

/-- The record with flow setpoint, its parts and the modulation target computed afresh (R149). -/
def State.withFlow (s : State) : State :=
  let parts := s.flowParts
  let flow := parts.setpoint s.cfg.boiler
  s.setBoiler { s.boiler with flowSetpoint := flow, modulationTarget := modulationOf flow, parts }

/-- Recompute the flow setpoint; in FIRING a changed modulation target hands over a ramp from the present output
(R130, R149). -/
def State.recomputeFlow (s : State) : State :=
  let t := s.withFlow
  if s.boiler.state = .firing ∧ t.boiler.modulationTarget ≠ s.boiler.modulationTarget then
    t.handRamp t.field.output t.boiler.modulationTarget
  else t

/-- A consumer's request is handed to the table (R69, R70); a change of the served level or the served set reaches
the flow setpoint (R72, R149). -/
def State.handRequest (s : State) (c level : Nat) : State :=
  let t := (s.setTable { s.table with entries := setItem s.table.entries c ((s.consumer c).request level) }).judgeTable
  if t.table.servedLevel = s.table.servedLevel ∧ t.servedSet = s.servedSet then t else t.recomputeFlow

/-- Zone `k`'s request is formed and handed over (R63). -/
def State.handZoneRequest (s : State) (k : Nat) : State := s.handRequest k (s.zoneRequest k)

/-- W's request is formed and handed over (R66). -/
def State.handWRequest (s : State) : State := s.handRequest channelW s.wRequestLevel

/-! ## Entering the boiler states -/

/-- The record enters a state and reports it: heat-available is recomputed (R71), the DEFERRED marks are judged (R120),
and the move arbiter takes a grant round in the state entered, before any further move of the controller (R118, R131,
R134, R136, R139, R140). -/
def State.enterState (s : State) (b : Boiler) : State := (s.setBoiler b).judgeTable.remark.grantRound

/-- The record without the fields of the state it leaves (R128). -/
def Boiler.cleared (b : Boiler) : Boiler :=
  { b with leadTimer := none, leadExtended := false, leadHeld := false, overrunTimer := none, pumpTimer := none,
           minOnHold := false }

/-- Sink-open is cleared on entering REST or IDLE with no heat dump in progress (R109). -/
def State.closeSinks (s : State) : State := if s.boiler.heatDump then s else s.setSinkOpen false

/-- Sink-open is set where capacity is below the sink minimum (R131, R132). -/
def State.openSinksIfShort (s : State) : State := if s.capacity < s.sinkMinimum then s.setSinkOpen true else s

/-- Enter IDLE (R132, R139). -/
def State.enterIdle (s : State) : State :=
  let s := s.closeSinks
  s.enterState { s.boiler.cleared with state := .idle }

/-- Enter REST (R139). -/
def State.enterRest (s : State) : State :=
  let s := s.closeSinks
  s.enterState { s.boiler.cleared with state := .rest }

/-- Enter LEAD (R131). -/
def State.enterLead (s : State) : State :=
  let s := s.setBoiler { s.boiler.cleared with leadTimer := startTimer s.cfg.boiler.leadTime }
  let s := s.openSinksIfShort
  s.enterState { s.boiler with state := .lead }

/-- Enter FIRING: fire mark, relay, ramp from 0 (R134). -/
def State.enterFiring (s : State) : State :=
  let s := s.setField { s.field with burner := true }
  let s := s.handRamp 0 s.boiler.modulationTarget
  s.enterState { s.boiler.cleared with state := .firing, fireMark := s.clock.elapsed }

/-- The end of the min-on hold, if it is in force, with the flow setpoint recomputed (R149). -/
def State.endHold (s : State) : State :=
  if s.boiler.minOnHold then (s.setBoiler { s.boiler with minOnHold := false }).withFlow else s

/-- The burner goes out: the hold ends, relay open, output 0, rest mark (R136 steps 1 and 2, R140 steps 1 and 2). -/
def State.burnerOut (s : State) : State :=
  let s := s.endHold
  let s := s.stopRamp
  let s := s.setField { s.field with burner := false }
  s.setBoiler { s.boiler with restMark := s.clock.elapsed }

/-- Enter OVERRUN from FIRING (R136). -/
def State.enterOverrun (s : State) : State :=
  let s := s.burnerOut
  s.enterState { s.boiler.cleared with state := .overrun, overrunTimer := startTimer s.cfg.boiler.overrunTime }

/-- Enter FAULTED (R140). -/
def State.enterFaulted (s : State) : State :=
  let s := if s.boiler.state = .firing then s.burnerOut else s
  let s := s.raise .boiler (objectsOf (s.activeInputs .boilerFault))
  s.enterState { s.boiler.cleared with state := .faulted, pumpTimer := startTimer s.cfg.boiler.overrunTime }

/-- A lead expiry (R133). -/
def State.leadExpiry (s : State) : State :=
  if s.boiler.heatDump then s.setBoiler { s.boiler with leadHeld := true, leadTimer := none }
  else if s.sinkMinimum ≤ s.capacity then s.enterFiring
  else if ¬ s.boiler.leadExtended then
    s.setBoiler { s.boiler with
      leadExtended := true
      leadTimer := some (if s.cfg.boiler.leadTime = 0 then 30 else s.cfg.boiler.leadTime) }
  else
    let s := s.setBoiler { s.boiler with restMark := s.clock.elapsed }
    let s := s.raise .sink (objectsOf s.sinkSlots)
    s.enterRest

/-- The slots whose committed position fell below what it was before the event (R137). -/
def State.fallenSlots (s : State) (before : Nat → Nat) : List Nat :=
  slotNumbers.filter fun v => s.committed v < before v

/-! ## The controller's reaction within an event -/

/-- What the controller judges beside the level conditions of its state: min-on and min-off are judged on entering a
state and where an event names them (R128). -/
inductive Cue where
  | settle
  | judge
  deriving DecidableEq, Repr

/-- What the controller does in FIRING (R129, R135, R137). -/
def State.firingMove (s : State) (before : Nat → Nat) (cue : Cue) : Option State :=
  if s.capacity < s.sinkMinimum then
    some ((s.raise .capacity (objectsOf (s.fallenSlots before))).enterOverrun)
  else if s.held then some s.enterOverrun
  else if s.anyRequest then
    if s.boiler.minOnHold then some (s.setBoiler { s.boiler with minOnHold := false }).recomputeFlow else none
  else if s.boiler.minOnHold ∧ cue = .settle then none
  else if s.minOnElapsed then some s.enterOverrun
  else if s.boiler.minOnHold then none
  else some (s.setBoiler { s.boiler with minOnHold := true }).recomputeFlow

/-- What the controller does in LEAD (R129, R132). With no timer running and no expiry held, the lead time is 0 and
the expiry is taken in the event of the entry (R131). -/
def State.leadMove (s : State) : Option State :=
  if !s.anyRequest || s.held then some s.enterIdle
  else if s.capacity < s.sinkMinimum ∧ ¬ s.arbiter.sinkOpen then some (s.setSinkOpen true)
  else if s.boiler.leadTimer.isNone ∧ ¬ s.boiler.leadHeld then some s.leadExpiry
  else none

/-- One move of the controller: from its state, the inputs and the other blocks as they stand. `none` when it stays
(R129 to R140). -/
def State.boilerMove (s : State) (before : Nat → Nat) (cue : Cue) : Option State :=
  if s.boiler.state = .faulted then if s.faultInput then none else some s.enterRest
  else if s.faultInput then some s.enterFaulted
  else
    match s.boiler.state with
    | .idle => if s.anyRequest && !s.held then some s.enterLead else none
    | .lead => s.leadMove
    | .firing => s.firingMove before cue
    | .overrun => if s.boiler.overrunTimer.isNone then some s.enterRest else none
    | .rest => if cue = .judge ∧ s.minOffElapsed then some s.enterIdle else none
    | .faulted => none

/-- The controller's moves within an event, each after the one before: after a move the entered state is judged
(R139). `fuel` bounds them; no event takes the controller round its states more than once. -/
def boilerMoves (before : Nat → Nat) : Nat → Cue → State → State
  | 0, _, s => s
  | fuel + 1, cue, s =>
    match s.boilerMove before cue with
    | none => s
    | some t => boilerMoves before fuel .judge t

/-- The moves an event can take: at most this many. -/
def boilerFuel : Nat := 12

end Sys2Proof.Machine
end

