-- ==== Sys2Proof/Machine/Plant.lean ====
section
/-! DEFINITION. What ends every event that reaches the plant (log 4): the boiler controller's moves, with a grant round
at each state entered, then the DEFERRED marks, a last grant round (R118), the next link transaction (R88), the pump
relay (R144). -/

namespace Sys2Proof.Machine

/-! ## The next transaction (R88) -/

/-- Slot `v` is in the polling round: its role is not UNUSED, or its head is MOVING or HOMING (R88). -/
def State.inRound (s : State) (v : Nat) : Bool := s.used v || (s.head v).running

/-- The next slot of the round above the cursor, counting on from V1 after V32 (R88). -/
def State.nextPoll (s : State) : Option Nat :=
  ((List.range 32).map fun i => (s.link.cursor + i) % 32 + 1).find? s.inRound

/-- The command list with its head marked as the one in flight. -/
def markSent : List Command → List Command
  | [] => []
  | c :: rest => { c with sent := true } :: rest

/-- With the link OK and no transaction in flight, the next one begins: the command at the head of the list, else a
POLL of the next slot in the round (R85, R88). -/
def State.nextTransaction (s : State) : State :=
  if s.link.fault ∨ s.link.transaction.isSome then s
  else
    match s.link.commands with
    | c :: _ =>
      s.setLink { s.link with transaction := some ⟨c.slot, c.request⟩, commands := markSent s.link.commands }
    | [] =>
      match s.nextPoll with
      | some v => s.setLink { s.link with transaction := some ⟨v, .poll⟩ }
      | none => s

/-- The pump relay follows the pump reasons (R144). -/
def State.setPump (s : State) : State := s.setField { s.field with pump := s.pumpCalled }

/-- The end of an event that reaches the plant. `before` gives the committed positions before the event (R137). -/
def State.settleWith (s : State) (before : Nat → Nat) (cue : Cue) : State :=
  (boilerMoves before boilerFuel cue s).remark.grantRound.nextTransaction.setPump

/-- The plant settled after the event that turned `before` into `s` (log 4). Where the event itself has entered a
boiler state, that state is judged as on every entry (R139). -/
def State.settle (s before : State) : State :=
  s.settleWith before.committed (if s.boiler.state = before.boiler.state then .settle else .judge)

/-- The plant settled, with min-on and min-off judged in any state (R128). -/
def State.settleJudging (s before : State) : State := s.settleWith before.committed .judge

/-- An event of the plant: its own effect, then the plant settles, then the transmit lists go on. While a WARM reset
acts no block acts (R104); that an overcurrent is ignored then too is the model's choice (log 38). -/
def State.plantEvent (s : State) (effect : State → State) : State :=
  if s.acting.isSome then s else ((effect s).settle s).endEvent

/-- An event that does not reach the plant. -/
def State.event (s : State) (effect : State → State) : State :=
  if s.acting.isSome then s else (effect s).endEvent

end Sys2Proof.Machine
end

