-- ==== Sys2Proof/Machine/Schedule.lean ====
section
/-! DEFINITION. The program store and the schedule unit: validation of a program table (R10), the compiler (R12,
R13, R14) and the preheat record (R16 to R21). -/

namespace Sys2Proof.Machine

/-! ## Programs and the compiler -/

/-- The week sets that contain a parity (R8). -/
def WeekSet.contains : WeekSet → Parity → Bool
  | .ab, _ => true
  | .a, .a => true
  | .b, .b => true
  | _, _ => false

/-- The run of a program: its pool records (R9). -/
def runOf (pool : List SwitchPoint) (e : ProgramEntry) : List SwitchPoint := (pool.drop e.start).take e.length

/-- A record acts on this day in this parity (R13 step 2). -/
def SwitchPoint.acts (p : SwitchPoint) (day : Nat) (q : Parity) : Bool := p.days.getLsbD day && p.weeks.contains q

/-- The later of two records by slot; the first where they are equal, which R10 rules out. -/
def laterPoint : Option SwitchPoint → SwitchPoint → Option SwitchPoint
  | none, p => some p
  | some best, p => if best.slot < p.slot then some p else some best

/-- The matching record of the greatest slot at or before `limit`, on this day in this parity (R13). -/
def latestPoint (run : List SwitchPoint) (day : Nat) (q : Parity) (limit : Nat) : Option SwitchPoint :=
  run.foldl (fun best p => if p.acts day q && p.slot ≤ limit then laterPoint best p else best) none

/-- The day before, with its parity: a day counted backwards from a MO has the other parity (R12). -/
def dayBefore (day : Nat) (q : Parity) : Nat × Parity := if day = 0 then (6, q.other) else (day - 1, q)

/-- The next day, with its parity: SU is followed by MO in the other parity (R12). -/
def dayAfter (day : Nat) (q : Parity) : Nat × Parity := if day = 6 then (0, q.other) else (day + 1, q)

/-- The level found by looking back over `days` earlier days (R13 step 3). -/
def lookBack (run : List SwitchPoint) : Nat → Nat → Parity → Option Level
  | 0, _, _ => none
  | k + 1, day, q =>
    let (d, r) := dayBefore day q
    match latestPoint run d r 143 with
    | some p => some p.level
    | none => lookBack run k d r

/-- One plan entry of a channel with a non-empty program and the clock set: steps 2 to 4 of R13. -/
def compileEntry (run : List SwitchPoint) (dflt : Level) (day : Nat) (q : Parity) (slot : Nat) : Level :=
  match latestPoint run day q slot with
  | some p => p.level
  | none => (lookBack run 14 day q).getD dflt

/-- The run that compiles channel `c`: none while the clock is unset, or with program 0 or an empty program
(R13 step 1). -/
def State.compiledRun (s : State) (c : Nat) : List SwitchPoint :=
  if s.clock.clockSet then runOf s.cfg.pool (item s.cfg.programs (s.channelCfg c).program .initial) else []

/-- One half of channel `c`'s plan: the 144 entries of a day (R12, R13). -/
def State.compileDay (s : State) (c : Nat) (day : Nat) (q : Parity) : List Level :=
  let run := s.compiledRun c
  let dflt := (s.channelCfg c).defaultLevel
  if run.isEmpty then List.replicate 144 dflt
  else (List.range 144).map (compileEntry run dflt day q)

/-- The tomorrow half (R12). -/
def State.compileTomorrow (s : State) (c : Nat) : List Level :=
  let (d, q) := dayAfter s.clock.day s.clock.parity
  s.compileDay c d q

/-- Both halves of channel `c`'s plan (R14). -/
def State.compilePlan (s : State) (c : Nat) : List Level :=
  s.compileDay c s.clock.day s.clock.parity ++ s.compileTomorrow c

/-- Compile both halves of channel `c`'s plan (R14). -/
def State.compile (s : State) (c : Nat) : State := s.setPlan c (s.compilePlan c)

/-- Compile both halves of every channel's plan (R14). -/
def State.compileAll (s : State) : State := channelNumbers.foldl State.compile s

/-- Channel `c`'s plan at a midnight: tomorrow moves into today, a new tomorrow is compiled (R14). -/
def State.midnightPlan (s : State) (c : Nat) : State :=
  s.setPlan c ((s.channel c).plan.drop 144 ++ s.compileTomorrow c)

/-! ## Validation (R10) -/

/-- Two week sets share a parity. -/
def WeekSet.meets (x y : WeekSet) : Bool := (x.contains .a && y.contains .a) || (x.contains .b && y.contains .b)

/-- Two records of one run clash: the same slot, a common weekday, a common parity (R10 condition 4). -/
def SwitchPoint.clashes (p q : SwitchPoint) : Bool :=
  p.slot == q.slot && (p.days &&& q.days) != 0 && p.weeks.meets q.weeks

/-- Some two records of a run clash. -/
def runClashes : List SwitchPoint → Bool
  | [] => false
  | p :: rest => rest.any p.clashes || runClashes rest

/-- Two non-empty programs share a pool record (R10 condition 2). -/
def ProgramEntry.overlaps (e f : ProgramEntry) : Bool :=
  e.length != 0 && f.length != 0 && e.start < f.start + f.length && f.start < e.start + e.length

/-- A program fails one of the four conditions of R10, against the programs numbered below it. -/
def programFails (pool : List SwitchPoint) (below : List ProgramEntry) (e : ProgramEntry) : Bool :=
  e.length != 0 &&
    (decide (256 < e.start + e.length) || below.any e.overlaps
      || (runOf pool e).any (·.days == 0) || runClashes (runOf pool e))

/-- The first failing program from number `n` on (R10). -/
def firstFailing (pool : List SwitchPoint) : List ProgramEntry → Nat → List ProgramEntry → Option Nat
  | _, _, [] => none
  | below, n, e :: rest =>
    if programFails pool below e then some n else firstFailing pool (below ++ [e]) (n + 1) rest

/-- Validation of a pool and program table: the number of the first failing program (R10). -/
def invalidProgram (pool : List SwitchPoint) (programs : List ProgramEntry) : Option Nat :=
  firstFailing pool [] 1 programs

/-! ## Preheat (R16 to R21) -/

/-- The fields on the return to IDLE: learning done is clear (R16), and so is spoiled, which stays set until then
(R20); the others keep their values (log 35). -/
def PreheatRun.ended (run : PreheatRun) : PreheatRun := { run with spoiled := false, learningDone := false }

/-- The record returned to IDLE; one in IDLE stays as it is (R16). -/
def Preheat.ended : Preheat → Preheat
  | .idle run => .idle run
  | .early run | .watch run _ => .idle run.ended

/-- The record returns to IDLE without learning (R19); the base temperature is the plan's again. -/
def State.abandonPreheat (s : State) (k : Nat) : State := s.setPreheat k (s.zone k).preheat.ended

/-- Abandon every zone's preheat (R5, R186). -/
def State.abandonAll (s : State) : State := zoneNumbers.foldl State.abandonPreheat s

/-- The next rise: the smallest plan slot above the current one whose level has a temperature above that of the
current slot's level (R17). -/
def State.nextRise (s : State) (k : Nat) : Option Nat :=
  let b := (s.channelCfg k).temperature (s.baseLevel k)
  (List.range 288).find? fun i =>
    decide (s.clock.slot < i) && decide (b < (s.channelCfg k).temperature (s.planLevel k i))

/-- The lead: the ceiling of Δ × 60 / rate, capped at the preheat limit (R17). -/
def preheatLead (delta rate limit : Nat) : Nat := min (ceilDiv (delta * 60) rate) limit

/-- The minute of week at plan slot `i` (R12, R17). -/
def Clock.minuteAt (c : Clock) (i : Nat) : Nat := (c.day * 1440 + 10 * i) % 10080

/-- The preheat that starts at this pass, if the conditions of R17 on the rise hold, with reading `r`. -/
def State.preheatStart (s : State) (k : Nat) (r : Temp) : Option PreheatRun :=
  let z := s.zoneCfg k
  match s.nextRise k with
  | none => none
  | some i =>
    let target := s.planLevel k i
    let until_ := 10 * i - s.clock.minuteOfDay
    let delta := (s.channelCfg k).temperature target - r
    if until_ ≤ z.preheatLimit ∧ 0 < delta ∧ until_ ≤ preheatLead delta.toNat z.rate z.preheatLimit then
      some { target, riseMinute := s.clock.minuteAt i, startElapsed := s.clock.elapsed, startReading := r,
             spoiled := false, learningDone := false }
    else none

/-- The record is in EARLY (R16). -/
def Preheat.isEarly : Preheat → Bool
  | .early _ => true
  | _ => false

/-- The search of R17, with its conditions. -/
def State.preheatSearch (s : State) (k : Nat) : State :=
  match s.freshReading k with
  | none => s
  | some r =>
    if s.clock.clockSet ∧ (s.zoneCfg k).preheatEnable ∧ ¬ s.parked k ∧ ¬ (s.zone k).preheat.isEarly then
      match s.preheatStart k r with
      | some run => s.setPreheat k (.early run)
      | none => s
    else s

/-- The record with its fields changed, in EARLY and WATCH. -/
def Preheat.mapRun (f : PreheatRun → PreheatRun) : Preheat → Preheat
  | .idle run => .idle run
  | .early run => .early (f run)
  | .watch run rise => .watch (f run) rise

/-- What spoils a preheat at a pass (R20). -/
def State.spoils (s : State) (k : Nat) : Bool :=
  !(s.channel k).stack.isEmpty || (s.freshReading k).isNone || (s.consumer k).deferred

/-- The spoiled-flag check of a pass (R20). -/
def State.spoilCheck (s : State) (k : Nat) : State :=
  s.setPreheat k ((s.zone k).preheat.mapRun fun run => { run with spoiled := run.spoiled || s.spoils k })

/-- The rate after a learning: measured over `m` minutes, a quarter of the way, clamped to 5 … 60 (R21). -/
def learnedRate (old : Nat) (rise : Temp) (m : Nat) : Nat :=
  (clamp 5 60 (truncDiv (3 * (old : Int) + truncDiv (rise * 60) m) 4)).toNat

/-- The zone's rate after the learning of a run with fresh reading `r` (R21): spoiled, or under 10 minutes, it is
kept. -/
def State.rateAfter (s : State) (k : Nat) (run : PreheatRun) (r : Temp) : Nat :=
  let m := minutesSince s.clock.elapsed run.startElapsed
  if run.spoiled ∨ m < 10 then (s.zoneCfg k).rate
  else learnedRate (s.zoneCfg k).rate (r - run.startReading) m

/-- The learning of a pass for a run in EARLY or WATCH; `next` is the record after it (R21). -/
def State.learnWith (s : State) (k : Nat) (run : PreheatRun) (next : Preheat) : State :=
  match s.freshReading k with
  | none => s
  | some r =>
    if ¬ run.learningDone ∧ (s.channelCfg k).temperature run.target ≤ r then
      (s.setZoneCfg k { s.zoneCfg k with rate := s.rateAfter k run r }).setPreheat k next
    else s

/-- Learning at a pass (R21): in EARLY the record stays with learning done set, in WATCH it returns to IDLE. -/
def State.preheatLearn (s : State) (k : Nat) : State :=
  match (s.zone k).preheat with
  | .idle _ => s
  | .early run => s.learnWith k run (.early { run with learningDone := true })
  | .watch run _ => s.learnWith k run (.idle run.ended)

/-- The optimum start stage of a pass: search, spoiled-flag check, learning (R17, R20, R21; log 11). -/
def State.optimumStart (s : State) (k : Nat) : State := ((s.preheatSearch k).spoilCheck k).preheatLearn k

/-- The record at the rise minute: WATCH, or IDLE when learning is done (R18). -/
def Preheat.atMinute (now : Elapsed) (minute : Nat) : Preheat → Preheat
  | .early run =>
    if run.riseMinute ≠ minute then .early run else if run.learningDone then .idle run.ended else .watch run now
  | p => p

/-- The rises of a wall minute (R18). -/
def State.preheatRises (s : State) : State :=
  zoneNumbers.foldl
    (fun s k => s.setPreheat k ((s.zone k).preheat.atMinute s.clock.elapsed s.clock.minuteOfWeek)) s

end Sys2Proof.Machine
end

