-- ==== Sys2Proof/Machine/Regulator.lean ====
section
/-! DEFINITION. The zone regulator: room readings (R47 to R49), the stages of a regulation pass (R52 to R64), and
the cylinder channel's request flag (R66, R67). -/

namespace Sys2Proof.Machine

/-! ## Readings -/

/-- The measuring range of every temperature source (00_scope.md, CONVENTIONS). -/
def inMeasuringRange (t : Temp) : Bool := -400 ≤ t && t ≤ 1250

/-- A temperature offered to zone `k`: held with its stamp when in range (R47), else SENSOR is raised for the zone
(R48). -/
def State.takeReading (s : State) (k : Nat) (t : Temp) : State :=
  if inMeasuringRange t then s.setZone k { s.zone k with reading := some ⟨t, s.clock.elapsed⟩ }
  else s.raise .sensor (object k)

/-- The temperature of slot `v`'s status reply goes to every zone whose source names the slot (R49, R89). -/
def State.takeHeadReading (s : State) (v : Nat) (t : Temp) : State :=
  zoneNumbers.foldl (fun s k => if (s.zoneCfg k).source = some v then s.takeReading k t else s) s

/-! ## Stage 2: window detection (R36) -/

/-- A drop of at least the threshold between two passes (R36). -/
def dropped (previous present : Temp) (threshold : Nat) : Bool := decide ((threshold : Int) ≤ previous - present)

/-- Detection places a window at this pass: a fresh reading, not parked, enabled, a previous-pass reading, a drop
(R36). -/
def State.detects (s : State) (k : Nat) : Bool :=
  match s.freshReading k, (s.zone k).previous with
  | some present, some previous =>
    !s.parked k && (s.zoneCfg k).detectEnable && dropped previous present (s.zoneCfg k).dropThreshold
  | _, _ => false

/-- Window detection (R36). The previous-pass reading takes the present one, and becomes absent when it is stale. -/
def State.windowDetection (s : State) (k : Nat) : State :=
  let t := if s.detects k then s.placeWindow k .detect else s
  t.setZone k { t.zone k with previous := s.freshReading k }

/-! ## Stage 4: the PI computation (R54 to R58) -/

/-- The clamped error (R54). -/
def piError (setpoint reading : Temp) : Int := clamp (-100) 100 (setpoint - reading)

/-- The proportional term (R54). -/
def piProportional (e : Int) (band : Nat) : Int := roundHalfAway (e * 1000) band

/-- The integrator increment (R55). -/
def piIncrement (e : Int) (period band integralTime : Nat) : Int :=
  if integralTime = 0 then 0 else roundHalfAway (e * 1000 * period) (band * integralTime)

/-- The upward freeze (R56). -/
def piFreeze (frozen : Bool) (inc : Int) : Int := if frozen ∧ 0 < inc then 0 else inc

/-- Conditional integration and the clamp (R57). -/
def piIntegrate (p : Int) (integrator : Int) (inc : Int) : Int :=
  let candidate := integrator + inc
  let u := p + candidate
  clamp 0 1000 (if (1000 < u ∧ 0 < inc) ∨ (u < 0 ∧ inc < 0) then integrator else candidate)

/-- Integrator and demand after the PI computation (R54 to R58). With integral time 0 the integrator is 0 (R55). -/
def piCompute (z : ZoneCfg) (setpoint reading : Temp) (integrator : Nat) (frozen : Bool) : Nat × Nat :=
  let e := piError setpoint reading
  let p := piProportional e z.band
  let held : Int := if z.integralTime = 0 then 0 else integrator
  let inc := piFreeze frozen (piIncrement e z.period z.band z.integralTime)
  let i := piIntegrate p held inc
  (i.toNat, (clamp 0 1000 (p + i)).toNat)

/-- Zone `k` is frozen upward at this pass: requesting, its heat not available (R56). -/
def State.frozen (s : State) (k : Nat) : Bool := (s.consumer k).requesting && !(s.consumer k).heatAvailable

/-- Stage 4 with a fresh reading: the PI computation; SENSORLESS is cleared (R58, R60). -/
def State.regulate (s : State) (k : Nat) (reading : Temp) : State :=
  let (i, u) := piCompute (s.zoneCfg k) (s.effectiveSetpoint k) reading (s.zone k).integrator (s.frozen k)
  s.setZone k { s.zone k with integrator := i, demand := u, sensorless := false }

/-- The demand of a sensorless pass: the fallback duty, 0 for a parked zone or under a WINDOW layer (R59). -/
def State.fallbackDemand (s : State) (k : Nat) : Nat :=
  if s.parked k || windowOnTop (s.channel k).stack then 0 else (s.zoneCfg k).fallback

/-- Stage 4 with a stale reading: the sensorless stage (R59). -/
def State.sensorlessStage (s : State) (k : Nat) : State :=
  let t := if (s.zone k).sensorless then s else s.raise .sensor (object k)
  t.setZone k { t.zone k with demand := s.fallbackDemand k, sensorless := true }

/-- Stage 4 of a pass (R52). -/
def State.demandStage (s : State) (k : Nat) : State :=
  match s.freshReading k with
  | some r => s.regulate k r
  | none => s.sensorlessStage k

/-! ## Stage 5: the calls (R61, R62) -/

/-- The frost call after a pass (R62). -/
def frostCallAfter (held : Bool) (frost : Temp) : Option Temp → Bool
  | none => false
  | some r => if r < frost then true else if frost + 5 ≤ r then false else held

/-- The demand call after a pass (R61). -/
def demandCallAfter (held : Bool) (demand requestAt releaseAt : Nat) : Bool :=
  if held then decide (releaseAt ≤ demand) else decide (requestAt ≤ demand)

/-- Stage 5 of a pass: the frost call, then the demand call (R52). -/
def State.callStage (s : State) (k : Nat) : State :=
  let z := s.zone k
  s.setZone k { z with
    frostCall := frostCallAfter z.frostCall (s.channelCfg k).frost (s.freshReading k)
    demandCall := demandCallAfter z.demandCall z.demand (s.zoneCfg k).requestAt (s.zoneCfg k).releaseAt }

/-! ## Stage 6: handing on (R63, R64) -/

/-- Stage 6 of a pass: the demand goes to the move arbiter, the request to the consumer table (R63, R64), and a
changed demand of a served zone to the flow setpoint (R72). `old` is the demand before the pass. -/
def State.handOn (s : State) (k old : Nat) : State :=
  let t := (s.formAll (s.zoneSlots k)).handZoneRequest k
  if (t.consumer k).served ∧ (t.zone k).demand ≠ old then t.recomputeFlow else t

/-- A regulation pass of zone `k`, stages 1 to 6 (R52). -/
def State.pass (s : State) (k : Nat) : State :=
  let old := (s.zone k).demand
  let s := s.setZone k { s.zone k with passDue := false }
  ((((s.optimumStart k).windowDetection k).demandStage k).callStage k).handOn k old

/-! ## The cylinder channel (R66, R67) -/

/-- W requesting after a sample (R66, R67). -/
def cylinderRequest (held : Bool) (setpoint : Temp) (differential : Nat) : Option Temp → Bool
  | none => false
  | some c => if held then decide (c < setpoint) else decide (c < setpoint - differential)

/-- The valid value of a sensor. -/
def SensorRec.reading (r : SensorRec) : Option Temp := if r.valid then r.value else none

/-- A cylinder sample handed to W (R66, R67). -/
def State.cylinderSample (s : State) : State :=
  State.handWRequest
    { s with wRequest :=
        cylinderRequest s.wRequest (s.effectiveSetpoint channelW) s.cfg.differential s.field.cylinder.reading }

end Sys2Proof.Machine
end

