-- ==== Sys2Proof/Machine/Setpoint.lean ====
section
/-! DEFINITION. The setpoint unit: the requests on layers (R25, R30 to R32), layer expiry (R28), window contacts and
boosts (R37 to R39), parking and unparking (R41, R43). -/

namespace Sys2Proof.Machine

/-- A channel number is a channel (R172: an object number is never clamped). -/
def isChannel (c : Nat) : Bool := 1 ≤ c && c ≤ 17

/-- A zone number is a zone. -/
def isZone (k : Nat) : Bool := 1 ≤ k && k ≤ 16

/-- A channel mask names at least one channel and none above 17 (R25, R32). -/
def maskInRange (mask : BitVec 24) : Bool := mask != 0 && mask.toNat < 131072

/-- The channels of a mask. -/
def maskChannels (mask : BitVec 24) : List Nat := channelNumbers.filter fun c => mask.getLsbD (c - 1)

/-- The origin of a layer placed by a request (R25). -/
def portOrigin : Port → Origin
  | .main => .main
  | .service => .service

/-! ## Placing -/

/-- The layer a LAYER-PUSH places on channel `c`: its setpoint clamped to the channel's frost to limit, the duration of
a TIMED layer clamped to 1 … 1440 (R25). -/
def State.pushedLayer (s : State) (c : Nat) (kind : LayerKind) (origin : Origin) (setpoint : Temp) (duration : Nat) :
    Layer :=
  let cfg := s.channelCfg c
  { kind, origin
    setpoint := some (clamp cfg.frost cfg.limit setpoint)
    remaining := if kind = .timed then some (clampNat 1 1440 duration) else none }

/-- A LAYER-PUSH clamps the setpoint or the duration on channel `c` (R25). -/
def State.pushClamps (s : State) (c : Nat) (kind : LayerKind) (setpoint : Temp) (duration : Nat) : Bool :=
  let cfg := s.channelCfg c
  clamp cfg.frost cfg.limit setpoint != setpoint || (kind == .timed && clampNat 1 1440 duration != duration)

/-- The work of LAYER-PUSH (R25). -/
def layerPushWork (p : Port) (mask : BitVec 24) (kindCode : Nat) (setpoint : Temp) (duration : Nat) (s : State) :
    State × ReplyBody :=
  match LayerKind.ofCode kindCode with
  | none | some .window => refuse s .range
  | some kind =>
    if ¬ maskInRange mask then refuse s .range
    else
      let named := maskChannels mask
      let open_ := named.filter (!s.parked ·)
      if open_.isEmpty then refuse s .state
      else
        let clamped := open_.filter fun c => s.pushClamps c kind setpoint duration
        let full := open_.filter fun c => stackFull (s.channel c).stack
        let t := open_.foldl (fun t c => t.placeLayer c (s.pushedLayer c kind (portOrigin p) setpoint duration)) s
        (t, .done { clamped := !clamped.isEmpty }
          (channelSetOf (named.filter s.parked) ++ channelSetOf clamped ++ channelSetOf full))

/-! ## Taking away -/

/-- The bytes of a layer's fields (R24, R170). -/
def Layer.bytes (l : Layer) : List Byte :=
  byteOf l.kind.code ++ optOf wordOf l.setpoint ++ optOf (fun n => wordOf (n : Int)) l.remaining ++ byteOf l.origin.code

/-- The top layer is a WINDOW of origin INPUT held by an active contact of zone `k` (R31). -/
def State.windowHeld (s : State) (k : Nat) (l : Layer) : Bool := l.isInputWindow && s.windowContact k

/-- The work of LAYER-POP (R31). -/
def layerPopWork (c : Nat) (s : State) : State × ReplyBody :=
  if ¬ isChannel c then refuse s .range
  else
    match topLayer (s.channel c).stack with
    | none => refuse s .state
    | some l =>
      if s.windowHeld c l then refuse s .state
      else doneWith (s.setStack c (s.channel c).stack.dropLast) l.bytes

/-- Channel `c`'s stack cleared: an INPUT window of an active contact stays (R32). -/
def State.clearStack (s : State) (c : Nat) : State :=
  s.setStack c ((s.channel c).stack.filter (s.windowHeld c))

/-- The work of LAYER-CLEAR (R32). -/
def layerClearWork (mask : BitVec 24) (s : State) : State × ReplyBody :=
  if ¬ maskInRange mask then refuse s .range else done ((maskChannels mask).foldl State.clearStack s)

/-- A list with the first element that satisfies `p` released: changed by `f`, or removed where `f` gives none. -/
def releaseFirst (p : Layer → Bool) (f : Layer → Option Layer) : List Layer → List Layer
  | [] => []
  | l :: rest => if p l then (f l).toList ++ rest else l :: releaseFirst p f rest

/-- A HOLD layer released with this run-out (R30). -/
def Layer.released (runOut : Nat) (l : Layer) : Option Layer :=
  if runOut = 0 then none else some { l with kind := .timed, remaining := some runOut }

/-- A stack with its topmost HOLD layer released (R30). -/
def releaseHold (runOut : Nat) (stack : List Layer) : List Layer :=
  (releaseFirst (·.kind == .hold) (Layer.released runOut) stack.reverse).reverse

/-- The work of HOLD-RELEASE (R30). -/
def holdReleaseWork (c runOut : Nat) (s : State) : State × ReplyBody :=
  if ¬ isChannel c then refuse s .range
  else if s.parked c ∨ ¬ (s.channel c).stack.any (·.kind == .hold) then refuse s .state
  else
    (s.setStack c (releaseHold (min runOut 1440) (s.channel c).stack), .done { clamped := decide (1440 < runOut) } [])

/-- A layer whose remaining minutes have reached 0 (R28). -/
def Layer.expired (l : Layer) : Bool := l.remaining == some 0

/-- LAYER_EXPIRY on channel `c`: every expired layer of its stack is removed (R28). -/
def layerExpiryEvent (c : Nat) (s : State) : State :=
  s.event fun s => s.setStack c ((s.channel c).stack.filter (!·.expired))

/-- One elapsed minute of a layer: remaining minutes fall by one, down to 0, where the expiry is due (R28, log 3). -/
def Layer.countDown (l : Layer) : Layer := { l with remaining := tickTimer l.remaining }

/-- A boundary at which the base level changed ends the UNTIL-NEXT layers of a stack (R29). -/
def endUntilNext (stack : List Layer) : List Layer := stack.filter (·.kind != .untilNext)

/-! ## Window contacts and boosts -/

/-- A WINDOW input of zone `k` becomes active: an INPUT window is placed unless the zone is parked (R37). -/
def State.contactOpens (s : State) (k : Nat) : State := if s.parked k then s else s.placeWindow k .input

/-- A WINDOW input of zone `k` becomes inactive: the INPUT window goes unless another contact is active (R38). -/
def State.contactCloses (s : State) (k : Nat) : State :=
  if s.windowContact k then s else s.setStack k ((s.channel k).stack.filter (!·.isInputWindow))

/-- A boost edge on zone `k`: a TIMED layer of origin INPUT unless the zone is parked (R39). -/
def State.boost (s : State) (k : Nat) (setpoint : Temp) (minutes : Nat) : State :=
  if s.parked k then s else s.placeLayer k (s.pushedLayer k .timed .input setpoint minutes)

/-! ## Parking -/

/-- The number of the lowest-numbered free park slot (R41). -/
def freeParkFrom : Nat → List (Option Park) → Option Nat
  | _, [] => none
  | n, none :: _ => some n
  | n, some _ :: rest => freeParkFrom (n + 1) rest

/-- The context of zone `k` that parking saves (R40, R41 step 2). -/
def State.parkContext (s : State) (k : Nat) : Park :=
  { zone := k
    layers := (s.channel k).stack.filter (·.kind != .window)
    integrator := (s.zone k).integrator
    rate := (s.zoneCfg k).rate
    priority := (s.channelCfg k).priority }

/-- Zone `k` parked in park slot `n` (R41 steps 1 to 4). -/
def State.parkIn (s : State) (k n : Nat) : State :=
  let s := s.setParks (setItem s.cfg.parks n (some (s.parkContext k)))
  let s := s.setStack k []
  let s := s.setZone k { s.zone k with integrator := 0, previous := none, preheat := (s.zone k).preheat.ended }
  s.setChannelCfg k { s.channelCfg k with priority := 1 }

/-- The work of ZONE-PARK (R41); the request is re-formed (R63) and the plant settles. -/
def zoneParkWork (k : Nat) (s : State) : State × ReplyBody :=
  if ¬ isZone k then refuse s .range
  else if s.parked k then refuse s .state
  else
    match freeParkFrom 1 s.cfg.parks with
    | none => refuse s .full
    | some n => doneWith (((s.parkIn k n).handZoneRequest k).settle s) (byteOf n)

/-- Zone `k` unparked from park slot `n`, which holds `x` (R43 steps 1 to 5). -/
def State.unparkFrom (s : State) (k n : Nat) (x : Park) : State :=
  let s := s.setParks (setItem s.cfg.parks n none)
  let s := s.setStack k x.layers
  let s := s.setZone k {
    s.zone k with integrator := x.integrator, previous := none, preheat := (s.zone k).preheat.ended }
  let s := s.setZoneCfg k { s.zoneCfg k with rate := x.rate }
  let s := s.setChannelCfg k { s.channelCfg k with priority := x.priority }
  if s.windowContact k then s.placeWindow k .input else s

/-- The work of ZONE-UNPARK (R43); the request is re-formed (R63) and the plant settles. -/
def zoneUnparkWork (k : Nat) (s : State) : State × ReplyBody :=
  if ¬ isZone k then refuse s .range
  else
    match s.parkSlot k with
    | none => refuse s .state
    | some n =>
      match item s.cfg.parks n none with
      | none => refuse s .state
      | some x => done (((s.unparkFrom k n x).handZoneRequest k).settle s)

/-- The work of ROOM-TEMP (R47, R48). -/
def roomTempWork (k : Nat) (t : Temp) (s : State) : State × ReplyBody :=
  if ¬ isZone k then refuse s .range
  else if (s.zoneCfg k).source.isSome then refuse s .state
  else (s.takeReading k t, .done { rejected := !inMeasuringRange t } [])

end Sys2Proof.Machine
end

