-- ==== Sys2Proof/Machine/Field.lean ====
section
/-! DEFINITION. Field I/O: the sensor samples and what their readers do (R141 to R143, R151 to R153), the digital
inputs (R155 to R158, R160), the ramp step (R163). -/

namespace Sys2Proof.Machine

/-! ## Sensor samples -/

/-- A sensor's record after a sample (R152). -/
def SensorRec.sample (r : SensorRec) (converted : Temp) : SensorRec :=
  if inMeasuringRange converted then { value := some converted, valid := true, sampled := true, due := false }
  else { r with valid := false, sampled := true, due := false }

/-- SENSOR is raised at this sample: out of range, and the sensor was valid or not yet sampled (R152). -/
def SensorRec.fails (r : SensorRec) (converted : Temp) : Bool :=
  !inMeasuringRange converted && (r.valid || !r.sampled)

/-- The record of a sensor judged at a sample, with its attention (R152). -/
def State.judgeSample (s : State) (x : Sensor) (converted : Temp) : State :=
  let r := s.sensor x
  let t := s.setSensor x (r.sample converted)
  if r.fails converted then t.raise .sensor (sensorObject x) else t

/-- An overheat is found (R141). -/
def State.overheats (s : State) (flow : Temp) : Bool :=
  !s.boiler.heatDump && decide (s.cfg.boiler.flowMax + s.cfg.boiler.highLimitDelta ≤ flow)

/-- The sensor of the OVERHEAT mask: the flow sensor (R142, R171). -/
def overheatObject : ObjectSet := 1

/-- An overheat (R142): every ZONE and every SINK slot's wanted target is formed, whether or not sink-open was set
before (R107, R123; the order of the two is log 34). -/
def State.overheat (s : State) : State :=
  let s := (s.setHeatDump true).formSinks true
  let s := s.raise .overheat overheatObject
  if s.boiler.state = .firing then s.enterOverrun else s

/-- The dump ends: steps 1 to 3 of R143. -/
def State.clearDump (s : State) : State :=
  let s := s.setHeatDump false
  if s.boiler.state = .idle ∨ s.boiler.state = .rest then s.setSinkOpen false else s

/-- The end of a heat dump, with the lead expiry it held (R143). -/
def State.endDump (s : State) : State :=
  let s := s.clearDump
  if s.boiler.leadHeld then (s.setBoiler { s.boiler with leadHeld := false }).leadExpiry else s

/-- A flow sample handed to the boiler controller: the overheat and the end of a dump (R141, R143, R153). -/
def State.flowSample (s : State) : State :=
  match s.field.flow.reading with
  | none => s
  | some v =>
    if s.overheats v then s.overheat
    else if s.boiler.heatDump ∧ v < s.cfg.boiler.flowMax then s.endDump
    else s

/-- A sample handed to the readers of its sensor (R153). -/
def State.handSample (s : State) : Sensor → State
  | .flow => s.flowSample
  | .outdoor => s.recomputeFlow
  | .cylinder => s.cylinderSample

/-- SENSOR_SAMPLE: a sample of a second tick (R151, R152, R153). -/
def sensorSampleEvent (x : Sensor) (converted : Temp) (s : State) : State :=
  if (s.sensor x).due then s.plantEvent fun s => (s.judgeSample x converted).handSample x else s

/-! ## Digital inputs -/

/-- A change of level is an edge of the input (R156). -/
def isEdge (sens : Sensitivity) (high : Bool) : Bool :=
  match sens with
  | .high | .rise => high
  | .low | .fall => !high

/-- An input's function is handed "becoming active" (R157). INHIBIT and BOILER-FAULT act as blockers when the plant
settles. -/
def State.becomesActive (s : State) : InputFunction → State
  | .window k => s.contactOpens k
  | .none | .inhibit | .boilerFault | .boost _ _ _ => s

/-- An input's function is handed "becoming inactive" (R157). -/
def State.becomesInactive (s : State) : InputFunction → State
  | .window k => s.contactCloses k
  | .none | .inhibit | .boilerFault | .boost _ _ _ => s

/-- An input's function is handed an edge of input `n` (R157). -/
def State.edge (s : State) (n : Nat) : InputFunction → State
  | .boost k setpoint minutes => (s.boost k setpoint minutes).raise .input (object n)
  | .none => s.raise .input (object n)
  | .window _ | .inhibit | .boilerFault => s

/-- A change of input `n`'s debounced level to `high` (R155, R156, R157). -/
def State.changeInput (s : State) (n : Nat) (high : Bool) : State :=
  let cfg := s.inputCfg n
  let was := s.inputActive n
  let edge := isEdge cfg.sensitivity high
  let r := s.inputRec n
  let s := s.setInputRec n { r with level := some high, edges := if edge then min 255 (r.edges + 1) else r.edges }
  let s := if was ∧ ¬ s.inputActive n then s.becomesInactive cfg.function else s
  let s := if ¬ was ∧ s.inputActive n then s.becomesActive cfg.function else s
  if edge then s.edge n cfg.function else s

/-- The debounced level of input `n` is established (R160). -/
def State.establishInput (s : State) (n : Nat) (high : Bool) : State :=
  let s := s.setInputRec n { s.inputRec n with level := some high }
  if s.inputActive n then s.becomesActive (s.inputCfg n).function else s

/-- What a sample of a pin brings (R155's table). -/
inductive SampleOutcome where
  /-- The last sample takes the value; the debounced level is unchanged. -/
  | taken
  /-- The debounced level is established. -/
  | established
  /-- The debounced level changes. -/
  | changed
  deriving DecidableEq, Repr

/-- Judge a sample of a pin (R155, R160). -/
def InputRec.judge (r : InputRec) (high : Bool) : SampleOutcome :=
  if r.last = some high then
    match r.level with
    | none => .established
    | some l => if l = high then .taken else .changed
  else .taken

/-- An existing input. -/
def isInput (n : Nat) : Bool := 1 ≤ n && n ≤ 4

/-- One sample of input `n`'s pin (R155). -/
def State.sampleInput (s : State) (n : Nat) (high : Bool) : State :=
  match (s.inputRec n).judge high with
  | .taken => s.setInputRec n { s.inputRec n with last := some high }
  | .established => s.establishInput n high
  | .changed => s.changeInput n high

/-- INPUT_SAMPLE: a sample of input `n`'s pin (R155, log 13). A sample that the table only takes changes nothing
beyond the last sample; one that changes or establishes the level reaches the plant. -/
def inputSampleEvent (n : Nat) (high : Bool) (s : State) : State :=
  if ¬ isInput n then s
  else if (s.inputRec n).judge high = .taken then s.event (·.sampleInput n high)
  else s.plantEvent (·.sampleInput n high)

/-- INPUT_CHANGE: a sample that changes the debounced level (R155, R157). -/
def inputChangeEvent (n : Nat) (high : Bool) (s : State) : State :=
  if isInput n ∧ (s.inputRec n).judge high = .changed then s.plantEvent (·.changeInput n high) else s

/-- INPUT_ESTABLISHED: the sample that establishes the debounced level after a reset (R160). -/
def inputEstablishedEvent (n : Nat) (high : Bool) (s : State) : State :=
  if isInput n ∧ (s.inputRec n).judge high = .established then s.plantEvent (·.establishInput n high) else s

/-- The functions an input can be given, from the codes and fields of INPUT-SET (R154): none where a field is out of
range, missing, or given for a function that does not take it. -/
def inputFunction (code : Nat) (zone : Option Nat) (setpoint : Option Temp) (minutes : Option Nat) :
    Option InputFunction :=
  match code, zone, setpoint, minutes with
  | 0, none, none, none => some .none
  | 1, some k, none, none => if isZone k then some (.window k) else none
  | 2, none, none, none => some .inhibit
  | 3, none, none, none => some .boilerFault
  | 4, some k, some t, some m =>
    if isZone k ∧ inMeasuringRange t ∧ 1 ≤ m ∧ m ≤ 1440 then some (.boost k t m) else none
  | _, _, _, _ => none

/-- A function goes with a sensitivity: WINDOW, INHIBIT and BOILER-FAULT with HIGH or LOW, BOOST with RISE or FALL,
NONE with any (R154). -/
def sensitivityFits (f : InputFunction) (sens : Sensitivity) : Bool :=
  match f with
  | .none => true
  | .boost _ _ _ => sens == .rise || sens == .fall
  | .window _ | .inhibit | .boilerFault => sens == .high || sens == .low

/-- Input `n` reconfigured: the old function is handed a change first, the new one second (R158). -/
def State.reconfigureInput (s : State) (n : Nat) (cfg : InputCfg) : State :=
  let old := s.inputCfg n
  let was := s.inputActive n
  let s := s.setInputCfg n cfg
  let s := if was ∧ (¬ s.inputActive n ∨ cfg.function ≠ old.function) then s.becomesInactive old.function else s
  if s.inputActive n then s.becomesActive cfg.function else s

/-- The work of INPUT-SET (R154, R158). -/
def inputSetWork (n sensCode fnCode : Nat) (zone : Option Nat) (setpoint : Option Temp) (minutes : Option Nat)
    (s : State) : State × ReplyBody :=
  match Sensitivity.ofCode sensCode, inputFunction fnCode zone setpoint minutes with
  | some sens, some f =>
    if ¬ isInput n ∨ ¬ sensitivityFits f sens then refuse s .range
    else if s.inputCfg n = ⟨sens, f⟩ then done s
    else done ((s.reconfigureInput n ⟨sens, f⟩).settle s)
  | _, _ => refuse s .range

/-- The bytes of a sensor's record (R159). -/
def SensorRec.bytes (r : SensorRec) : List Byte := optOf wordOf r.value ++ flagOf r.valid ++ flagOf r.sampled

/-- The zone, setpoint and minutes of a function, present where it takes them (R154). -/
def InputFunction.fields : InputFunction → Option Nat × Option Temp × Option Nat
  | .window k => (some k, Option.none, Option.none)
  | .boost k t m => (some k, some t, some m)
  | .none | .inhibit | .boilerFault => (Option.none, Option.none, Option.none)

/-- The bytes of input `n`: configuration, last sample, debounced level, active state, edge count (R159). A last sample
and a level that may be absent go behind a presence byte, 1 for high and 0 for low (log 40). -/
def State.inputBytes (s : State) (n : Nat) : List Byte :=
  let cfg := s.inputCfg n
  let r := s.inputRec n
  let (zone, setpoint, minutes) := cfg.function.fields
  byteOf cfg.sensitivity.code ++ byteOf cfg.function.code ++ optOf byteOf zone ++ optOf wordOf setpoint
    ++ optOf (fun m => wordOf (m : Int)) minutes
    ++ optOf flagOf r.last ++ optOf flagOf r.level ++ flagOf (s.inputActive n) ++ byteOf r.edges

/-- The inputs an INPUT-GET names (R159). -/
def namedInputs : Option Nat → List Nat
  | none => inputNumbers
  | some n => [n]

/-- Clear the edge count of input `n` (R159). -/
def State.clearEdges (s : State) (n : Nat) : State := s.setInputRec n { s.inputRec n with edges := 0 }

/-- The work of INPUT-GET (R159). The last supply measurement goes in 16 bits behind a presence byte (log 40). -/
def inputGetWork (n : Option Nat) (clear : Bool) (s : State) : State × ReplyBody :=
  if ¬ n.all isInput then refuse s .range
  else
    let data := (namedInputs n).flatMap s.inputBytes ++ s.field.flow.bytes ++ s.field.outdoor.bytes
      ++ s.field.cylinder.bytes ++ flagOf s.field.supplyOk ++ optOf (fun v => wordOf (v : Int)) s.field.supplyLast
    doneWith (if clear then (namedInputs n).foldl State.clearEdges s else s) data

/-! ## The ramp -/

/-- The ramp's step timer has expired. -/
def FieldIO.stepDue (f : FieldIO) : Bool := f.ramp.any (·.timer == 0)

/-- A step of the ramp (R163). -/
def State.rampStep (s : State) : State :=
  match s.field.ramp with
  | none => s
  | some r =>
    let f := { s.field with output := rampValue r.start r.target r.next }
    s.setField { f with
      ramp := if r.next < 16 then some { r with next := r.next + 1, timer := s.cfg.boiler.rampStep } else none }

/-- RAMP_STEP: the step timer expires (R163). -/
def rampStepEvent (s : State) : State := if s.field.stepDue then s.event State.rampStep else s

end Sys2Proof.Machine
end

