-- ==== Sys2Proof/Machine/Time.lean ====
section
/-! DEFINITION. The time base and the events that come of it: the second tick and its timers (R1, R2), the wall
minute (R1, R14, R15, R18, R29, R124), the elapsed minute (R2, R28, R51), the boiler's deadlines (R133, R135, R138 to
R140), the end of a watch (R18), the end of a store write (R189), the lapse of the edit claim (R184). -/

namespace Sys2Proof.Machine

/-! ## The wall clock -/

/-- The clock at a wall minute: seconds 0, the minute of week advanced, the parity changed at a Monday rollover
(R1). -/
def Clock.wallMinute (c : Clock) : Clock :=
  if c.minuteOfWeek + 1 = 10080 then
    { c with wallSeconds := 0, minuteOfWeek := 0, parity := c.parity.other, wallDue := false }
  else { c with wallSeconds := 0, minuteOfWeek := c.minuteOfWeek + 1, wallDue := false }

/-- A second tick of the wall seconds: at 59 the wall minute is due (R1, log 3). -/
def Clock.wallTick (c : Clock) : Clock :=
  if c.wallSeconds < 59 then { c with wallSeconds := c.wallSeconds + 1 } else { c with wallDue := true }

/-- A second tick counted towards the elapsed minute: the sixtieth makes it due (R2, log 3). -/
def Clock.elapsedTick (c : Clock) : Clock :=
  if c.tickCount < 59 then { c with tickCount := c.tickCount + 1 }
  else { c with tickCount := 0, elapsedDue := true }

/-! ## Slot boundaries -/

/-- End the UNTIL-NEXT layers of channel `c` if its base level is no longer `old` (R29). -/
def State.endUntilNextOf (s : State) (old : Nat → Level) (c : Nat) : State :=
  if s.baseLevel c = old c then s else s.setStack c (endUntilNext (s.channel c).stack)

/-- A slot boundary (R15): the midnight's plans (R14), the ends of UNTIL-NEXT layers against the levels `old` of the
slot just ended (R29), the rises (R18). -/
def State.slotBoundary (s : State) (old : Nat → Level) : State :=
  let s := if s.clock.minuteOfDay = 0 then channelNumbers.foldl State.midnightPlan s else s
  (channelNumbers.foldl (fun s c => s.endUntilNextOf old c) s).preheatRises

/-- A wall minute (R1): the clock advances; a multiple of 10 of the minute of day is a slot boundary, and at the
exercise slot the entries of R124 are made and the plant settles. -/
def State.wallMinute (s : State) : State :=
  let t := s.setClock s.clock.wallMinute
  if t.clock.minuteOfDay % 10 = 0 then
    let u := t.slotBoundary s.baseLevel
    if u.clock.slot = u.cfg.boiler.exerciseSlot then u.exercise.settle s else u
  else t

/-- WALL_MINUTE: the wall seconds have passed 59 (R1). -/
def wallMinuteEvent (s : State) : State := if s.clock.wallDue then s.event State.wallMinute else s

/-! ## The elapsed minute -/

/-- Zone `k` with period `P` has its pass at counter value `m`: m mod P = k mod P (R51). -/
def passFalls (m : Elapsed) (k period : Nat) : Bool := m.toNat % period == k % period

/-- Mark zone `k`'s pass due where it falls on the present counter value (R51). -/
def State.duePass (s : State) (k : Nat) : State :=
  if passFalls s.clock.elapsed k (s.zoneCfg k).period then s.setZone k { s.zone k with passDue := true } else s

/-- One elapsed minute of a channel's stack (R28). -/
def ChannelRun.countDown (r : ChannelRun) : ChannelRun := { r with stack := r.stack.map Layer.countDown }

/-- An elapsed minute: the counter advances (R2), the layers of every live stack count down (R28), the passes that
fall on the new value are due (R51). -/
def State.elapsedMinute (s : State) : State :=
  let s := s.setClock { s.clock with elapsed := s.clock.elapsed + 1, elapsedDue := false }
  let s := { s with channels := s.channels.map ChannelRun.countDown }
  zoneNumbers.foldl State.duePass s

/-- ELAPSED_MINUTE: the sixtieth second tick has come (R2). -/
def elapsedMinuteEvent (s : State) : State := if s.clock.elapsedDue then s.event State.elapsedMinute else s

/-! ## The second tick -/

/-- The move timer of a head (R95). -/
def Head.tick (h : Head) : Head := { h with move := h.move.map fun m => { m with timer := tickTimer m.timer } }

/-- The boiler's timers: lead, overrun, pump (R133, R138, R140). -/
def Boiler.tick (b : Boiler) : Boiler :=
  { b with leadTimer := tickTimer b.leadTimer, overrunTimer := tickTimer b.overrunTimer,
           pumpTimer := tickTimer b.pumpTimer }

/-- The ramp's step timer (R163). -/
def Ramp.tick (r : Ramp) : Ramp := { r with timer := r.timer - 1 }

/-- A sensor whose sample falls on this second tick (R151). -/
def SensorRec.makeDue (r : SensorRec) : SensorRec := { r with due := true }

/-- Field I/O at a second tick: the ramp's timer, and at the first tick after a reset and every tenth after it the
samples of the three sensors (R151, R163). -/
def FieldIO.tick (f : FieldIO) : FieldIO :=
  let f := { f with ramp := f.ramp.map Ramp.tick, samplePhase := (f.samplePhase + 1) % 10 }
  if f.samplePhase = 1 then
    { f with flow := f.flow.makeDue, outdoor := f.outdoor.makeDue, cylinder := f.cylinder.makeDue }
  else f

/-- The lapse timer (R184). -/
def EditClaim.tick (c : EditClaim) : EditClaim := { c with lapse := c.lapse - 1 }

/-- A second tick: wall seconds, elapsed count, and every timer in seconds (R1, R2, R3). -/
def State.tick (s : State) : State :=
  { s with
    clock := s.clock.wallTick.elapsedTick
    heads := s.heads.map Head.tick
    boiler := s.boiler.tick
    field := s.field.tick
    claim := s.claim.map EditClaim.tick }

/-- The minute events that an earlier second tick left due are taken before the next one (log 3), the elapsed minute
before the wall minute: R2 makes them separate events and gives no order; this one gives R18's worked example its rise
elapsed (log 3). -/
def State.takeMinutes (s : State) : State := wallMinuteEvent (elapsedMinuteEvent s)

/-- The wall clock while a WARM reset acts: it runs on, a wall minute passed compiles nothing (R104). -/
def Clock.runOn (c : Clock) : Clock := if c.wallSeconds < 59 then { c with wallSeconds := c.wallSeconds + 1 } else c.wallMinute

/-- SECOND_TICK (R1; R104 while a WARM reset acts). -/
def secondTickEvent (s : State) : State :=
  if s.acting.isSome then s.setClock s.clock.runOn else s.takeMinutes.tick

/-! ## Deadlines -/

/-- A WATCH has reached rise elapsed plus 60 (R18). -/
def Preheat.watchOver (now : Elapsed) : Preheat → Bool
  | .watch _ rise => decide (60 ≤ minutesSince now rise)
  | .idle _ | .early _ => false

/-- WATCH_END of zone `k` (R18). -/
def watchEndEvent (k : Nat) (s : State) : State :=
  if (s.zone k).preheat.watchOver s.clock.elapsed then s.event (·.abandonPreheat k) else s

/-- REGULATION_PASS of zone `k` (R51, R52). -/
def regulationPassEvent (k : Nat) (s : State) : State :=
  if (s.zone k).passDue then s.plantEvent (·.pass k) else s

/-- MIN_ON_ELAPSED: min-on elapses in the min-on hold (R135). -/
def minOnElapsedEvent (s : State) : State :=
  if s.boiler.state = .firing ∧ s.boiler.minOnHold ∧ s.minOnElapsed then s.plantEvent State.enterOverrun else s

/-- MIN_OFF_ELAPSED: min-off elapses in REST (R139). -/
def minOffElapsedEvent (s : State) : State :=
  if s.boiler.state = .rest ∧ s.minOffElapsed then s.plantEvent State.enterIdle else s

/-- LEAD_EXPIRY: the lead timer expires (R133). -/
def leadExpiryEvent (s : State) : State :=
  if s.boiler.state = .lead ∧ timerExpired s.boiler.leadTimer then s.plantEvent State.leadExpiry else s

/-- OVERRUN_EXPIRY: the overrun timer expires (R138). -/
def overrunExpiryEvent (s : State) : State :=
  if s.boiler.state = .overrun ∧ timerExpired s.boiler.overrunTimer then s.plantEvent State.enterRest else s

/-- The pump timer of FAULTED ends (R140). -/
def State.endPumpRun (s : State) : State := s.setBoiler { s.boiler with pumpTimer := none }

/-- PUMP_TIMER_EXPIRY: the pump timer of FAULTED expires (R140). -/
def pumpTimerExpiryEvent (s : State) : State :=
  if s.boiler.state = .faulted ∧ timerExpired s.boiler.pumpTimer then s.plantEvent State.endPumpRun else s

/-! ## Store write and edit claim -/

/-- The marks SAVED and DEFAULTS of STORE attention (R171). -/
def storeSaved : Byte := 1
def storeDefaults : Byte := 2

/-- The end of a write of the snapshot `x`: the snapshot and its check value (R189). -/
def State.writeEnds (s : State) (x : Stored) : State :=
  (s.setStore { s.store with image := x, check := Config.checkValue x, imageValid := true, writing := none }).raiseStore storeSaved

/-- STORE_WRITE_END (R189). -/
def storeWriteEndEvent (s : State) : State :=
  match s.store.writing with
  | none => s
  | some x => s.event (·.writeEnds x)

/-- The claim lapses: staging is gone, the claim free, EDIT raised at the former holder (R184). -/
def State.lapse (s : State) (c : EditClaim) : State := (s.setClaim none).raiseAt c.holder .edit 0 0

/-- EDIT_CLAIM_LAPSE: the lapse timer expires (R184). -/
def editClaimLapseEvent (s : State) : State :=
  match s.claim with
  | some c => if c.lapse = 0 then s.event (·.lapse c) else s
  | none => s

end Sys2Proof.Machine
end

