-- ==== Sys2Proof/Machine/Settings.lean ====
section
/-! DEFINITION. The SET requests: CLOCK-SET (R5), CHANNEL-SET (R173 and the rules of its fields), VALVE-SET (R82,
R83), BOILER-SET (R145), ATTN-MASK (R177); and LINK-CLEAR (R100), VALVE-HOME (R97). -/

namespace Sys2Proof.Machine

/-- A value within a range, as a count. -/
def natIn (lo hi : Nat) (v : Int) : Option Nat :=
  if (lo : Int) ≤ v ∧ v ≤ (hi : Int) then some v.toNat else none

/-- A value within a range, as a temperature. -/
def tempIn (lo hi v : Int) : Option Temp := if lo ≤ v ∧ v ≤ hi then some v else none

/-- A two-valued indication: 1 for the first value, 0 for the second (R171). Any other value of a SET field is out of range,
not out of form (R168 step 5, log 45). -/
def flagIn (v : Int) : Option Bool := if v = 1 then some true else if v = 0 then some false else none

/-! ## CLOCK-SET (R5) -/

/-- The clock set; a wall minute that was due belonged to the old time (R5, log 3). -/
def Clock.setTo (c : Clock) (minute seconds : Nat) (q : Parity) : Clock :=
  { c with minuteOfWeek := minute, wallSeconds := seconds, parity := q, clockSet := true, wallDue := false }

/-- The work of CLOCK-SET (R5). -/
def clockSetWork (minute seconds parityCode : Nat) (s : State) : State × ReplyBody :=
  match Parity.ofCode parityCode with
  | none => refuse s .range
  | some q =>
    if 10079 < minute ∨ 59 < seconds then refuse s .range
    else done ((s.setClock (s.clock.setTo minute seconds q)).compileAll.abandonAll)

/-! ## CHANNEL-SET (R173) -/

/-- The configuration a CHANNEL-SET works on: the channel's, the zone's for a zone, W's differential. -/
structure ChannelDraft where
  channel : ChannelCfg
  zone : ZoneCfg
  differential : Nat
  deriving DecidableEq, Repr

/-- A sensor source code: 0 for PORT, n for HEAD n (R46, R171). -/
def sourceIn (v : Int) : Option (Option Nat) := (natIn 0 32 v).map fun n => if n = 0 then none else some n

/-- Write one listed field of channel `c`, in the range its rule gives; `none` is RANGE (R9, R16, R23, R35, R46, R50,
R51, R53, R59, R61, R63, R65, R173). The relations between fields are judged by `ChannelDraft.consistent`. -/
def ChannelDraft.write (w : Bool) (d : ChannelDraft) (f : ChannelField) (v : Int) : Option ChannelDraft :=
  let setC (g : ChannelCfg) : ChannelDraft := { d with channel := g }
  let setZ (g : ZoneCfg) : Option ChannelDraft := if w then none else some { d with zone := g }
  match f with
  | .program => (natIn 0 24 v).map fun n => setC { d.channel with program := n }
  | .defaultLevel => (natIn 0 3 v >>= Level.ofCode).map fun l => setC { d.channel with defaultLevel := l }
  | .preheatEnable => (flagIn v).bind fun b => setZ { d.zone with preheatEnable := b }
  | .rate => (natIn 5 60 v).bind fun n => setZ { d.zone with rate := n }
  | .preheatLimit => (natIn 0 240 v).bind fun n => setZ { d.zone with preheatLimit := n }
  | .frost => (tempIn 50 120 v).map fun t => setC { d.channel with frost := t }
  | .setback => some (setC { d.channel with setback := v })
  | .eco => some (setC { d.channel with eco := v })
  | .comfort => some (setC { d.channel with comfort := v })
  | .limit => (if w then tempIn 400 750 v else tempIn 150 300 v).map fun t => setC { d.channel with limit := t }
  | .detectEnable => (flagIn v).bind fun b => setZ { d.zone with detectEnable := b }
  | .dropThreshold => (natIn 5 30 v).bind fun n => setZ { d.zone with dropThreshold := n }
  | .windowTime => (natIn 5 60 v).bind fun n => setZ { d.zone with windowTime := n }
  | .source => (sourceIn v).bind fun x => setZ { d.zone with source := x }
  | .staleLimit => (natIn 5 60 v).bind fun n => setZ { d.zone with staleLimit := n }
  | .period => (natIn 1 10 v).bind fun n => setZ { d.zone with period := n }
  | .band => (natIn 5 50 v).bind fun n => setZ { d.zone with band := n }
  | .integralTime =>
    if v = 0 then setZ { d.zone with integralTime := 0 }
    else (natIn 10 240 v).bind fun n => setZ { d.zone with integralTime := n }
  | .fallback => (natIn 0 1000 v).bind fun n => setZ { d.zone with fallback := n }
  | .requestAt => (natIn 0 1000 v).bind fun n => setZ { d.zone with requestAt := n }
  | .releaseAt => (natIn 0 1000 v).bind fun n => setZ { d.zone with releaseAt := n }
  | .priority => (natIn 0 3 v).map fun n => setC { d.channel with priority := n }
  | .differential => if w then (natIn 20 200 v).map fun n => { d with differential := n } else none

/-- Write every listed field in turn. -/
def ChannelDraft.writeAll (w : Bool) : ChannelDraft → List (Nat × Int) → Option ChannelDraft
  | d, [] => some d
  | d, (code, v) :: rest =>
    match ChannelField.ofCode code with
    | none => none
    | some f => (d.write w f v).bind fun d' => d'.writeAll w rest

/-- A level temperature lies in frost to limit (R23). -/
def ChannelCfg.admits (c : ChannelCfg) (t : Temp) : Bool := c.frost ≤ t && t ≤ c.limit

/-- The checks between fields on the values the channel would hold: the level temperatures within frost to limit
(R23), the release threshold not above the request threshold (R61). -/
def ChannelDraft.consistent (d : ChannelDraft) : Bool :=
  d.channel.admits d.channel.setback && d.channel.admits d.channel.eco && d.channel.admits d.channel.comfort
    && decide (d.zone.releaseAt ≤ d.zone.requestAt)

/-- A field code is given twice (R173). -/
def codeTwice : List (Nat × Int) → Bool
  | [] => false
  | (code, _) :: rest => rest.any (·.1 == code) || codeTwice rest

/-- The configuration of channel `c` as a draft. -/
def State.draft (s : State) (c : Nat) : ChannelDraft := ⟨s.channelCfg c, s.zoneCfg c, s.cfg.differential⟩

/-- The draft a CHANNEL-SET gives, or `none` where it is refused RANGE (R173). -/
def State.channelDraft (s : State) (c : Nat) (fields : List (Nat × Int)) : Option ChannelDraft :=
  if codeTwice fields then none
  else ((s.draft c).writeAll (c == channelW) fields).bind fun d => if d.consistent then some d else none

/-- Write a draft into channel `c`. -/
def State.writeDraft (s : State) (c : Nat) (d : ChannelDraft) : State :=
  let s := s.setChannelCfg c d.channel
  if c = channelW then s.setCfg { s.cfg with differential := d.differential } else s.setZoneCfg c d.zone

/-- The consequences of a CHANNEL-SET that turned the draft `old` into `new` (R14, R19, R46, R173). -/
def State.draftEffects (s : State) (c : Nat) (old new : ChannelDraft) : State :=
  let planned := new.channel.program ≠ old.channel.program ∨ new.channel.defaultLevel ≠ old.channel.defaultLevel
  let s := if planned then s.compile c else s
  let s := if c ≠ channelW ∧ (planned ∨ ¬ new.zone.preheatEnable) then s.abandonPreheat c else s
  if c ≠ channelW ∧ new.zone.source ≠ old.zone.source then s.setZone c { s.zone c with reading := none } else s

/-- A changed priority hands the channel's request to the consumer table (R63, R66). -/
def State.handRequestOf (s : State) (c : Nat) : State :=
  if c = channelW then s.handWRequest else s.handZoneRequest c

/-- The work of CHANNEL-SET (R173). -/
def channelSetWork (c : Nat) (fields : List (Nat × Int)) (s : State) : State × ReplyBody :=
  if ¬ isChannel c then refuse s .range
  else
    match s.channelDraft c fields with
    | none => refuse s .range
    | some d =>
      let old := s.draft c
      if s.parked c ∧ (d.zone.rate ≠ old.zone.rate ∨ d.channel.priority ≠ old.channel.priority) then refuse s .state
      else
        let t := (s.writeDraft c d).draftEffects c old d
        if d.channel.priority = old.channel.priority then done t else done ((t.handRequestOf c).settle s)

/-! ## VALVE-SET (R82, R83) -/

/-- The fields of a slot with zone and dump-eligible as they are given beside the role. -/
structure ValveDraft where
  cfg : ValveCfg
  /-- The role's code (R171). -/
  role : Nat
  zone : Option Nat
  dump : Option Bool
  deriving DecidableEq, Repr

/-- Write one listed field; `none` is RANGE (R82). -/
def ValveDraft.write (d : ValveDraft) (f : ValveField) (v : Int) : Option ValveDraft :=
  match f with
  | .role => (natIn 0 3 v).map fun n => { d with role := n }
  | .zone => (natIn 1 16 v).map fun n => { d with zone := some n }
  | .dumpEligible => (flagIn v).map fun b => { d with dump := some b }
  | .weight => (natIn 0 100 v).map fun n => { d with cfg := { d.cfg with weight := n } }
  | .liftMin => (natIn 0 100 v).map fun n => { d with cfg := { d.cfg with liftMin := n } }
  | .liftMax => (natIn 0 100 v).map fun n => { d with cfg := { d.cfg with liftMax := n } }
  | .deadband => (natIn 1 10 v).map fun n => { d with cfg := { d.cfg with deadband := n } }
  | .stroke => (natIn 30 300 v).map fun n => { d with cfg := { d.cfg with stroke := n } }

/-- Write every listed field in turn; a code given twice stands as given last (log 10). -/
def ValveDraft.writeAll : ValveDraft → List (Nat × Int) → Option ValveDraft
  | d, [] => some d
  | d, (code, v) :: rest =>
    match ValveField.ofCode code with
    | none => none
    | some f => (d.write f v).bind fun d' => d'.writeAll rest

/-- The role of a draft: ZONE keeps the zone and flag the slot held as a ZONE where none is given, and takes
dump-eligible clear when it was none; a zone or a flag with another role is RANGE (R82). -/
def ValveDraft.roleOf (d : ValveDraft) : Option Role :=
  match d.role with
  | 1 =>
    let (heldZone, heldDump) := match d.cfg.role with
      | .zone k b => (some k, b)
      | _ => (none, false)
    (d.zone.or heldZone).map fun k => .zone k (d.dump.getD heldDump)
  | 0 => if d.zone.isNone ∧ d.dump.isNone then some .unused else none
  | 2 => if d.zone.isNone ∧ d.dump.isNone then some .cylinder else none
  | 3 => if d.zone.isNone ∧ d.dump.isNone then some .sink else none
  | _ => none

/-- The configuration a VALVE-SET gives a slot, or `none` where it is refused RANGE (R82). -/
def valveDraft (cfg : ValveCfg) (fields : List (Nat × Int)) : Option ValveCfg :=
  (ValveDraft.writeAll ⟨cfg, cfg.role.code, none, none⟩ fields).bind fun d =>
    d.roleOf.bind fun r =>
      if d.cfg.liftMin < d.cfg.liftMax then some { d.cfg with role := r } else none

/-- Two roles of one assignment: the same role, and for ZONE the same zone (R83). -/
def Role.sameAssignment : Role → Role → Bool
  | .unused, .unused => true
  | .cylinder, .cylinder => true
  | .sink, .sink => true
  | .zone j _, .zone k _ => j == k
  | _, _ => false

/-- A head whose slot comes into use: UNKNOWN unless it still runs a move, counts 0 (R83). -/
def Head.enlisted (h : Head) : Head :=
  if h.running then { h with misses := 0, retries := 0 }
  else { h with state := .unknown, move := none, misses := 0, retries := 0, retryDue := none }

/-- Slot `v`'s entry removed for a new assignment; a HOME is requested again (R83). -/
def State.reassignEntry (s : State) (v : Nat) : State :=
  match s.entryOf v with
  | none => s
  | some e => if e.op = .home then (s.removeEntry v).requestHoming v else s.removeEntry v

/-- The effects of a slot's new role, the configuration being written already (R83). -/
def State.roleEffects (s : State) (v : Nat) (old new : Role) : State :=
  if old.sameAssignment new then s
  else if new = .unused then
    ((s.removeEntry v).setHead v { s.head v with retryDue := none }).setWanted v none
  else if old = .unused then (s.setHead v (s.head v).enlisted).formAndOffer v
  else (s.reassignEntry v).formAndOffer v

/-- An existing valve slot. -/
def isSlot (v : Nat) : Bool := 1 ≤ v && v ≤ 32

/-- The work of VALVE-SET (R82, R83). -/
def valveSetWork (v : Nat) (fields : List (Nat × Int)) (s : State) : State × ReplyBody :=
  if ¬ isSlot v then refuse s .range
  else
    match valveDraft (s.valveCfg v) fields with
    | none => refuse s .range
    | some cfg =>
      if cfg = s.valveCfg v then done s
      else done (((s.setValveCfg v cfg).roleEffects v (s.valveCfg v).role cfg.role).settle s)

/-! ## BOILER-SET (R145) -/

/-- Write one listed setting; `none` is RANGE (R145, R79, R116, R124, R162). -/
def BoilerCfg.write (b : BoilerCfg) (f : BoilerField) (v : Int) : Option BoilerCfg :=
  match f with
  | .leadTime => (natIn 0 120 v).map fun n => { b with leadTime := n }
  | .minOn => (natIn 0 15 v).map fun n => { b with minOn := n }
  | .overrunTime => (natIn 0 600 v).map fun n => { b with overrunTime := n }
  | .minOff => (natIn 0 30 v).map fun n => { b with minOff := n }
  | .highLimitDelta => (natIn 50 200 v).map fun n => { b with highLimitDelta := n }
  | .designOutdoor => (tempIn (-300) 0 v).map fun t => { b with designOutdoor := t }
  | .designFlow => (tempIn 300 850 v).map fun t => { b with designFlow := t }
  | .neutralOutdoor => (tempIn 150 250 v).map fun t => { b with neutralOutdoor := t }
  | .baseFlow => (tempIn 200 400 v).map fun t => { b with baseFlow := t }
  | .shift => (natIn 0 100 v).map fun n => { b with shift := n }
  | .flowDelta => (natIn 50 250 v).map fun n => { b with flowDelta := n }
  | .flowMin => (tempIn 200 400 v).map fun t => { b with flowMin := t }
  | .flowMax => (tempIn 400 850 v).map fun t => { b with flowMax := t }
  | .sinkMinimum => (natIn 0 100 v).map fun n => { b with sinkMinimum := n }
  | .motorAllowance => (natIn 1 4 v).map fun n => { b with motorAllowance := n }
  | .exerciseSlot => (natIn 0 143 v).map fun n => { b with exerciseSlot := n }
  | .rampStep => (natIn 1 60 v).map fun n => { b with rampStep := n }

/-- Write every listed setting in turn; a code given twice stands as given last (log 10). -/
def BoilerCfg.writeAll : BoilerCfg → List (Nat × Int) → Option BoilerCfg
  | b, [] => some b
  | b, (code, v) :: rest =>
    match BoilerField.ofCode code with
    | none => none
    | some f => (b.write f v).bind fun b' => b'.writeAll rest

/-- The checks between settings: base flow below design flow, flow min not above flow max (R145). -/
def BoilerCfg.consistent (b : BoilerCfg) : Bool :=
  decide (b.baseFlow < b.designFlow) && decide (b.flowMin ≤ b.flowMax)

/-- The settings a BOILER-SET gives, or `none` where it is refused RANGE (R145). -/
def boilerDraft (b : BoilerCfg) (fields : List (Nat × Int)) : Option BoilerCfg :=
  (b.writeAll fields).bind fun b' => if b'.consistent then some b' else none

/-- The work of BOILER-SET (R145): the flow setpoint is recomputed, min-on and min-off are judged, Cmin is compared
with C, a raised allowance takes a grant round. -/
def boilerSetWork (fields : List (Nat × Int)) (s : State) : State × ReplyBody :=
  match boilerDraft s.cfg.boiler fields with
  | none => refuse s .range
  | some b =>
    if b.motorAllowance < s.cfg.boiler.motorAllowance ∧ b.motorAllowance < s.unitsInUse then refuse s .state
    else done (((s.setCfg { s.cfg with boiler := b }).recomputeFlow).settleJudging s)

/-! ## ATTN-MASK (R177) -/

/-- A category number and objects in range (R177). -/
def maskItemInRange (i : MaskItem) : Bool :=
  i.category < 16 && (i.objects &&& ~~~(objectKind i.category).range) == 0

/-- The complete mask a request carries: a category it does not list is not masked (log 8). -/
def maskOf (items : List MaskItem) : List Mask :=
  (List.range 16).map fun c =>
    match items.find? (·.category == c) with
    | some i => ⟨i.whole, i.objects⟩
    | none => ⟨false, 0⟩

/-- Replace a port's mask. -/
def State.setMasks (s : State) (p : Port) (ms : List Mask) : State :=
  s.setCfg <|
    match p with
    | .main => { s.cfg with masksMain := ms }
    | .service => { s.cfg with masksService := ms }

/-- The work of ATTN-MASK (R177). -/
def attnMaskWork (p : Port) (items : List MaskItem) (s : State) : State × ReplyBody :=
  if items.all maskItemInRange then done (s.setMasks p (maskOf items)) else refuse s .range

/-! ## VALVE-HOME (R97) and LINK-CLEAR (R100) -/

/-- The work of VALVE-HOME (R97). -/
def valveHomeWork (v : Nat) (s : State) : State × ReplyBody :=
  if ¬ isSlot v then refuse s .range
  else if ¬ s.used v ∨ (s.head v).state = .absent then refuse s .state
  else done (((s.setHead v { s.head v with retries := 0, retryDue := none }).requestHoming v).settle s)

/-- A head after LINK-CLEAR: UNKNOWN, counts 0, no retry due; its reported fields stay (R100). -/
def Head.cleared (h : Head) : Head :=
  { h with state := .unknown, move := none, misses := 0, retries := 0, retryDue := none }

/-- The work of LINK-CLEAR (R100). The link's return to OK takes a grant round in this event (R118), so a HOME that waits
may be granted in it, though R100 says that no move has been granted in between (log 37). -/
def linkClearWork (s : State) : State × ReplyBody :=
  if ¬ s.link.fault then refuse s .state
  else
    done (({ s.setLink { s.link with fault := false } with heads := s.heads.map Head.cleared }).settle s)

end Sys2Proof.Machine
end

