-- ==== Sys2Proof/Machine/Tables.lean ====
section
/-! DEFINITION. Table reading by tag and cursor (R180 to R182), the edit claim, staging and commit (R183 to R187),
the requests of the settings store (R189 to R191). -/

namespace Sys2Proof.Machine

/-! ## Reading tables -/

/-- The tables by base tag (R180). -/
inductive TableName where
  | pool
  | programs
  | heads
  | plan (channel : Nat)
  deriving DecidableEq, Repr

/-- The table of a base tag (R180). -/
def tableOfTag (tag : Nat) : Option TableName :=
  if tag = 1 then some .pool
  else if tag = 2 then some .programs
  else if tag = 3 then some .heads
  else if 11 ≤ tag ∧ tag ≤ 27 then some (.plan (tag - 10))
  else none

/-- The number of records of a table (R180). -/
def TableName.size : TableName → Nat
  | .pool => 256
  | .programs => 24
  | .heads => 32
  | .plan _ => 288

/-- The staging copy as a port sees it: only the claim holder does (R180). -/
def State.stagingFor (s : State) (p : Port) : Option EditClaim := s.claim.filter (·.holder == p)

/-- The pool a port reads (R180). -/
def State.poolFor (s : State) (p : Port) : List SwitchPoint := ((s.stagingFor p).map (·.pool)).getD s.cfg.pool

/-- The program table a port reads (R180). -/
def State.programsFor (s : State) (p : Port) : List ProgramEntry :=
  ((s.stagingFor p).map (·.programs)).getD s.cfg.programs

/-- The bytes of a pool record (R8, R171). -/
def SwitchPoint.bytes (x : SwitchPoint) : List Byte :=
  byteOf x.days.toNat ++ byteOf x.weeks.code ++ byteOf x.slot ++ byteOf x.level.code

/-- The bytes of a program table entry (R9). -/
def ProgramEntry.bytes (x : ProgramEntry) : List Byte := byteOf x.start ++ byteOf x.length

/-- The bytes of a head table record (R105). -/
def State.headBytes (s : State) (v : Nat) : List Byte :=
  let h := s.head v
  byteOf v ++ byteOf (s.valveCfg v).role.code ++ byteOf h.state.code ++ byteOf h.position ++ flagOf h.calibrated
    ++ byteOf (s.committed v) ++ optOf wordOf h.temperature

/-- Record `i` of a table as port `p` reads it, preceded by its index (R180, R181). -/
def State.recordBytes (s : State) (p : Port) (t : TableName) (i : Nat) : List Byte :=
  match t with
  | .pool => byteOf i ++ ((s.poolFor p).getD i .initial).bytes
  | .programs => byteOf i ++ ((s.programsFor p).getD i .initial).bytes
  | .heads => byteOf i ++ s.headBytes (i + 1)
  | .plan c => wordOf (i : Int) ++ wordOf (i : Int) ++ byteOf (s.planLevel c i).code

/-- Replace a port's cursor. -/
def State.setCursor (s : State) (p : Port) (c : Option Cursor) : State :=
  s.setPort p { s.port p with cursor := c }

/-- A part of a table from record `first`: up to 16 records, with END at the last one, the cursor moved (R181). -/
def readPart (p : Port) (tag : Nat) (t : TableName) (first : Nat) (s : State) : State × ReplyBody :=
  let last := min (first + 16) t.size
  let data := (List.range (last - first)).flatMap fun i => s.recordBytes p t (first + i)
  if last = t.size then (s.setCursor p none, .done { ended := true } data)
  else (s.setCursor p (some ⟨tag, last⟩), .done {} data)

/-- The work of TABLE-READ (R181). -/
def tableReadWork (p : Port) (tag : Nat) (s : State) : State × ReplyBody :=
  match tableOfTag tag with
  | some t => readPart p tag t 0 s
  | none =>
    match tableOfTag (tag - 64) with
    | none => refuse s .range
    | some t =>
      match (s.port p).cursor with
      | none => refuse s .state
      | some c => if c.tag = tag - 64 then readPart p c.tag t c.next s else refuse s .state

/-! ## The edit claim -/

/-- The lapse timer's length (R183). -/
def lapseSeconds : Nat := 120

/-- The lapse timer set back by a complete request of the holder (R184). -/
def State.refreshLapse (s : State) (p : Port) : State :=
  s.setClaim (s.claim.map fun c => if c.holder = p then { c with lapse := lapseSeconds } else c)

/-- The work of EDIT-CLAIM (R183). -/
def editClaimWork (p : Port) (s : State) : State × ReplyBody :=
  match s.claim with
  | none => done (s.setClaim (some ⟨p, lapseSeconds, s.cfg.pool, s.cfg.programs⟩))
  | some c =>
    if c.holder = p then done (s.setClaim (some { c with lapse := lapseSeconds })) else refuse s .claimed

/-- A successful commit: staging becomes live, the claim is free, every plan is compiled, every preheat abandoned
(R186). -/
def State.commit (s : State) (c : EditClaim) : State :=
  (((s.setCfg { s.cfg with pool := c.pool, programs := c.programs }).setClaim none).compileAll).abandonAll

/-- The work of EDIT-COMMIT (R186). -/
def editCommitWork (p : Port) (s : State) : State × ReplyBody :=
  match s.stagingFor p with
  | none => refuse s .noClaim
  | some c =>
    match invalidProgram c.pool c.programs with
    | some n => (s, .invalid n)
    | none => done (s.commit c)

/-- The work of EDIT-DROP (R187). -/
def editDropWork (p : Port) (s : State) : State × ReplyBody :=
  match s.stagingFor p with
  | none => refuse s .noClaim
  | some _ => done (s.setClaim none)

/-- A record of the table with this tag: a record of another table has not the form of the kind (R185, R168 step 3). -/
def recordOfTag (tag : Nat) : TableRecord → Bool
  | .point _ _ _ _ => tag == 1
  | .entry _ _ => tag == 2

/-- A switch point from the fields of a record, in their ranges (R185). -/
def pointIn : TableRecord → Option SwitchPoint
  | .point days weeks slot level =>
    if days < 128 ∧ slot ≤ 143 then
      (WeekSet.ofCode weeks).bind fun w => (Level.ofCode level).map fun l => ⟨BitVec.ofNat 7 days, w, slot, l⟩
    else none
  | .entry _ _ => none

/-- A program table entry from the fields of a record, in their ranges (R185). -/
def programIn : TableRecord → Option ProgramEntry
  | .entry start length => if start ≤ 255 ∧ length ≤ 32 then some ⟨start, length⟩ else none
  | .point _ _ _ _ => none

/-- Every record in range, or none. -/
def allIn {α : Type} (f : TableRecord → Option α) : List TableRecord → Option (List α)
  | [] => some []
  | r :: rest => (f r).bind fun x => (allIn f rest).map (x :: ·)

/-- A list with the records from `first` on replaced (R185). -/
def replaceFrom {α : Type} (l : List α) (first : Nat) (xs : List α) : List α :=
  l.take first ++ xs ++ l.drop (first + xs.length)

/-- The record span of a TABLE-WRITE is one of 1 to 16 records inside the table (R185 check 3). -/
def spanInRange (size first count : Nat) : Bool := 1 ≤ count && count ≤ 16 && first + count ≤ size

/-- The work of TABLE-WRITE (R185). Runs that overlap or leave the pool may stand in staging, as R185 says against the first
sentence of R10; the commit refuses them (R186, log 44). -/
def tableWriteWork (p : Port) (tag first : Nat) (records : List TableRecord) (s : State) : State × ReplyBody :=
  if tag ≠ 1 ∧ tag ≠ 2 then refuse s .range
  else
    match s.stagingFor p with
    | none => refuse s .noClaim
    | some c =>
      if tag = 1 then
        if ¬ spanInRange 256 first records.length then refuse s .range
        else
          match allIn pointIn records with
          | none => refuse s .range
          | some xs => done (s.setClaim (some { c with pool := replaceFrom c.pool first xs }))
      else
        if ¬ spanInRange 24 first records.length then refuse s .range
        else
          match allIn programIn records with
          | none => refuse s .range
          | some xs => done (s.setClaim (some { c with programs := replaceFrom c.programs first xs }))

/-! ## The settings store -/

/-- The work of STORE-SAVE: the stored set is copied as it stands, the write begins (R189). -/
def storeSaveWork (s : State) : State × ReplyBody := done (s.setStore { s.store with writing := some s.cfg })

/-- The work of STORE-ERASE: the image is INVALID (R190). -/
def storeEraseWork (s : State) : State × ReplyBody := done (s.setStore { s.store with imageValid := false })

/-- The bytes of the identity sector (R191). -/
def identityBytes : List Byte :=
  bytesLow 2 Config.vendorCode.toNat ++ bytesLow 2 Config.partCode.toNat ++ bytesLow 1 Config.revision.toNat
    ++ bytesLow 4 Config.serialNumber.toNat

/-- The work of IDENT (R191). -/
def identWork (s : State) : State × ReplyBody :=
  doneWith s (identityBytes ++ flagOf s.store.imageValid ++ flagOf s.storeWriting)

/-- The work of RESTART: the WARM reset is pending (R175). -/
def restartWork (s : State) : State × ReplyBody := done { s with restartPending := true }

end Sys2Proof.Machine
end

