-- ==== Sys2Proof/Machine/ReadBack.lean ====
section
/-! DEFINITION. The read requests: CLOCK-GET (R6), CHANNEL-GET (R173, R34, R42, R64, R67, R81), VALVE-GET (R105, R126),
BOILER-GET (R150, R81, R126), ATTN-GET (R178). The order of the data is the order in which the owning rules list it
(R170; logs 8 and 46). -/

namespace Sys2Proof.Machine

/-- A count as an unsigned 16-bit value. -/
def natWord (n : Nat) : List Byte := bytesLow 2 n

/-- An elapsed-minute value, 32 bits (R171). -/
def elapsedOf (e : Elapsed) : List Byte := longOf e.toNat

/-! ## CLOCK-GET -/

/-- The data of CLOCK-GET (R6). -/
def State.clockBytes (s : State) : List Byte :=
  natWord s.clock.minuteOfWeek ++ byteOf s.clock.wallSeconds ++ byteOf s.clock.parity.code
    ++ flagOf s.clock.clockSet ++ elapsedOf s.clock.elapsed

/-- The work of CLOCK-GET (R6). -/
def clockGetWork (s : State) : State × ReplyBody := doneWith s s.clockBytes

/-! ## CHANNEL-GET -/

/-- A sensor source: 0 for PORT, n for HEAD n (R171). -/
def sourceCode (x : Option Nat) : Nat := x.getD 0

/-- The configured fields of a zone, in the order of the field codes (R171, R173). -/
def zoneConfigBytes (c : ChannelCfg) (z : ZoneCfg) : List Byte :=
  byteOf c.program ++ byteOf c.defaultLevel.code
    ++ flagOf z.preheatEnable ++ byteOf z.rate ++ byteOf z.preheatLimit
    ++ wordOf c.frost ++ wordOf c.setback ++ wordOf c.eco ++ wordOf c.comfort ++ wordOf c.limit
    ++ flagOf z.detectEnable ++ byteOf z.dropThreshold ++ byteOf z.windowTime
    ++ byteOf (sourceCode z.source) ++ byteOf z.staleLimit ++ byteOf z.period ++ byteOf z.band ++ byteOf z.integralTime
    ++ natWord z.fallback ++ natWord z.requestAt ++ natWord z.releaseAt ++ byteOf c.priority

/-- The configured fields of W but for the differential and the priority, which R67 lists (R173). -/
def wConfigBytes (c : ChannelCfg) : List Byte :=
  byteOf c.program ++ byteOf c.defaultLevel.code
    ++ wordOf c.frost ++ wordOf c.setback ++ wordOf c.eco ++ wordOf c.comfort ++ wordOf c.limit

/-- A list of layers, bottom first, preceded by its count. -/
def layersBytes (ls : List Layer) : List Byte := byteOf ls.length ++ ls.flatMap Layer.bytes

/-- A park slot's saved context, the fields of R40's table in its order (R40, R42; log 8). -/
def Park.bytes (p : Park) : List Byte :=
  byteOf p.zone ++ layersBytes p.layers ++ natWord p.integrator ++ byteOf p.rate ++ byteOf p.priority

/-- The setpoint unit's items of a channel (R34, R42). -/
def State.setpointBytes (s : State) (c : Nat) : List Byte :=
  let slot := s.parkSlot c
  byteOf (s.baseLevel c).code ++ wordOf (s.baseTemp c) ++ wordOf (s.effectiveSetpoint c)
    ++ flagOf slot.isSome ++ optOf byteOf slot ++ optOf Park.bytes (slot.bind fun n => item s.cfg.parks n none)
    ++ layersBytes (s.channel c).stack

/-- The regulator's items of a zone (R64). -/
def State.regulatorBytes (s : State) (k : Nat) : List Byte :=
  let z := s.zone k
  optOf (fun r => wordOf r.value) z.reading
    ++ optOf (fun r => longOf (minutesSince s.clock.elapsed r.stamp)) z.reading
    ++ flagOf (s.freshReading k).isSome ++ flagOf z.sensorless ++ natWord z.integrator ++ natWord z.demand
    ++ flagOf z.demandCall ++ flagOf z.frostCall
    ++ flagOf (s.consumer k).requesting ++ byteOf (s.consumer k).level

/-- Channel W's items (R67). -/
def State.cylinderBytes (s : State) : List Byte :=
  optOf wordOf s.field.cylinder.value ++ flagOf s.field.cylinder.valid ++ byteOf s.cfg.differential
    ++ byteOf (s.channelCfg channelW).priority
    ++ flagOf (s.consumer channelW).requesting ++ byteOf (s.consumer channelW).level

/-- The deferred and heat-available flags of a channel (R81). -/
def State.tableFlagBytes (s : State) (c : Nat) : List Byte :=
  flagOf (s.consumer c).deferred ++ flagOf (s.consumer c).heatAvailable

/-- The data of CHANNEL-GET (R173). The learned rate of R21 is the configured rate. -/
def State.channelBytes (s : State) (c : Nat) : List Byte :=
  if c = channelW then
    wConfigBytes (s.channelCfg c) ++ s.setpointBytes c ++ s.cylinderBytes ++ s.tableFlagBytes c
  else
    zoneConfigBytes (s.channelCfg c) (s.zoneCfg c) ++ s.setpointBytes c ++ s.regulatorBytes c ++ s.tableFlagBytes c

/-- The work of CHANNEL-GET (R173). -/
def channelGetWork (c : Nat) (s : State) : State × ReplyBody :=
  if isChannel c then doneWith s (s.channelBytes c) else refuse s .range

/-! ## VALVE-GET -/

/-- A slot's configuration, the rows of the R82 table. -/
def ValveCfg.bytes (x : ValveCfg) : List Byte :=
  let (zone, dump) : Option Nat × Option Bool := match x.role with
    | .zone k d => (some k, some d)
    | _ => (none, none)
  byteOf x.role.code ++ optOf byteOf zone ++ optOf flagOf dump ++ byteOf x.weight ++ byteOf x.liftMin
    ++ byteOf x.liftMax ++ byteOf x.deadband ++ natWord x.stroke

/-- A slot's run-time record (R105). -/
def Head.bytes (h : Head) : List Byte :=
  byteOf h.state.code ++ byteOf h.position ++ flagOf h.calibrated ++ optOf wordOf h.temperature
    ++ optOf (fun m => byteOf m.start) h.move ++ optOf (fun m => byteOf m.target) h.move
    ++ optOf natWord (h.move.bind (·.timer)) ++ byteOf h.misses ++ elapsedOf h.lastMoved ++ byteOf h.retries
    ++ optOf elapsedOf h.retryDue

/-- A pending command and its target, which a DRIVE carries (R86, R105). -/
def LinkRequest.bytes : LinkRequest → List Byte
  | .drive p => byteOf (LinkRequest.drive p).code ++ byteOf p
  | r => byteOf r.code

/-- Whether a drive or homing opens, closes or is neutral: 0, 1, 2 (R120, R126). -/
def State.directionCode (s : State) (e : Entry) : Nat := if s.isOpening e then 0 else if s.isClosing e then 1 else 2

/-- A slot's queue entry (R126). -/
def State.entryBytes (s : State) (e : Entry) : List Byte :=
  byteOf e.op.code ++ byteOf e.target ++ byteOf e.cls.code ++ longOf e.arrival ++ flagOf e.deferred
    ++ byteOf (s.directionCode e) ++ byteOf (s.trialCapacity e) ++ flagOf (s.gatedClosing e)

/-- The data of VALVE-GET (R105, R126). -/
def State.valveBytes (s : State) (v : Nat) : List Byte :=
  (s.valveCfg v).bytes ++ (s.head v).bytes ++ byteOf (s.committed v)
    ++ optOf (fun c => c.request.bytes) (s.link.commands.find? (·.slot == v))
    ++ flagOf (!s.link.fault) ++ flagOf s.field.supplyOk
    ++ optOf (fun w => byteOf w.target ++ byteOf w.cls.code) (s.wantedOf v)
    ++ optOf s.entryBytes (s.entryOf v)

/-- The work of VALVE-GET (R105). -/
def valveGetWork (v : Nat) (s : State) : State × ReplyBody :=
  if isSlot v then doneWith s (s.valveBytes v) else refuse s .range

/-! ## BOILER-GET -/

/-- The timer that runs: lead, overrun or pump (R150). -/
def Boiler.timer (b : Boiler) : Option Nat := b.leadTimer.or (b.overrunTimer.or b.pumpTimer)

/-- The minutes left of a wait of `length` minutes from a mark, 0 when elapsed (R150). -/
def minutesLeft (now mark : Elapsed) (length : Nat) : Nat := length - minutesSince now mark

/-- The parts of the flow setpoint (R150). -/
def FlowParts.bytes (p : FlowParts) : List Byte :=
  wordOf p.outdoor ++ flagOf p.outdoorValid ++ wordOf p.curve ++ optOf wordOf p.shift ++ optOf wordOf p.zoneFlow
    ++ optOf wordOf p.cylinderFlow

/-- Every setting of R145: the rows of its table, then sink minimum, motor allowance, exercise slot and ramp step interval,
the order of their field codes (R171, log 39). -/
def BoilerCfg.bytes (b : BoilerCfg) : List Byte :=
  byteOf b.leadTime ++ byteOf b.minOn ++ natWord b.overrunTime ++ byteOf b.minOff ++ byteOf b.highLimitDelta
    ++ wordOf b.designOutdoor ++ wordOf b.designFlow ++ wordOf b.neutralOutdoor ++ wordOf b.baseFlow ++ byteOf b.shift
    ++ byteOf b.flowDelta ++ wordOf b.flowMin ++ wordOf b.flowMax ++ byteOf b.sinkMinimum ++ byteOf b.motorAllowance
    ++ byteOf b.exerciseSlot ++ byteOf b.rampStep

/-- A field that the controller's record holds in LEAD only (R128): absent in the other states (R170). -/
def Boiler.inLead (b : Boiler) (x : Bool) : Option Bool := if b.state = .lead then some x else none

/-- The controller's record (R150). The pump reasons go as a flag each in the order of R144's table, the blockers as a
flag each in the order of R129 (log 40). The heat dump stands here and among the arbiter's figures (log 46). -/
def State.boilerRecordBytes (s : State) : List Byte :=
  let b := s.boiler
  let now := s.clock.elapsed
  byteOf b.state.code ++ optOf natWord b.timer ++ optOf flagOf (b.inLead b.leadExtended)
    ++ optOf flagOf (b.inLead b.leadHeld) ++ flagOf b.minOnHold ++ elapsedOf b.fireMark ++ elapsedOf b.restMark
    ++ byteOf (minutesLeft now b.fireMark s.cfg.boiler.minOn) ++ byteOf (minutesLeft now b.restMark s.cfg.boiler.minOff)
    ++ flagOf b.heatDump ++ wordOf b.flowSetpoint ++ b.parts.bytes ++ natWord b.modulationTarget
    ++ natWord s.field.output ++ flagOf s.field.burner ++ flagOf s.field.pump ++ s.pumpReasons.flatMap flagOf
    ++ flagOf s.faultInput ++ flagOf s.inhibitInput ++ flagOf (!s.field.flow.valid) ++ s.cfg.boiler.bytes

/-- The capacity and the consumer table (R81). The sink minimum stands here and among the settings (log 39). -/
def State.capacityBytes (s : State) : List Byte :=
  byteOf s.capacity ++ longOf s.rawSum ++ byteOf s.sinkMinimum
    ++ channelNumbers.flatMap (fun c => flagOf (s.consumer c).requesting ++ byteOf (s.consumer c).level)
    ++ byteOf s.table.servedLevel
    ++ channelSetOf (channelNumbers.filter fun c => (s.consumer c).deferred)
    ++ channelSetOf (channelNumbers.filter fun c => (s.consumer c).heatAvailable)

/-- The arbiter's figures (R126). The committed capacity, which R126 lists with R81, goes with the items of R81 alone;
the heat dump, which R150 lists too, goes here as well (log 46), and so do allowance and exercise slot, which are settings
of R145 (log 39). -/
def State.arbiterBytes (s : State) : List Byte :=
  byteOf s.cfg.boiler.motorAllowance ++ byteOf s.unitsInUse ++ byteOf s.arbiter.queue.length
    ++ flagOf s.arbiter.sinkOpen ++ flagOf s.boiler.heatDump ++ byteOf s.cfg.boiler.exerciseSlot

/-- The work of BOILER-GET (R150). -/
def boilerGetWork (s : State) : State × ReplyBody :=
  doneWith s (s.boilerRecordBytes ++ s.capacityBytes ++ s.arbiterBytes)

/-! ## ATTN-GET -/

/-- The bytes of category number `c` of an attention set: its number, notifying flag, objects and, for STORE, marks
(R178). -/
def attentionBytes (c : Nat) : Option Attention → List Byte
  | none => []
  | some a =>
    byteOf c ++ flagOf a.notifying ++ objectsBytes (objectKind c) a.objects
      ++ if c = Category.store.number then [a.marks] else []

/-- A port with its attention set emptied, and a notice that waits withdrawn (R178). -/
def PortState.clearAttention (ps : PortState) : PortState :=
  { ps with attn := List.replicate 16 none, tx := { ps.tx with queue := ps.tx.queue.filter (!·.isNotice) } }

/-- The work of ATTN-GET (R178). -/
def attnGetWork (p : Port) (s : State) : State × ReplyBody :=
  let attn := (s.port p).attn
  doneWith (s.setPort p (s.port p).clearAttention)
    ((List.range 16).flatMap fun c => attentionBytes c (attn.getD c none))

end Sys2Proof.Machine
end

