-- ==== Sys2Proof/Machine/ValveLink.lean ====
section
/-! DEFINITION. The valve link controller: a good reply (R89, R91, R93), a miss (R90), the ends of a move (R94, R95),
stall retries (R96), the link fault (R98) and the actuator supply (R101, R102). -/

namespace Sys2Proof.Machine

/-! ## Replies -/

/-- A status reply from a head (R86). -/
structure StatusReply where
  address : Nat
  position : Nat
  running : Bool
  stall : Bool
  calibrated : Bool
  temperature : Option Temp
  deriving DecidableEq, Repr

/-- The four kinds of a reply (05, section 5.4). -/
inductive ReplyKind where
  | stall
  | running
  | atRest
  | uncalibrated
  deriving DecidableEq, Repr

/-- The kind of a reply, the kinds taken in order (05, section 5.4). -/
def StatusReply.kind (r : StatusReply) : ReplyKind :=
  if r.stall then .stall else if r.running then .running else if r.calibrated then .atRest else .uncalibrated

/-- A head with the fields of a good reply written into its record (R89). -/
def Head.fields (h : Head) (r : StatusReply) : Head :=
  { h with position := r.position, calibrated := r.calibrated, temperature := r.temperature, misses := 0 }

/-- STALL attention for slot `v`, and retry due 60 minutes on while the retry count is below 3 (R94). -/
def State.enterStalled (s : State) (v : Nat) : State :=
  let h := s.head v
  let due := if h.retries < 3 then some (s.clock.elapsed + 60) else none
  (s.setHead v { h with state := .stalled, move := none, retryDue := due }).raise .stall (object v)

/-- Slot `v`'s head takes a state at which its move, if any, ends: timer and in-flight fields become absent (R94). -/
def State.endMove (s : State) (v : Nat) (st : HeadState) : State :=
  s.setHead v { s.head v with state := st, move := none }

/-- The head becomes READY, and its wanted target is offered (R111). -/
def State.becomeReady (s : State) (v : Nat) : State := (s.endMove v .ready).offer v

/-- A move completes: READY, last-moved now; a homing clears the stall retry count (R89, R93). -/
def State.completeMove (s : State) (v : Nat) : State :=
  let h := s.head v
  (s.setHead v { h with
      lastMoved := s.clock.elapsed
      retries := if h.state = .homing then 0 else h.retries }).becomeReady v

/-- A reply to a head that is UNKNOWN (R89, first row). -/
def State.unknownReply (s : State) (v : Nat) : ReplyKind → State
  | .stall => s.enterStalled v
  | .running => s.addCommand v .stop
  | .atRest => s.becomeReady v
  | .uncalibrated => s.requestHoming v

/-- A reply to a head that is READY (R89, second row). -/
def State.readyReply (s : State) (v : Nat) : ReplyKind → State
  | .stall => s.enterStalled v
  | .running => (s.endMove v .unknown).addCommand v .stop
  | .atRest => s
  | .uncalibrated => (s.endMove v .unknown).requestHoming v

/-- A reply to a MOVING or HOMING head whose command has been accepted (R89, third and fourth rows). -/
def State.movingReply (s : State) (v : Nat) : ReplyKind → State
  | .stall => s.enterStalled v
  | .running => s
  | .atRest => s.completeMove v
  | .uncalibrated =>
    if (s.head v).state = .homing then s.enterStalled v else (s.endMove v .unknown).requestHoming v

/-- The seconds of a move timer (R95). -/
def Move.seconds (m : Move) (op : HeadState) : Nat :=
  if op = .homing then ceilDiv (m.stroke * 3) 2 + 10
  else ceilDiv (m.stroke * (max m.target m.start - min m.target m.start) * 3) 200 + 10

/-- The head accepts its command: the move timer starts (R93, R95). -/
def Head.accept (h : Head) : Head :=
  { h with move := h.move.map fun m => { m with accepted := true, timer := some (m.seconds h.state) } }

/-- A reply to a MOVING or HOMING head's own command, not accepted before (R93). -/
def State.ownReply (s : State) (v : Nat) : ReplyKind → State
  | .running => s.setHead v (s.head v).accept
  | .stall => s.movingReply v .stall
  | .atRest => s.movingReply v .atRest
  | .uncalibrated => s.movingReply v .uncalibrated

/-- A reply to a head that is STALLED (R89, last row). -/
def State.stalledReply (s : State) (v : Nat) : ReplyKind → State
  | .running => s.addCommand v .stop
  | .stall | .atRest | .uncalibrated => s

/-- What a good reply does to a head by its state (R89, R91, R93). `own` says that the reply is to the command the
grant issued. -/
def State.replyByState (s : State) (v : Nat) (own : Bool) (kind : ReplyKind) : State :=
  let h := s.head v
  if ¬ s.used v ∧ ¬ h.running then s
  else
    match h.state with
    | .unknown => s.unknownReply v kind
    | .absent => (s.endMove v .unknown).unknownReply v kind
    | .ready => s.readyReply v kind
    | .stalled => s.stalledReply v kind
    | .moving | .homing =>
      if h.move.any (·.accepted) then s.movingReply v kind
      else if own then s.ownReply v kind
      else s

/-- The request of a grant: a DRIVE or a HOME (R92). -/
def LinkRequest.isGranted : LinkRequest → Bool
  | .drive _ | .home => true
  | .poll | .stop => false

/-- The transaction in flight ends: a POLL moves the cursor to its slot (R88, log 12). -/
def Link.ended (l : Link) (t : Transaction) : Link :=
  { l with transaction := none, cursor := if t.request = .poll then t.slot else l.cursor }

/-- The commands after a good reply: the one that was sent leaves, one that replaced it stays (R87). -/
def Link.answered (l : Link) (t : Transaction) : Link :=
  { l.ended t with commands := l.commands.filter fun c => !(c.slot == t.slot && c.sent) }

/-- The commands after a miss: the one that was sent stays at its place (R87). -/
def Link.unanswered (l : Link) (t : Transaction) : Link :=
  { l.ended t with commands := l.commands.map fun c => { c with sent := false } }

/-- A good reply from the head of the transaction `t` in flight (R89). The command it answers leaves the list before the
reply acts, so a STOP that the reply to a STOP brings joins at the list's end (R87, R89; log 36). -/
def State.goodReply (s : State) (t : Transaction) (r : StatusReply) : State :=
  let own := (s.ownCommand t.slot).any (·.request.isGranted)
  let s := s.setLink (s.link.answered t)
  let s := s.setHead t.slot ((s.head t.slot).fields r)
  let s := match r.temperature with
    | some x => s.takeHeadReading t.slot x
    | none => s
  s.replyByState t.slot own r.kind

/-- A reply is good: it carries the address of the transaction in flight, and its position lies in 0 to 100 (R85).
Its frame check has passed. -/
def State.goodTransaction (s : State) (r : StatusReply) : Option Transaction :=
  match s.link.transaction with
  | some t => if t.slot = r.address ∧ r.position ≤ 100 then some t else none
  | none => none

/-! ## Misses (R90) -/

/-- The record of a head that becomes ABSENT (R90). -/
def Head.gone (h : Head) : Head :=
  { h with state := .absent, move := none, misses := 0, retries := 0, retryDue := none }

/-- A head becomes ABSENT: its commands and its entry go, ABSENT is raised (R90). -/
def State.becomeAbsent (s : State) (v : Nat) : State :=
  (((s.setHead v (s.head v).gone).dropCommands v).removeEntry v).raise .absent (object v)

/-- The transaction in flight ends in a miss (R90). -/
def State.missed (s : State) (t : Transaction) : State :=
  let s := s.setLink (s.link.unanswered t)
  let h := s.head t.slot
  if h.state = .absent then s
  else if h.misses + 1 < 3 then s.setHead t.slot { h with misses := h.misses + 1 }
  else s.becomeAbsent t.slot

/-! ## Other ends of a move (R94) -/

/-- The move timer of slot `v` has expired with the head MOVING or HOMING (R95). -/
def State.moveTimedOut (s : State) (v : Nat) : Bool :=
  (s.head v).running && (s.head v).move.any fun m => m.accepted && timerExpired m.timer

/-- A move ends by timeout: STALLED, and a STOP is added (R95). -/
def State.timeOut (s : State) (v : Nat) : State := (s.enterStalled v).addCommand v .stop

/-- The moves of these slots end, their heads UNKNOWN (R98, R102). -/
def State.endMoves (s : State) (vs : List Nat) : State := vs.foldl (fun s v => s.endMove v .unknown) s

/-- The link enters FAULT (R98). -/
def State.enterLinkFault (s : State) : State :=
  let vs := s.runningSlots
  let s := s.setLink { s.link with fault := true, transaction := none, commands := [] }
  (s.endMoves vs).raise .link (objectsOf vs)

/-- A stall retry of slot `v` is due at this elapsed minute (R96). -/
def State.retryDueNow (s : State) (v : Nat) : Bool :=
  (s.head v).state == .stalled && (s.head v).retryDue == some s.clock.elapsed

/-- A stall retry: the count rises, retry due becomes absent, a homing is requested (R96). -/
def State.stallRetry (s : State) (v : Nat) : State :=
  let h := s.head v
  (s.setHead v { h with retries := h.retries + 1, retryDue := none }).requestHoming v

/-! ## Actuator supply (R101, R102) -/

/-- The supply enters LOW from OK: every MOVING or HOMING head is stopped (R102). The order in which their STOPs join the
command list is slot order (log 42). -/
def State.supplyStop (s : State) : State :=
  let vs := s.runningSlots
  let s := s.setField { s.field with supplyOk := false, supplyQual := 0 }
  let s := vs.foldl (fun s v => (s.endMove v .unknown).addCommand v .stop) s
  s.raise .supply (objectsOf vs)

/-- A LOW supply after a measurement: the qualification time grows above 20.5 V, to OK at 10 s, and returns to 0
otherwise (R101). -/
def FieldIO.qualify (f : FieldIO) (tenthsOfVolt : Nat) : FieldIO :=
  if 205 < tenthsOfVolt then { f with supplyQual := f.supplyQual + 1, supplyOk := decide (100 ≤ f.supplyQual + 1) }
  else { f with supplyQual := 0 }

/-- One measurement of the actuator supply (R101). -/
def State.measureSupply (s : State) (tenthsOfVolt : Nat) : State :=
  let first := s.field.supplyLast.isNone
  let s := s.setField { s.field with supplyLast := some tenthsOfVolt }
  if first then
    if 190 ≤ tenthsOfVolt then s.setField { s.field with supplyOk := true }
    else (s.setField { s.field with supplyOk := false, supplyQual := 0 }).raise .supply 0
  else if s.field.supplyOk then if tenthsOfVolt < 190 then s.supplyStop else s
  else s.setField (s.field.qualify tenthsOfVolt)

/-- This measurement completes the qualification of a LOW supply (R101). -/
def State.qualifies (s : State) (tenthsOfVolt : Nat) : Bool :=
  s.field.supplyLast.isSome && !s.field.supplyOk && (s.field.qualify tenthsOfVolt).supplyOk

/-! ## The events -/

/-- GOOD_REPLY: a reply that is not good has no effect (R85). -/
def goodReplyEvent (r : StatusReply) (s : State) : State :=
  match s.goodTransaction r with
  | none => s
  | some t => s.plantEvent (·.goodReply t r)

/-- MISS: the window of the transaction in flight expires (R90). -/
def missEvent (s : State) : State :=
  match s.link.transaction with
  | none => s
  | some t => s.plantEvent (·.missed t)

/-- MOVE_TIMEOUT of slot `v` (R95). -/
def moveTimeoutEvent (v : Nat) (s : State) : State :=
  if s.moveTimedOut v then s.plantEvent (·.timeOut v) else s

/-- LINK_FAULT: an overcurrent while the link is OK; in FAULT a further one changes nothing (R98, R99). While a WARM
reset acts it is ignored and the STOPs go on (R104; log 38). -/
def linkFaultEvent (s : State) : State := if s.link.fault then s else s.plantEvent State.enterLinkFault

/-- STALL_RETRY of slot `v` (R96). -/
def stallRetryEvent (v : Nat) (s : State) : State :=
  if s.retryDueNow v then s.plantEvent (·.stallRetry v) else s

/-- SUPPLY_MEASUREMENT (R101). -/
def supplyMeasurementEvent (tenthsOfVolt : Nat) (s : State) : State :=
  s.plantEvent (·.measureSupply tenthsOfVolt)

/-- SUPPLY_QUALIFIED: the measurement at which the qualification time reaches 10 s (R101, log 14). -/
def supplyQualifiedEvent (tenthsOfVolt : Nat) (s : State) : State :=
  if s.qualifies tenthsOfVolt then s.plantEvent (·.measureSupply tenthsOfVolt) else s

end Sys2Proof.Machine
end

