-- ==== Sys2Proof/Machine/Reset.lean ====
section
/-! DEFINITION. The COLD and the WARM reset (R104, R192, and the reset rules the table of 11.5 gathers): the load of
the settings image, the start of the blocks, the STOP transactions of an acting WARM reset. -/

namespace Sys2Proof.Machine

/-! ## The image at a reset (R192) -/

/-- A check value that fails, from a free number: every number but the right one comes of some number (R189, log 43). -/
def failingCheck (right free : Nat) : Nat := if free < right then free else free + 1

/-- A write cut short: the image is left part written, its check value fails, and it counts as INVALID (R189). What of
the snapshot had been written is a free value (log 43). -/
def Store.cut (x : Store) : Store :=
  let image := Config.partWritten x.cuts
  { image, check := failingCheck (Config.checkValue image) (Config.partCheck x.cuts), imageValid := false
    writing := none, cuts := x.cuts + 1 }

/-- The store after a reset: a write in progress is cut short (R189). -/
def Store.afterReset (x : Store) : Store := if x.writing.isSome then x.cut else x

/-- The stored set a reset loads: the image when VALID, else the defaults (R192). -/
def Store.loaded (x : Store) : Stored := if x.imageValid then x.image else .defaults

/-- The clock a WARM reset keeps, with the elapsed minutes counted from 0 again (R2, R7). -/
def Clock.kept (c : Clock) : Clock :=
  { c with elapsed := 0, tickCount := 0, wallDue := false, elapsedDue := false }

/-- A port as a reset leaves it, before the raises of the start (R179). -/
def PortState.fresh : PortState :=
  { rx := .idle, tx := { sending := none, queue := [] }, attn := List.replicate 16 none, cursor := none }

/-- Every block as a reset leaves it, with the stored set loaded (11.5). The commands that wait stay. -/
def State.loadedFrom (s : State) (cold : Bool) : State :=
  let store := s.store.afterReset
  { State.reset with
    clock := if cold then State.reset.clock else s.clock.kept
    cfg := store.loaded
    store
    main := .fresh
    service := .fresh
    pending := s.pending }

/-- The raises of a reset: RESTART, after a COLD reset CLOCK, with the defaults loaded STORE with DEFAULTS (R179,
R192). -/
def State.resetRaises (s : State) (cold : Bool) : State :=
  let s := s.raise .restart 0
  let s := if cold then s.raise .clock 0 else s
  if s.store.imageValid then s else s.raiseStore storeDefaults

/-- The blocks start: plans compiled (R14), wanted targets formed (R106), flow setpoint computed (R149); then the
boiler judges min-off (R139) and the link's first transaction begins (R88). -/
def State.startBlocks (s : State) : State :=
  let s := (s.compileAll.formAll slotNumbers).withFlow
  (s.settleWith s.committed .judge).endEvent

/-- A reset of every block (R192). -/
def State.bootFrom (s : State) (cold : Bool) : State := ((s.loadedFrom cold).resetRaises cold).startBlocks

/-- COLD_RESET: whatever the part was doing (R104, R192). -/
def coldResetEvent (s : State) : State := s.bootFrom true

/-! ## The acting WARM reset (R104) -/

/-- The slots that are sent a STOP, in slot order: none with the link in FAULT (R104). -/
def State.stopSlots (s : State) : List Nat := if s.link.fault then [] else s.runningSlots

/-- The next STOP of an acting WARM reset begins; with none left no transaction is in flight (R104). -/
def State.nextStop (s : State) (slots : List Nat) : State :=
  match slots with
  | [] => { s.setLink { s.link with transaction := none } with acting := some [] }
  | v :: rest => { s.setLink { s.link with transaction := some ⟨v, .stop⟩ } with acting := some rest }

/-- A port while a WARM reset acts: frames not sent are discarded, one being sent is cut off, bytes that arrive are
discarded (R104, R175). -/
def PortState.silenced (ps : PortState) : PortState :=
  { ps with rx := .idle, tx := { sending := none, queue := [] } }

/-- The wall clock as the acting begins: a wall minute that was due has passed and compiles nothing (R104, log 3). -/
def Clock.caughtUp (c : Clock) : Clock := if c.wallDue then c.wallMinute else c

/-- The WARM reset acts: relays open and output 0 (R130), lists emptied (R175), a store write stopped (R189), the
transaction in flight abandoned (R85), the first STOP sent (R104). The boiler's record leaves its state (log 16). -/
def State.warmStart (s : State) : State :=
  let stops := s.stopSlots
  let s := s.setClock s.clock.caughtUp
  let s := s.setField { s.field with burner := false, pump := false, output := 0, ramp := none }
  let s := s.setBoiler { s.boiler.cleared with state := .rest }
  let s := s.setStore s.store.afterReset
  let s := (s.setPort .main s.main.silenced).setPort .service s.service.silenced
  let s := s.setLink { s.link with commands := [] }
  s.nextStop stops

/-- WARM_RESET_STOP_END: a STOP of the acting reset ends by its reply or its window's expiry; the next one is sent,
and none is repeated (R104). -/
def warmResetStopEndEvent (s : State) : State :=
  match s.acting with
  | none => s
  | some rest => if s.link.transaction.isSome then s.nextStop rest else s

/-- WARM_RESET_COMPLETE: once the STOP transactions have ended (R104). -/
def warmResetCompleteEvent (s : State) : State :=
  if s.acting = some [] ∧ s.link.transaction = none then s.bootFrom false else s

end Sys2Proof.Machine
end

