-- ==== Sys2Proof/Machine/Requests.lean ====
section
/-! DEFINITION. The request kinds (R165, R173's table): each request's kind byte, whether it changes the stored set,
and its work; the form of each kind's payload (R168 step 3, R171; log 8). -/

namespace Sys2Proof.Machine

/-- A request of a kind the table knows, in the form its kind takes. -/
structure Request where
  kind : Byte
  /-- It changes an item of the stored set (R168 step 4). -/
  stored : Bool
  /-- Every field code it lists is one that its kind knows, every record one of the table it names (R168 step 3). -/
  known : Bool
  /-- The kind's own checks and work (R168 step 5). -/
  work : State → State × ReplyBody

/-- Every field code of a list is one that the kind knows (R168 step 3). -/
def codesKnown {α : Type} (ofCode : Nat → Option α) (fields : List (Nat × Int)) : Bool :=
  fields.all fun f => (ofCode f.1).isSome

/-! ## The requests -/

def clockSetRequest (minute seconds parity : Nat) : Request :=
  ⟨0x01, false, true, clockSetWork minute seconds parity⟩
def clockGetRequest : Request := ⟨0x02, false, true, clockGetWork⟩
def channelSetRequest (c : Nat) (fields : List (Nat × Int)) : Request :=
  ⟨0x10, true, codesKnown ChannelField.ofCode fields, channelSetWork c fields⟩
def channelGetRequest (c : Nat) : Request := ⟨0x11, false, true, channelGetWork c⟩
def roomTempRequest (k : Nat) (t : Temp) : Request := ⟨0x12, false, true, roomTempWork k t⟩
def layerPushRequest (p : Port) (mask : BitVec 24) (kind : Nat) (setpoint : Temp) (duration : Nat) : Request :=
  ⟨0x13, false, true, layerPushWork p mask kind setpoint duration⟩
def layerPopRequest (c : Nat) : Request := ⟨0x14, false, true, layerPopWork c⟩
def layerClearRequest (mask : BitVec 24) : Request := ⟨0x15, false, true, layerClearWork mask⟩
def holdReleaseRequest (c runOut : Nat) : Request := ⟨0x16, false, true, holdReleaseWork c runOut⟩
def zoneParkRequest (k : Nat) : Request := ⟨0x17, true, true, zoneParkWork k⟩
def zoneUnparkRequest (k : Nat) : Request := ⟨0x18, true, true, zoneUnparkWork k⟩
def valveSetRequest (v : Nat) (fields : List (Nat × Int)) : Request :=
  ⟨0x20, true, codesKnown ValveField.ofCode fields, valveSetWork v fields⟩
def valveGetRequest (v : Nat) : Request := ⟨0x21, false, true, valveGetWork v⟩
def valveHomeRequest (v : Nat) : Request := ⟨0x22, false, true, valveHomeWork v⟩
def linkClearRequest : Request := ⟨0x23, false, true, linkClearWork⟩
def boilerSetRequest (fields : List (Nat × Int)) : Request :=
  ⟨0x30, true, codesKnown BoilerField.ofCode fields, boilerSetWork fields⟩
def boilerGetRequest : Request := ⟨0x31, false, true, boilerGetWork⟩
def inputSetRequest (n sensitivity function : Nat) (zone : Option Nat) (setpoint : Option Temp)
    (minutes : Option Nat) : Request :=
  ⟨0x32, true, true, inputSetWork n sensitivity function zone setpoint minutes⟩
def inputGetRequest (n : Option Nat) (clear : Bool) : Request := ⟨0x33, false, true, inputGetWork n clear⟩
def attnGetRequest (p : Port) : Request := ⟨0x40, false, true, attnGetWork p⟩
def attnMaskRequest (p : Port) (items : List MaskItem) : Request := ⟨0x41, true, true, attnMaskWork p items⟩
def editClaimRequest (p : Port) : Request := ⟨0x50, false, true, editClaimWork p⟩
def editCommitRequest (p : Port) : Request := ⟨0x51, true, true, editCommitWork p⟩
def editDropRequest (p : Port) : Request := ⟨0x52, false, true, editDropWork p⟩
def tableReadRequest (p : Port) (tag : Nat) : Request := ⟨0x53, false, true, tableReadWork p tag⟩
def tableWriteRequest (p : Port) (tag first : Nat) (records : List TableRecord) : Request :=
  ⟨0x54, false, records.all (recordOfTag tag), tableWriteWork p tag first records⟩
def storeSaveRequest : Request := ⟨0x60, true, true, storeSaveWork⟩
def storeEraseRequest : Request := ⟨0x61, true, true, storeEraseWork⟩
def restartRequest : Request := ⟨0x62, false, true, restartWork⟩
def identRequest : Request := ⟨0x63, false, true, identWork⟩

/-! ## Payloads -/

/-- A payload of no bytes. -/
def noPayload (r : Request) : List Byte → Option Request
  | [] => some r
  | _ :: _ => none

/-- The rest of a payload that must be empty. -/
def ended {α : Type} : Option (α × List Byte) → Option α
  | some (a, []) => some a
  | _ => none

/-- A payload of one byte. -/
def oneByte (f : Nat → Request) (l : List Byte) : Option Request := (ended (takeByte l)).map f

/-- A payload of a byte and a list of pairs of field code and value. -/
def byteAndPairs (forms : Nat → Option ValueForm) (f : Nat → List (Nat × Int) → Request) (l : List Byte) :
    Option Request :=
  (takeByte l).bind fun (n, r) => (takePairs forms r.length r).map (f n)

/-- A channel mask, a 24-bit word (R165). -/
def takeMask (l : List Byte) : Option (BitVec 24 × List Byte) := (takeLow 3 l).map fun (n, r) => (BitVec.ofNat 24 n, r)

/-- CLOCK-SET: minute of week, seconds, parity (R5). -/
def clockSetForm (l : List Byte) : Option Request :=
  (takeWord l).bind fun (m, l) => (takeByte l).bind fun (sec, l) =>
    (ended (takeByte l)).map fun q => clockSetRequest m sec q

/-- ROOM-TEMP: zone, temperature (R47). -/
def roomTempForm (l : List Byte) : Option Request :=
  (takeByte l).bind fun (k, l) => (ended (takeTemp l)).map fun t => roomTempRequest k t

/-- LAYER-PUSH: mask, kind, setpoint, duration (R25). -/
def layerPushForm (p : Port) (l : List Byte) : Option Request :=
  (takeMask l).bind fun (m, l) => (takeByte l).bind fun (k, l) => (takeTemp l).bind fun (t, l) =>
    (ended (takeWord l)).map fun d => layerPushRequest p m k t d

/-- LAYER-CLEAR: mask (R32). -/
def layerClearForm (l : List Byte) : Option Request := (ended (takeMask l)).map layerClearRequest

/-- HOLD-RELEASE: channel, run-out (R30). -/
def holdReleaseForm (l : List Byte) : Option Request :=
  (takeByte l).bind fun (c, l) => (ended (takeWord l)).map fun n => holdReleaseRequest c n

/-- INPUT-SET: input, sensitivity, function, and zone, setpoint and minutes with their presence bytes (R154). A field
that the function takes and the payload marks absent is no misfit of form: R154's own checks refuse it (log 47). -/
def inputSetForm (l : List Byte) : Option Request :=
  (takeByte l).bind fun (n, l) => (takeByte l).bind fun (sens, l) => (takeByte l).bind fun (f, l) =>
    (takeOpt takeByte l).bind fun (z, l) => (takeOpt takeTemp l).bind fun (t, l) =>
      (ended (takeOpt takeWord l)).map fun m => inputSetRequest n sens f z t m

/-- INPUT-GET: an input number, 0 for ALL, and the clear indication with its presence byte (R159, log 8). -/
def inputGetForm (l : List Byte) : Option Request :=
  (takeByte l).bind fun (n, l) => (ended (takeOpt takeFlag l)).map fun c =>
    inputGetRequest (if n = 0 then none else some n) (c.getD false)

/-- The categories of an ATTN-MASK to the end of the payload: number, whole-category flag, objects in the width of
the category (R177, log 8). `fuel` bounds their number. -/
def takeMaskItems : Nat → List Byte → Option (List MaskItem)
  | _, [] => some []
  | 0, _ :: _ => none
  | fuel + 1, b :: l =>
    (takeFlag l).bind fun (whole, l) => (takeLow (objectKind b.toNat).width l).bind fun (objects, l) =>
      (takeMaskItems fuel l).map (⟨b.toNat, whole, BitVec.ofNat 32 objects⟩ :: ·)

/-- ATTN-MASK: the complete mask (R177). -/
def attnMaskForm (p : Port) (l : List Byte) : Option Request := (takeMaskItems l.length l).map (attnMaskRequest p)

/-- Pool records to the end of the payload (R8). -/
def takePoints : List Byte → Option (List TableRecord)
  | [] => some []
  | d :: w :: s :: l :: rest => (takePoints rest).map (.point d.toNat w.toNat s.toNat l.toNat :: ·)
  | _ => none

/-- Program table entries to the end of the payload (R9). -/
def takeEntries : List Byte → Option (List TableRecord)
  | [] => some []
  | s :: n :: rest => (takeEntries rest).map (.entry s.toNat n.toNat :: ·)
  | _ => none

/-- TABLE-WRITE: tag, first index, records of that table; of a tag that is not written the records have no form
(R185, log 8). -/
def tableWriteForm (p : Port) (l : List Byte) : Option Request :=
  (takeByte l).bind fun (tag, l) => (takeByte l).bind fun (first, l) =>
    match tag with
    | 1 => (takePoints l).map (tableWriteRequest p tag first)
    | 2 => (takeEntries l).map (tableWriteRequest p tag first)
    | _ => some (tableWriteRequest p tag first [])

/-- What the service finds in a complete frame (R168). -/
inductive Form where
  /-- The kind is not in the request table (step 1). -/
  | unknown
  /-- The payload does not fit the kind (step 3). -/
  | malformed
  /-- A request in the form of its kind. -/
  | fits (r : Request)

/-- The form of a payload of a known kind. -/
def Form.ofParse : Option Request → Form
  | none => .malformed
  | some r => .fits r

/-- The kinds of the request table (R165). -/
def requestKinds : List Byte :=
  [0x01, 0x02, 0x10, 0x11, 0x12, 0x13, 0x14, 0x15, 0x16, 0x17, 0x18, 0x20, 0x21, 0x22, 0x23,
    0x30, 0x31, 0x32, 0x33, 0x40, 0x41, 0x50, 0x51, 0x52, 0x53, 0x54, 0x60, 0x61, 0x62, 0x63]

/-- The request that a payload of a known kind spells (R165, R171), or none where it does not fit the kind. -/
def parseRequest (p : Port) (kind : Byte) (l : List Byte) : Option Request :=
  match kind.toNat with
  | 0x01 => clockSetForm l
  | 0x02 => noPayload clockGetRequest l
  | 0x10 => byteAndPairs (fun c => (ChannelField.ofCode c).map (·.form)) channelSetRequest l
  | 0x11 => oneByte channelGetRequest l
  | 0x12 => roomTempForm l
  | 0x13 => layerPushForm p l
  | 0x14 => oneByte layerPopRequest l
  | 0x15 => layerClearForm l
  | 0x16 => holdReleaseForm l
  | 0x17 => oneByte zoneParkRequest l
  | 0x18 => oneByte zoneUnparkRequest l
  | 0x20 => byteAndPairs (fun c => (ValveField.ofCode c).map (·.form)) valveSetRequest l
  | 0x21 => oneByte valveGetRequest l
  | 0x22 => oneByte valveHomeRequest l
  | 0x23 => noPayload linkClearRequest l
  | 0x30 => (takePairs (fun c => (BoilerField.ofCode c).map (·.form)) l.length l).map boilerSetRequest
  | 0x31 => noPayload boilerGetRequest l
  | 0x32 => inputSetForm l
  | 0x33 => inputGetForm l
  | 0x40 => noPayload (attnGetRequest p) l
  | 0x41 => attnMaskForm p l
  | 0x50 => noPayload (editClaimRequest p) l
  | 0x51 => noPayload (editCommitRequest p) l
  | 0x52 => noPayload (editDropRequest p) l
  | 0x53 => oneByte (tableReadRequest p) l
  | 0x54 => tableWriteForm p l
  | 0x60 => noPayload storeSaveRequest l
  | 0x61 => noPayload storeEraseRequest l
  | 0x62 => noPayload restartRequest l
  | 0x63 => noPayload identRequest l
  | _ => none

/-- What the service finds in a frame of this kind and payload (R168). -/
def formOf (p : Port) (kind : Byte) (payload : List Byte) : Form :=
  if requestKinds.contains kind then .ofParse (parseRequest p kind payload) else .unknown

end Sys2Proof.Machine
end

