-- ==== Sys2Proof/Machine/Ports.lean ====
section
/-! DEFINITION. The message ports: serving a request (R168, R169), the receiver (R166, R167), the end of a frame's
sending (R169, R175). -/

namespace Sys2Proof.Machine

/-! ## Serving -/

/-- The outcome of a request that the port serves: the checks of R168 in their order, then the kind's own work. -/
def Form.serve (f : Form) (s : State) : State × ReplyBody :=
  match f with
  | .unknown => refuse s .unknownKind
  | .malformed => refuse s (if s.restartPending then .busy else .range)
  | .fits r =>
    if s.restartPending then refuse s .busy
    else if ¬ r.known then refuse s .range
    else if r.stored ∧ s.storeWriting then refuse s .busy
    else r.work s

/-- A complete request met by the transmit list (R169): served, refused BUSY, or discarded with FRAME attention. -/
def State.meet (s : State) (p : Port) (kind : Byte) (f : Form) : State :=
  let tx := (s.port p).tx
  if ¬ tx.servedUnsent then
    let (t, body) := f.serve s
    t.pushTx p (.served ⟨kind, body⟩)
  else if ¬ tx.busyWaiting then s.pushTx p (.busy ⟨kind, .refused .busy⟩)
  else s.raiseAt p .frame 0 0

/-- Replace a port's receiver. -/
def State.setRx (s : State) (p : Port) (rx : Receiver) : State := s.setPort p { s.port p with rx }

/-- A complete request: the receiver is idle again (R166), the lapse timer of a claim the port holds is set back
(R184), and the service takes it (R168). -/
def State.complete (s : State) (p : Port) (kind : Byte) (f : Form) : State :=
  ((s.setRx p .idle).refreshLapse p).meet p kind f

/-- The event of a request in the form of its kind (R168). While a WARM reset acts none is taken (R104). -/
def requestEvent (p : Port) (r : Request) (s : State) : State := s.event (·.complete p r.kind (.fits r))

/-- UNKNOWN_KIND: a complete request whose kind is not in the request table (R168 step 1). -/
def unknownKindEvent (p : Port) (kind : Byte) (s : State) : State :=
  if requestKinds.contains kind then s else s.event (·.complete p kind .unknown)

/-! ## The receiver (R166, R167) -/

/-- A frame being built is discarded: FRAME attention on this port (R167). -/
def State.discardFrame (s : State) (p : Port) : State := (s.setRx p .idle).raiseAt p .frame 0 0

/-- A length byte that no frame has (R167). -/
def badLengthByte (b : Byte) : Bool := b == 0 || 200 < b.toNat

/-- The 8-bit sum of length, kind, payload and check byte (R166). -/
def checkSum (length : Nat) (bytes : List Byte) (check : Byte) : Byte :=
  BitVec.ofNat 8 length + sumBytes bytes + check

/-- A frame whose check passes: its first byte is the kind, the rest the payload (R165, R166). -/
def State.completeFrame (s : State) (p : Port) (bytes : List Byte) : State :=
  match bytes with
  | [] => s.setRx p .idle
  | kind :: payload => s.complete p kind (formOf p kind payload)

/-- A byte arrives at a port's receiver (R166, R167). -/
def State.takeByteAt (s : State) (p : Port) (b : Byte) : State :=
  match (s.port p).rx with
  | .idle => if b = 0xC3 then s.setRx p .awaitLength else s
  | .awaitLength => if badLengthByte b then s.discardFrame p else s.setRx p (.building b.toNat [])
  | .building n bytes =>
    if bytes.length < n then s.setRx p (.building n (bytes ++ [b]))
    else if checkSum n bytes b = 0 then s.completeFrame p bytes
    else s.discardFrame p

/-- BYTE_ARRIVAL (R166). While a WARM reset acts the byte is discarded (R104). -/
def byteArrivalEvent (p : Port) (b : Byte) (s : State) : State := s.event (·.takeByteAt p b)

/-- FRAME_GAP: more than 20 ms pass between two bytes of a frame being built (R167). -/
def frameGapEvent (p : Port) (s : State) : State :=
  if (s.port p).rx = .idle then s else s.event (·.discardFrame p)

/-- The receiver meets this fault (R167). -/
def Receiver.meets (rx : Receiver) (f : FrameFault) : Bool :=
  match rx, f with
  | .idle, _ => false
  | .awaitLength, .badLength b => badLengthByte b
  | _, .badStopBit => true
  | .building n bytes, .badSum b => n ≤ bytes.length && checkSum n bytes b != 0
  | _, _ => false

/-- FRAME_DISCARD (R167). -/
def frameDiscardEvent (p : Port) (f : FrameFault) (s : State) : State :=
  if (s.port p).rx.meets f then s.event (·.discardFrame p) else s

/-! ## The end of a frame's sending (R169, R175) -/

/-- The DONE reply to a RESTART (R175). -/
def TxFrame.isRestartDone : TxFrame → Bool
  | .served ⟨kind, .done _ _⟩ => kind == restartRequest.kind
  | _ => false

/-- The frame being sent on a port has gone out. -/
def State.frameDone (s : State) (p : Port) : State :=
  let ps := s.port p
  s.setPort p { ps with tx := { ps.tx with sending := none } }

/-- FRAME_SENT: the last byte leaves (R169); that of the RESTART's reply makes the WARM reset act (R175). -/
def frameSentEvent (p : Port) (s : State) : State :=
  match (s.port p).tx.sending with
  | none => s
  | some f =>
    if s.acting.isNone ∧ s.restartPending ∧ f.isRestartDone then s.warmStart else s.event (·.frameDone p)

end Sys2Proof.Machine
end

