-- ==== Sys2Proof/Machine/Events.lean ====
section
/-! DEFINITION. The meaning of every event row of the table: what the clock, the plant and the lines of the ports bring.
An event whose condition does not hold changes nothing (log 2). -/

namespace Sys2Proof.Machine

/-- COLD_RESET (R192). -/
def execColdReset (s : State) : Host.Outcome State Fault Refusal := .next (coldResetEvent s)

/-- WARM_RESET_COMPLETE (R104). -/
def execWarmResetComplete (s : State) : Host.Outcome State Fault Refusal := .next (warmResetCompleteEvent s)

/-- WALL_MINUTE (R1). -/
def execWallMinute (s : State) : Host.Outcome State Fault Refusal := .next (wallMinuteEvent s)

/-- ELAPSED_MINUTE (R2). -/
def execElapsedMinute (s : State) : Host.Outcome State Fault Refusal := .next (elapsedMinuteEvent s)

/-- LAYER_EXPIRY (R28). -/
def execLayerExpiry (channel : Nat) (s : State) : Host.Outcome State Fault Refusal :=
  .next (layerExpiryEvent channel s)

/-- WATCH_END (R18). -/
def execWatchEnd (zone : Nat) (s : State) : Host.Outcome State Fault Refusal := .next (watchEndEvent zone s)

/-- STALL_RETRY (R96). -/
def execStallRetry (slot : Nat) (s : State) : Host.Outcome State Fault Refusal := .next (stallRetryEvent slot s)

/-- MIN_ON_ELAPSED (R135). -/
def execMinOnElapsed (s : State) : Host.Outcome State Fault Refusal := .next (minOnElapsedEvent s)

/-- MIN_OFF_ELAPSED (R139). -/
def execMinOffElapsed (s : State) : Host.Outcome State Fault Refusal := .next (minOffElapsedEvent s)

/-- REGULATION_PASS (R52). -/
def execRegulationPass (zone : Nat) (s : State) : Host.Outcome State Fault Refusal :=
  .next (regulationPassEvent zone s)

/-- GOOD_REPLY (R89). -/
def execGoodReply (address : Nat) (position : Nat) (running : Bool) (stall : Bool) (calibrated : Bool)
    (temperature : Option Temp) (s : State) : Host.Outcome State Fault Refusal :=
  .next (goodReplyEvent ⟨address, position, running, stall, calibrated, temperature⟩ s)

/-- DISCARDED_REPLY (R85: a reply that is not good has no effect of its own). -/
def execDiscardedReply (_frameCheckPasses : Bool) (_address : Nat) (_position : Nat) (s : State)
    : Host.Outcome State Fault Refusal :=
  .next s

/-- MISS (R90). -/
def execMiss (s : State) : Host.Outcome State Fault Refusal := .next (missEvent s)

/-- MOVE_TIMEOUT (R95). -/
def execMoveTimeout (slot : Nat) (s : State) : Host.Outcome State Fault Refusal := .next (moveTimeoutEvent slot s)

/-- LINK_FAULT (R98). -/
def execLinkFault (s : State) : Host.Outcome State Fault Refusal := .next (linkFaultEvent s)

/-- SUPPLY_MEASUREMENT (R101). -/
def execSupplyMeasurement (tenthsOfVolt : Nat) (s : State) : Host.Outcome State Fault Refusal :=
  .next (supplyMeasurementEvent tenthsOfVolt s)

/-- SUPPLY_QUALIFIED (R101). -/
def execSupplyQualified (tenthsOfVolt : Nat) (s : State) : Host.Outcome State Fault Refusal :=
  .next (supplyQualifiedEvent tenthsOfVolt s)

/-- SENSOR_SAMPLE (R152). -/
def execSensorSample (sensor : Sensor) (converted : Temp) (s : State) : Host.Outcome State Fault Refusal :=
  .next (sensorSampleEvent sensor converted s)

/-- INPUT_CHANGE (R157). -/
def execInputChange (input : Nat) (high : Bool) (s : State) : Host.Outcome State Fault Refusal :=
  .next (inputChangeEvent input high s)

/-- INPUT_ESTABLISHED (R160). -/
def execInputEstablished (input : Nat) (high : Bool) (s : State) : Host.Outcome State Fault Refusal :=
  .next (inputEstablishedEvent input high s)

/-- LEAD_EXPIRY (R133). -/
def execLeadExpiry (s : State) : Host.Outcome State Fault Refusal := .next (leadExpiryEvent s)

/-- OVERRUN_EXPIRY (R138). -/
def execOverrunExpiry (s : State) : Host.Outcome State Fault Refusal := .next (overrunExpiryEvent s)

/-- PUMP_TIMER_EXPIRY (R140). -/
def execPumpTimerExpiry (s : State) : Host.Outcome State Fault Refusal := .next (pumpTimerExpiryEvent s)

/-- RAMP_STEP (R163). -/
def execRampStep (s : State) : Host.Outcome State Fault Refusal := .next (rampStepEvent s)

/-- STORE_WRITE_END (R189). -/
def execStoreWriteEnd (s : State) : Host.Outcome State Fault Refusal := .next (storeWriteEndEvent s)

/-- EDIT_CLAIM_LAPSE (R184). -/
def execEditClaimLapse (s : State) : Host.Outcome State Fault Refusal := .next (editClaimLapseEvent s)

/-- FRAME_GAP (R167). -/
def execFrameGap (port : Port) (s : State) : Host.Outcome State Fault Refusal := .next (frameGapEvent port s)

/-- FRAME_DISCARD (R167). -/
def execFrameDiscard (port : Port) (cause : FrameFault) (s : State) : Host.Outcome State Fault Refusal :=
  .next (frameDiscardEvent port cause s)

/-- FRAME_SENT (R169, R175). -/
def execFrameSent (port : Port) (s : State) : Host.Outcome State Fault Refusal := .next (frameSentEvent port s)

/-- UNKNOWN_KIND (R168). -/
def execUnknownKind (port : Port) (kind : Byte) (s : State) : Host.Outcome State Fault Refusal :=
  .next (unknownKindEvent port kind s)

/-- SECOND_TICK (R1, R2, R3). -/
def execSecondTick (s : State) : Host.Outcome State Fault Refusal := .next (secondTickEvent s)

/-- INPUT_SAMPLE (R155). -/
def execInputSample (input : Nat) (high : Bool) (s : State) : Host.Outcome State Fault Refusal :=
  .next (inputSampleEvent input high s)

/-- BYTE_ARRIVAL (R166). -/
def execByteArrival (port : Port) (byte : Byte) (s : State) : Host.Outcome State Fault Refusal :=
  .next (byteArrivalEvent port byte s)

/-- WARM_RESET_STOP_END (R104). -/
def execWarmResetStopEnd (s : State) : Host.Outcome State Fault Refusal := .next (warmResetStopEndEvent s)

end Sys2Proof.Machine
end

