-- ==== Sys2Proof/Machine/Serving.lean ====
section
/-! DEFINITION. The meaning of every request row of the table: a complete request of that kind on a port (R166, R168,
R169). -/

namespace Sys2Proof.Machine

/-- CLOCK_SET (R5). -/
def execClockSet (port : Port) (minuteOfWeek : Nat) (seconds : Nat) (parity : Nat) (s : State)
    : Host.Outcome State Fault Refusal :=
  .next (requestEvent port (clockSetRequest minuteOfWeek seconds parity) s)

/-- CLOCK_GET (R6). -/
def execClockGet (port : Port) (s : State) : Host.Outcome State Fault Refusal :=
  .next (requestEvent port clockGetRequest s)

/-- CHANNEL_SET (R173). -/
def execChannelSet (port : Port) (channel : Nat) (fields : List (Nat × Int)) (s : State)
    : Host.Outcome State Fault Refusal :=
  .next (requestEvent port (channelSetRequest channel fields) s)

/-- CHANNEL_GET (R173). -/
def execChannelGet (port : Port) (channel : Nat) (s : State) : Host.Outcome State Fault Refusal :=
  .next (requestEvent port (channelGetRequest channel) s)

/-- ROOM_TEMP (R47). -/
def execRoomTemp (port : Port) (zone : Nat) (temperature : Temp) (s : State)
    : Host.Outcome State Fault Refusal :=
  .next (requestEvent port (roomTempRequest zone temperature) s)

/-- LAYER_PUSH (R25). -/
def execLayerPush (port : Port) (mask : BitVec 24) (kind : Nat) (setpoint : Temp) (duration : Nat) (s : State)
    : Host.Outcome State Fault Refusal :=
  .next (requestEvent port (layerPushRequest port mask kind setpoint duration) s)

/-- LAYER_POP (R31). -/
def execLayerPop (port : Port) (channel : Nat) (s : State) : Host.Outcome State Fault Refusal :=
  .next (requestEvent port (layerPopRequest channel) s)

/-- LAYER_CLEAR (R32). -/
def execLayerClear (port : Port) (mask : BitVec 24) (s : State) : Host.Outcome State Fault Refusal :=
  .next (requestEvent port (layerClearRequest mask) s)

/-- HOLD_RELEASE (R30). -/
def execHoldRelease (port : Port) (channel : Nat) (runOut : Nat) (s : State)
    : Host.Outcome State Fault Refusal :=
  .next (requestEvent port (holdReleaseRequest channel runOut) s)

/-- ZONE_PARK (R41). -/
def execZonePark (port : Port) (zone : Nat) (s : State) : Host.Outcome State Fault Refusal :=
  .next (requestEvent port (zoneParkRequest zone) s)

/-- ZONE_UNPARK (R43). -/
def execZoneUnpark (port : Port) (zone : Nat) (s : State) : Host.Outcome State Fault Refusal :=
  .next (requestEvent port (zoneUnparkRequest zone) s)

/-- VALVE_SET (R82, R83). -/
def execValveSet (port : Port) (slot : Nat) (fields : List (Nat × Int)) (s : State)
    : Host.Outcome State Fault Refusal :=
  .next (requestEvent port (valveSetRequest slot fields) s)

/-- VALVE_GET (R105). -/
def execValveGet (port : Port) (slot : Nat) (s : State) : Host.Outcome State Fault Refusal :=
  .next (requestEvent port (valveGetRequest slot) s)

/-- VALVE_HOME (R97). -/
def execValveHome (port : Port) (slot : Nat) (s : State) : Host.Outcome State Fault Refusal :=
  .next (requestEvent port (valveHomeRequest slot) s)

/-- LINK_CLEAR (R100). -/
def execLinkClear (port : Port) (s : State) : Host.Outcome State Fault Refusal :=
  .next (requestEvent port linkClearRequest s)

/-- BOILER_SET (R145). -/
def execBoilerSet (port : Port) (fields : List (Nat × Int)) (s : State) : Host.Outcome State Fault Refusal :=
  .next (requestEvent port (boilerSetRequest fields) s)

/-- BOILER_GET (R150). -/
def execBoilerGet (port : Port) (s : State) : Host.Outcome State Fault Refusal :=
  .next (requestEvent port boilerGetRequest s)

/-- INPUT_SET (R154, R158). -/
def execInputSet (port : Port) (input : Nat) (sensitivity : Nat) (function : Nat) (zone : Option Nat)
    (setpoint : Option Temp) (minutes : Option Nat) (s : State) : Host.Outcome State Fault Refusal :=
  .next (requestEvent port (inputSetRequest input sensitivity function zone setpoint minutes) s)

/-- INPUT_GET (R159). -/
def execInputGet (port : Port) (input : Option Nat) (clear : Bool) (s : State)
    : Host.Outcome State Fault Refusal :=
  .next (requestEvent port (inputGetRequest input clear) s)

/-- ATTN_GET (R178). -/
def execAttnGet (port : Port) (s : State) : Host.Outcome State Fault Refusal :=
  .next (requestEvent port (attnGetRequest port) s)

/-- ATTN_MASK (R177). -/
def execAttnMask (port : Port) (mask : List MaskItem) (s : State) : Host.Outcome State Fault Refusal :=
  .next (requestEvent port (attnMaskRequest port mask) s)

/-- EDIT_CLAIM (R183). -/
def execEditClaim (port : Port) (s : State) : Host.Outcome State Fault Refusal :=
  .next (requestEvent port (editClaimRequest port) s)

/-- EDIT_COMMIT (R186). -/
def execEditCommit (port : Port) (s : State) : Host.Outcome State Fault Refusal :=
  .next (requestEvent port (editCommitRequest port) s)

/-- EDIT_DROP (R187). -/
def execEditDrop (port : Port) (s : State) : Host.Outcome State Fault Refusal :=
  .next (requestEvent port (editDropRequest port) s)

/-- TABLE_READ (R181). -/
def execTableRead (port : Port) (tag : Nat) (s : State) : Host.Outcome State Fault Refusal :=
  .next (requestEvent port (tableReadRequest port tag) s)

/-- TABLE_WRITE (R185). -/
def execTableWrite (port : Port) (tag : Nat) (first : Nat) (records : List TableRecord) (s : State)
    : Host.Outcome State Fault Refusal :=
  .next (requestEvent port (tableWriteRequest port tag first records) s)

/-- STORE_SAVE (R189). -/
def execStoreSave (port : Port) (s : State) : Host.Outcome State Fault Refusal :=
  .next (requestEvent port storeSaveRequest s)

/-- STORE_ERASE (R190). -/
def execStoreErase (port : Port) (s : State) : Host.Outcome State Fault Refusal :=
  .next (requestEvent port storeEraseRequest s)

/-- RESTART (R175). -/
def execRestart (port : Port) (s : State) : Host.Outcome State Fault Refusal :=
  .next (requestEvent port restartRequest s)

/-- IDENT (R191). -/
def execIdent (port : Port) (s : State) : Host.Outcome State Fault Refusal := .next (requestEvent port identRequest s)

end Sys2Proof.Machine
end

