-- ==== Sys2Proof/Machine/Dispatch.lean ====
section
/-! DEFINITION. The meaning of a command: one arm per constructor of `Instr`, in the order of the table. -/

namespace Sys2Proof.Machine

def exec (i : Instr) (s : State) : Host.Outcome State Fault Refusal :=
  match i with
  | .coldReset => Sys2Proof.Machine.execColdReset s
  | .warmResetComplete => Sys2Proof.Machine.execWarmResetComplete s
  | .wallMinute => Sys2Proof.Machine.execWallMinute s
  | .elapsedMinute => Sys2Proof.Machine.execElapsedMinute s
  | .layerExpiry x => Sys2Proof.Machine.execLayerExpiry x s
  | .watchEnd x => Sys2Proof.Machine.execWatchEnd x s
  | .stallRetry x => Sys2Proof.Machine.execStallRetry x s
  | .minOnElapsed => Sys2Proof.Machine.execMinOnElapsed s
  | .minOffElapsed => Sys2Proof.Machine.execMinOffElapsed s
  | .regulationPass x => Sys2Proof.Machine.execRegulationPass x s
  | .goodReply x1 x2 x3 x4 x5 x6 => Sys2Proof.Machine.execGoodReply x1 x2 x3 x4 x5 x6 s
  | .discardedReply x1 x2 x3 => Sys2Proof.Machine.execDiscardedReply x1 x2 x3 s
  | .miss => Sys2Proof.Machine.execMiss s
  | .moveTimeout x => Sys2Proof.Machine.execMoveTimeout x s
  | .linkFault => Sys2Proof.Machine.execLinkFault s
  | .supplyMeasurement x => Sys2Proof.Machine.execSupplyMeasurement x s
  | .supplyQualified x => Sys2Proof.Machine.execSupplyQualified x s
  | .sensorSample x1 x2 => Sys2Proof.Machine.execSensorSample x1 x2 s
  | .inputChange x1 x2 => Sys2Proof.Machine.execInputChange x1 x2 s
  | .inputEstablished x1 x2 => Sys2Proof.Machine.execInputEstablished x1 x2 s
  | .leadExpiry => Sys2Proof.Machine.execLeadExpiry s
  | .overrunExpiry => Sys2Proof.Machine.execOverrunExpiry s
  | .pumpTimerExpiry => Sys2Proof.Machine.execPumpTimerExpiry s
  | .rampStep => Sys2Proof.Machine.execRampStep s
  | .storeWriteEnd => Sys2Proof.Machine.execStoreWriteEnd s
  | .editClaimLapse => Sys2Proof.Machine.execEditClaimLapse s
  | .frameGap x => Sys2Proof.Machine.execFrameGap x s
  | .frameDiscard x1 x2 => Sys2Proof.Machine.execFrameDiscard x1 x2 s
  | .frameSent x => Sys2Proof.Machine.execFrameSent x s
  | .unknownKind x1 x2 => Sys2Proof.Machine.execUnknownKind x1 x2 s
  | .clockSet p x1 x2 x3 => Sys2Proof.Machine.execClockSet p x1 x2 x3 s
  | .clockGet p => Sys2Proof.Machine.execClockGet p s
  | .channelSet p x1 x2 => Sys2Proof.Machine.execChannelSet p x1 x2 s
  | .channelGet p x => Sys2Proof.Machine.execChannelGet p x s
  | .roomTemp p x1 x2 => Sys2Proof.Machine.execRoomTemp p x1 x2 s
  | .layerPush p x1 x2 x3 x4 => Sys2Proof.Machine.execLayerPush p x1 x2 x3 x4 s
  | .layerPop p x => Sys2Proof.Machine.execLayerPop p x s
  | .layerClear p x => Sys2Proof.Machine.execLayerClear p x s
  | .holdRelease p x1 x2 => Sys2Proof.Machine.execHoldRelease p x1 x2 s
  | .zonePark p x => Sys2Proof.Machine.execZonePark p x s
  | .zoneUnpark p x => Sys2Proof.Machine.execZoneUnpark p x s
  | .valveSet p x1 x2 => Sys2Proof.Machine.execValveSet p x1 x2 s
  | .valveGet p x => Sys2Proof.Machine.execValveGet p x s
  | .valveHome p x => Sys2Proof.Machine.execValveHome p x s
  | .linkClear p => Sys2Proof.Machine.execLinkClear p s
  | .boilerSet p x => Sys2Proof.Machine.execBoilerSet p x s
  | .boilerGet p => Sys2Proof.Machine.execBoilerGet p s
  | .inputSet p x1 x2 x3 x4 x5 x6 => Sys2Proof.Machine.execInputSet p x1 x2 x3 x4 x5 x6 s
  | .inputGet p x1 x2 => Sys2Proof.Machine.execInputGet p x1 x2 s
  | .attnGet p => Sys2Proof.Machine.execAttnGet p s
  | .attnMask p x => Sys2Proof.Machine.execAttnMask p x s
  | .editClaim p => Sys2Proof.Machine.execEditClaim p s
  | .editCommit p => Sys2Proof.Machine.execEditCommit p s
  | .editDrop p => Sys2Proof.Machine.execEditDrop p s
  | .tableRead p x => Sys2Proof.Machine.execTableRead p x s
  | .tableWrite p x1 x2 x3 => Sys2Proof.Machine.execTableWrite p x1 x2 x3 s
  | .storeSave p => Sys2Proof.Machine.execStoreSave p s
  | .storeErase p => Sys2Proof.Machine.execStoreErase p s
  | .restart p => Sys2Proof.Machine.execRestart p s
  | .ident p => Sys2Proof.Machine.execIdent p s
  | .secondTick => Sys2Proof.Machine.execSecondTick s
  | .inputSample x1 x2 => Sys2Proof.Machine.execInputSample x1 x2 s
  | .byteArrival x1 x2 => Sys2Proof.Machine.execByteArrival x1 x2 s
  | .warmResetStopEnd => Sys2Proof.Machine.execWarmResetStopEnd s

end Sys2Proof.Machine
end

