-- ==== Sys2Proof/WellFormed.lean ====
section
/-! DEFINITION. Which commands are well formed: the objects an event names exist, and a request's fields fit
the widths their wire encodings give them (R165, R171). A request's field may still lie outside the range
its own rule gives; refusing it is the request's meaning. -/

namespace Sys2Proof

/-- A number one byte can carry (R171). -/
def fitsByte (n : Nat) : Bool := n < 256

/-- A number an unsigned 16-bit value can carry (R171). -/
def fitsWord (n : Nat) : Bool := n < 65536

/-- A temperature a signed 16-bit value can carry (R165). -/
def fitsTemp (t : Temp) : Bool := -32768 ≤ t && t ≤ 32767

/-- One pair of a SET list: a one-byte field code, and a value that some 16-bit form carries (R171). -/
def fitsField (f : Nat × Int) : Bool := fitsByte f.1 && (-32768 ≤ f.2 && f.2 ≤ 65535)

/-- One record of a TABLE-WRITE: every field is one byte (R8, R9, R171). -/
def TableRecord.wf : TableRecord → Bool
  | .point d w s l => fitsByte d && fitsByte w && fitsByte s && fitsByte l
  | .entry s l => fitsByte s && fitsByte l

/-- Well-formed commands. -/
def Instr.wf : Instr → Bool
  | .coldReset | .warmResetComplete | .wallMinute | .elapsedMinute => true
  | .layerExpiry c => 1 ≤ c && c ≤ 17
  | .watchEnd k => 1 ≤ k && k ≤ 16
  | .stallRetry v => 1 ≤ v && v ≤ 32
  | .minOnElapsed | .minOffElapsed => true
  | .regulationPass k => 1 ≤ k && k ≤ 16
  | .goodReply a p _ _ _ t => (1 ≤ a && a ≤ 32) && p ≤ 100 && t.all fitsTemp
  | .discardedReply _ a p => fitsByte a && fitsByte p
  | .miss => true
  | .moveTimeout v => 1 ≤ v && v ≤ 32
  | .linkFault => true
  | .supplyMeasurement _ | .supplyQualified _ => true
  | .sensorSample _ _ => true
  | .inputChange n _ | .inputEstablished n _ | .inputSample n _ => 1 ≤ n && n ≤ 4
  | .leadExpiry | .overrunExpiry | .pumpTimerExpiry | .rampStep | .storeWriteEnd | .editClaimLapse => true
  | .frameGap _ => true
  | .frameDiscard _ (.badLength b) => b == 0 || 200 < b.toNat
  | .frameDiscard _ .badStopBit => true
  | .frameDiscard _ (.badSum _) => true
  | .frameSent _ | .unknownKind _ _ => true
  | .clockSet _ m s q => fitsWord m && fitsByte s && fitsByte q
  | .clockGet _ => true
  | .channelSet _ c fs => fitsByte c && fs.all fitsField
  | .channelGet _ c => fitsByte c
  | .roomTemp _ k t => fitsByte k && fitsTemp t
  | .layerPush _ _ k t d => fitsByte k && fitsTemp t && fitsWord d
  | .layerPop _ c => fitsByte c
  | .layerClear _ _ => true
  | .holdRelease _ c n => fitsByte c && fitsWord n
  | .zonePark _ k | .zoneUnpark _ k => fitsByte k
  | .valveSet _ v fs => fitsByte v && fs.all fitsField
  | .valveGet _ v | .valveHome _ v => fitsByte v
  | .linkClear _ => true
  | .boilerSet _ fs => fs.all fitsField
  | .boilerGet _ => true
  | .inputSet _ n s f z t m =>
      fitsByte n && fitsByte s && fitsByte f && z.all fitsByte && t.all fitsTemp && m.all fitsWord
  | .inputGet _ n _ => n.all fun k => fitsByte k && k != 0
  | .attnGet _ => true
  | .attnMask _ items => items.all fun i => fitsByte i.category
  | .editClaim _ | .editCommit _ | .editDrop _ => true
  | .tableRead _ t => fitsByte t
  | .tableWrite _ t i rs => fitsByte t && fitsByte i && rs.all TableRecord.wf
  | .storeSave _ | .storeErase _ | .restart _ | .ident _ => true
  | .secondTick | .byteArrival _ _ | .warmResetStopEnd => true

end Sys2Proof
end

