-- ==== Sys2Proof/Safety.lean ====
section
/-! DEFINITION. The words the statements are made of: when a port serves a request, what a reply and an attention entry
leave behind, the ranges of the settings, what an event makes of flow setpoint and ramp, and the invariants of the
machine, each named after the rule that gives it. -/

namespace Sys2Proof.Machine

/-! ## Requests -/

/-- Port `p` serves a request that is complete now: no WARM reset acts (R104), none is pending (R175), no served reply is
unsent (R169). -/
abbrev State.takes (s : State) (p : Port) : Prop :=
  s.acting = none ∧ s.restartPending = false ∧ (s.port p).tx.servedUnsent = false

/-- A port's frames: the one being sent and those that wait (R169). -/
abbrev PortState.frames (ps : PortState) : List TxFrame := ps.tx.sending.toList ++ ps.tx.queue

/-- The edit claim after a complete request on port `p`: its timer is back at 120 s where `p` holds it (R184). -/
def State.keptAlive (s : State) (p : Port) : Option EditClaim :=
  s.claim.map fun c => if c.holder = p then { c with lapse := 120 } else c

/-- Between `s` and `t` no category of port `p`'s attention set changed but these. -/
abbrev State.attentionKept (s t : State) (p : Port) (cs : List Category) : Prop :=
  ∀ n, n ∉ cs.map Category.number → (t.port p).attn.getD n none = (s.port p).attn.getD n none

/-- Between `s` and `t` the ports kept receiver and cursor, and their attention but for these categories; the transmit
lists may have gone on. -/
abbrev State.portsKept (s t : State) (cs : List Category) : Prop :=
  ∀ p, (t.port p).rx = (s.port p).rx ∧ (t.port p).cursor = (s.port p).cursor ∧ s.attentionKept t p cs

/-- Port `p` answered a request: the served reply stands among its frames, its receiver is idle (R166, R168); the
attention sets kept every category but these. -/
abbrev State.answered (s t : State) (p : Port) (kind : Byte) (body : ReplyBody) (cs : List Category) : Prop :=
  TxFrame.served ⟨kind, body⟩ ∈ (t.port p).frames ∧
    ∀ q, (t.port q).rx = (if q = p then .idle else (s.port q).rx) ∧ s.attentionKept t q cs

/-- Port `p` answered a request, and no cursor moved. -/
abbrev State.replied (s t : State) (p : Port) (kind : Byte) (body : ReplyBody) (cs : List Category) : Prop :=
  s.answered t p kind body cs ∧ ∀ q, (t.port q).cursor = (s.port q).cursor

/-- Between `s` and `t` nothing changed but the ports' lists and receivers and the timer of a claim that `p` holds. -/
abbrev State.onlyReplied (s t : State) (p : Port) : Prop :=
  t = { s with claim := s.keptAlive p, main := t.main, service := t.service }

/-- The command is answered with this refusal, and changes nothing (R168). -/
abbrev refusesWith (i : Instr) (p : Port) (kind : Byte) (body : ReplyBody) (s : State) : Prop :=
  ∃ t, exec i s = .next t ∧ s.replied t p kind body [] ∧ s.onlyReplied t p

/-- Commands run one after the other; none where one stops. -/
def runAll : List Instr → State → Option State
  | [], s => some s
  | c :: rest, s =>
    match exec c s with
    | .next t => runAll rest t
    | .fault _ => none
    | .refused _ => none

/-- The request that a request command carries, and its port. -/
def requestOf : Instr → Option (Port × Request)
  | .clockSet p m sec q => some (p, clockSetRequest m sec q)
  | .clockGet p => some (p, clockGetRequest)
  | .channelSet p c fs => some (p, channelSetRequest c fs)
  | .channelGet p c => some (p, channelGetRequest c)
  | .roomTemp p k t => some (p, roomTempRequest k t)
  | .layerPush p m k t d => some (p, layerPushRequest p m k t d)
  | .layerPop p c => some (p, layerPopRequest c)
  | .layerClear p m => some (p, layerClearRequest m)
  | .holdRelease p c n => some (p, holdReleaseRequest c n)
  | .zonePark p k => some (p, zoneParkRequest k)
  | .zoneUnpark p k => some (p, zoneUnparkRequest k)
  | .valveSet p v fs => some (p, valveSetRequest v fs)
  | .valveGet p v => some (p, valveGetRequest v)
  | .valveHome p v => some (p, valveHomeRequest v)
  | .linkClear p => some (p, linkClearRequest)
  | .boilerSet p fs => some (p, boilerSetRequest fs)
  | .boilerGet p => some (p, boilerGetRequest)
  | .inputSet p n a b z t m => some (p, inputSetRequest n a b z t m)
  | .inputGet p n c => some (p, inputGetRequest n c)
  | .attnGet p => some (p, attnGetRequest p)
  | .attnMask p ms => some (p, attnMaskRequest p ms)
  | .editClaim p => some (p, editClaimRequest p)
  | .editCommit p => some (p, editCommitRequest p)
  | .editDrop p => some (p, editDropRequest p)
  | .tableRead p tag => some (p, tableReadRequest p tag)
  | .tableWrite p tag i rs => some (p, tableWriteRequest p tag i rs)
  | .storeSave p => some (p, storeSaveRequest)
  | .storeErase p => some (p, storeEraseRequest)
  | .restart p => some (p, restartRequest)
  | .ident p => some (p, identRequest)
  | _ => none

/-- Category `c` stands in port `p`'s attention set, with these objects among its objects (R178). -/
abbrev State.raised (t : State) (p : Port) (c : Category) (objects : ObjectSet) : Prop :=
  ((t.port p).attn.getD c.number none).any (fun a => (objects &&& ~~~a.objects) == 0) = true

/-- `k` is `n / d` rounded half away from zero, `d` positive (00_scope.md, ROUNDING): the nearest whole number, an exact
half to the one of greater magnitude. -/
abbrev IsRoundedHalfAway (k n d : Int) : Prop :=
  2 * (n - k * d).natAbs ≤ d.natAbs ∧ (2 * (n - k * d).natAbs = d.natAbs → n.natAbs < (k * d).natAbs)

/-- The day and parity `n` days before a day (R12). -/
def daysBack : Nat → Nat → Parity → Nat × Parity
  | 0, d, q => (d, q)
  | n + 1, d, q => daysBack n (dayBefore d q).1 (dayBefore d q).2

/-- Program number `j` fails one of R10's four conditions: its run passes the pool's end, shares a record with a
non-empty run numbered below it, holds a record with an empty day set, or holds two records of one slot with a common
weekday and a common parity. -/
abbrev failsValidation (pool : List SwitchPoint) (programs : List ProgramEntry) (j : Nat) : Prop :=
  1 ≤ j ∧ ∃ e, programs[j - 1]? = some e ∧ 1 ≤ e.length ∧
    (256 < e.start + e.length ∨
      (∃ (i n : Nat) (f : ProgramEntry), i + 1 < j ∧ programs[i]? = some f ∧
        (e.start ≤ n ∧ n < e.start + e.length) ∧ f.start ≤ n ∧ n < f.start + f.length) ∨
      (∃ r ∈ runOf pool e, r.days = 0) ∨
      ∃ (i k : Nat) (x y : SwitchPoint), i < k ∧ (runOf pool e)[i]? = some x ∧ (runOf pool e)[k]? = some y ∧
        x.slot = y.slot ∧ x.days &&& y.days ≠ 0 ∧ ∃ q, x.weeks.contains q = true ∧ y.weeks.contains q = true)

/-- The level the compiler gives slot `i` of a day for channel `c` (R13). -/
def State.entryLevel (s : State) (c day : Nat) (q : Parity) (i : Nat) : Level :=
  if (s.compiledRun c).isEmpty then (s.channelCfg c).defaultLevel
  else compileEntry (s.compiledRun c) (s.channelCfg c).defaultLevel day q i

/-- Channel `c`'s plan in `t` is what the compiler makes of `t`'s clock and tables: 288 entries, today and tomorrow
(R12, R13, R14). -/
abbrev State.planCompiled (t : State) (c : Nat) : Prop :=
  (t.channel c).plan.length = 288 ∧ ∀ i < 144,
    (t.channel c).plan[i]? = some (t.entryLevel c t.clock.day t.clock.parity i) ∧
    (t.channel c).plan[144 + i]? =
      some (t.entryLevel c (dayAfter t.clock.day t.clock.parity).1 (dayAfter t.clock.day t.clock.parity).2 i)

/-- Between `s` and `t` a store write in progress was cut short, the image left INVALID with a check value that fails
(R189); what of the snapshot the image holds is free (log 43). With no write in progress the store stays. -/
abbrev State.writeStopped (s t : State) : Prop :=
  (s.store.writing = none → t.store = s.store) ∧
    (s.store.writing ≠ none →
      t.store.imageValid = false ∧ t.store.writing = none ∧ t.store.check ≠ Config.checkValue t.store.image)

/-- What a reset that met `s` leaves in `t`, COLD or WARM (11.5). -/
structure State.Restarted (s t : State) (cold : Bool) : Prop where
  clock : t.clock =
    if cold then ⟨0, 0, .a, false, 0, 0, false, false⟩
    else { s.clock with elapsed := 0, tickCount := 0, wallDue := false, elapsedDue := false }
  cfg : t.cfg = if s.store.imageValid = true ∧ s.store.writing = none then s.store.image else .defaults
  store : s.writeStopped t
  claim : t.claim = none
  layers : ∀ c, (t.channel c).stack = []
  plans : ∀ c, 1 ≤ c → c ≤ 17 → t.planCompiled c
  zones : t.zones = List.replicate 16 .initial
  wRequest : t.wRequest = false
  table : t.table = { entries := List.replicate 17 .initial, servedLevel := 0 }
  heads : t.heads = List.replicate 32 .initial
  link : t.link =
    { fault := false, transaction := (slotNumbers.find? t.used).map (⟨·, .poll⟩), commands := [], cursor := 32 }
  queue : t.arbiter.queue = [] ∧ t.arbiter.arrivals = 0 ∧ t.arbiter.sinkOpen = false
  wanted : ∀ v, 1 ≤ v → v ≤ 32 → t.wantedOf v = if t.used v then some ⟨0, .normal⟩ else none
  boiler : t.boiler =
    { state := if t.cfg.boiler.minOff = 0 then .idle else .rest
      leadTimer := none, leadExtended := false, leadHeld := false, overrunTimer := none, pumpTimer := none
      fireMark := 0, restMark := 0, heatDump := false, minOnHold := false
      flowSetpoint := t.cfg.boiler.flowMin
      modulationTarget := (t.cfg.boiler.flowMin - 200).toNat * 1000 / 700
      parts := t.boiler.parts }
  field : t.field = .initial
  receivers : ∀ p, (t.port p).rx = .idle ∧ (t.port p).cursor = none
  attention : ∀ p n, (t.port p).attn.getD n none =
    if n = 1 ∨ (n = 0 ∧ cold = true) ∨ (n = 14 ∧ t.store.imageValid = false) then
      some ⟨0, if n = 14 then 2 else 0, !((t.masks p).getD n ⟨false, 0⟩).whole⟩
    else none
  notice : ∀ p, (t.port p).tx =
    { sending := if someNotifying (t.port p).attn then some (.notice (some (notifyingWord (t.port p).attn))) else none
      queue := [] }
  flags : t.restartPending = false ∧ t.acting = none
  pending : t.pending = s.pending

/-! ## Settings by field code (R171) -/

/-- The value a list of pairs gives a field code, the last one where it stands twice (log 10); `held` where it lists
none. -/
def listed (fields : List (Nat × Int)) (code : Nat) (held : Int) : Int :=
  ((fields.reverse.find? (·.1 == code)).map (·.2)).getD held

/-- The value of a two-valued setting: 1 for the first of its values (R171). -/
def flagValue (b : Bool) : Int := if b then 1 else 0

/-- The settings of CHANNEL-SET in the order of their field codes, 1 to 23 (R173, R171). -/
def ChannelDraft.values (d : ChannelDraft) : List Int :=
  [d.channel.program, d.channel.defaultLevel.code, flagValue d.zone.preheatEnable, d.zone.rate, d.zone.preheatLimit,
    d.channel.frost, d.channel.setback, d.channel.eco, d.channel.comfort, d.channel.limit,
    flagValue d.zone.detectEnable, d.zone.dropThreshold, d.zone.windowTime, (d.zone.source.getD 0 : Nat),
    d.zone.staleLimit, d.zone.period, d.zone.band, d.zone.integralTime, d.zone.fallback, d.zone.requestAt,
    d.zone.releaseAt, d.channel.priority, d.differential]

/-- The settings of VALVE-SET in the order of their field codes, 1 to 8: zone 0 and dump-eligible clear where the role
is not ZONE (R82, R171). -/
def ValveCfg.values (x : ValveCfg) : List Int :=
  let zone : Nat × Bool := match x.role with
    | .zone k dump => (k, dump)
    | .unused | .cylinder | .sink => (0, false)
  [x.role.code, zone.1, flagValue zone.2, x.weight, x.liftMin, x.liftMax, x.deadband, x.stroke]

/-- The settings of BOILER-SET in the order of their field codes, 1 to 17 (R145, R171). -/
def BoilerCfg.values (b : BoilerCfg) : List Int :=
  [b.leadTime, b.minOn, b.overrunTime, b.minOff, b.highLimitDelta, b.designOutdoor, b.designFlow, b.neutralOutdoor,
    b.baseFlow, b.shift, b.flowDelta, b.flowMin, b.flowMax, b.sinkMinimum, b.motorAllowance, b.exerciseSlot, b.rampStep]

/-- A function and a sensitivity that R154 lets an input have, every field in its range. -/
def InputFunction.allowed (f : InputFunction) (sens : Sensitivity) : Prop :=
  match f with
  | .none => True
  | .window k => (1 ≤ k ∧ k ≤ 16) ∧ (sens = .high ∨ sens = .low)
  | .inhibit | .boilerFault => sens = .high ∨ sens = .low
  | .boost k t m =>
    (1 ≤ k ∧ k ≤ 16) ∧ (-400 ≤ t ∧ t ≤ 1250) ∧ (1 ≤ m ∧ m ≤ 1440) ∧ (sens = .rise ∨ sens = .fall)

/-! ## SET requests that are accepted (R82, R145, R172, R173) -/

/-- The range of each setting of CHANNEL-SET, by field code: of a zone, or of channel W (R9, R16, R23, R35, R46, R50, R51,
R53, R59, R61, R63, R65); of the integral time, 1 to 9 excepted (R53). A level temperature's is frost to limit (R23). -/
def channelRanges (w : Bool) : List (Nat × Int × Int) :=
  if w then [(1, 0, 24), (2, 0, 3), (6, 50, 120), (10, 400, 750), (22, 0, 3), (23, 20, 200)]
  else [(1, 0, 24), (2, 0, 3), (3, 0, 1), (4, 5, 60), (5, 0, 240), (6, 50, 120), (10, 150, 300), (11, 0, 1), (12, 5, 30),
    (13, 5, 60), (14, 0, 32), (15, 5, 60), (16, 1, 10), (17, 5, 50), (18, 0, 240), (19, 0, 1000),
    (20, 0, 1000), (21, 0, 1000), (22, 0, 3)]

/-- The range of each setting of VALVE-SET, by field code (R82). -/
def valveRanges : List (Nat × Int × Int) :=
  [(1, 0, 3), (2, 1, 16), (3, 0, 1), (4, 0, 100), (5, 0, 100), (6, 0, 100), (7, 1, 10), (8, 30, 300)]

/-- The range of each setting of BOILER-SET, by field code (R145, R79, R116, R124, R162). -/
def boilerRanges : List (Nat × Int × Int) :=
  [(1, 0, 120), (2, 0, 15), (3, 0, 600), (4, 0, 30), (5, 50, 200), (6, -300, 0), (7, 300, 850), (8, 150, 250),
    (9, 200, 400), (10, 0, 100), (11, 50, 250), (12, 200, 400), (13, 400, 850), (14, 0, 100), (15, 1, 4), (16, 0, 143),
    (17, 1, 60)]

/-- Every pair lists a setting of these ranges with a value in its range, both ends included. -/
abbrev listsInRange (ranges : List (Nat × Int × Int)) (fields : List (Nat × Int)) : Prop :=
  ∀ f ∈ fields, ∃ r ∈ ranges, r.1 = f.1 ∧ r.2.1 ≤ f.2 ∧ f.2 ≤ r.2.2

/-! ## The move queue and the boiler controller at rest (R110 to R121) -/

/-- The entries of slot `v` in the queue, their DEFERRED marks aside (R112). -/
def State.queued (s : State) (v : Nat) : List Entry :=
  (s.arbiter.queue.filter (·.slot == v)).map fun e => { e with deferred := false }

/-- The arrival number of the next entry (R112). -/
def State.arrivalNext (s : State) : Nat := s.arbiter.arrivals % 4294967295 + 1

/-- Slot `v`'s entry in `t` is the one it had in `s` with the drive target `w` joined (R113). -/
abbrev State.driveJoined (s t : State) (v : Nat) (w : Wanted) : Prop :=
  (s.queued v = [] → ∃ n, t.queued v = [⟨v, .drive, w.target, w.cls, n, false⟩]) ∧
    ∀ e cls, s.queued v = [e] → cls = (if w.cls.code < e.cls.code then w.cls else e.cls) →
      t.queued v = [if e.op = .drive then { e with target := w.target, cls } else { e with cls }]

/-- The wanted target `w` of slot `v`, offered once between `s` and `t` to the head as it stands in `s` (R110): the
reference position is that of a READY head, or the in-flight target of a MOVING one. -/
abbrev State.offered (s t : State) (v : Nat) (w : Wanted) : Prop :=
  (∀ r, ((s.head v).state = .ready ∧ r = (s.head v).position ∨
      (s.head v).state = .moving ∧ ((s.head v).move.map (·.target)) = some r) →
    (w.target ≠ r ∧ (r + (s.valveCfg v).deadband ≤ w.target ∨ w.target + (s.valveCfg v).deadband ≤ r ∨ w.target = 0 ∨
        w.target = 100) →
      s.driveJoined t v w) ∧
    (w.target = r ∨ (w.target < r + (s.valveCfg v).deadband ∧ r < w.target + (s.valveCfg v).deadband ∧ w.target ≠ 0 ∧
        w.target ≠ 100) →
      t.queued v = (s.queued v).filter fun e => !(e.op == .drive && (e.cls == .safety || e.cls == .normal)))) ∧
    ((s.head v).state = .unknown ∨ (s.head v).state = .homing ∨ (s.head v).state = .stalled →
      (s.queued v = [] → t.queued v = []) ∧ (s.queued v ≠ [] → s.driveJoined t v w)) ∧
    ((s.head v).state = .absent → t.queued v = s.queued v)

/-- A gated closing (R121): the boiler is in a gated state, and the trial capacity lies below the capacity and below
the sink minimum. -/
abbrev State.gates (s : State) (e : Entry) : Prop :=
  (s.boiler.state = .lead ∨ s.boiler.state = .firing ∨ s.boiler.state = .overrun ∨
      s.boiler.state = .faulted ∧ s.boiler.pumpTimer ≠ none) ∧
    s.trialCapacity e < s.capacity ∧ s.trialCapacity e < s.sinkMinimum

/-- An entry may be granted (R117): link and supply OK, the head in a state that takes the operation, not an opening of
a deferred consumer (R120), no gated closing (R121). -/
abbrev State.mayRun (s : State) (e : Entry) : Prop :=
  (s.link.fault = false ∧ s.field.supplyOk = true) ∧
    ((s.head e.slot).state = .ready ∨
      e.op = .home ∧ ((s.head e.slot).state = .unknown ∨ (s.head e.slot).state = .stalled)) ∧
    ¬ (e.op = .drive ∧ s.committed e.slot < e.target ∧ s.consumerDeferred e.slot = true) ∧ ¬ s.gates e

/-- The entry stands in `s` and has been granted in `t` (R119, R92): no entry of its slot is left, its head is MOVING or
HOMING with its start and its in-flight target, and its command is pending or in flight. -/
abbrev State.granted (s t : State) (e : Entry) : Prop :=
  t.queued e.slot = [] ∧
    t.head e.slot = { s.head e.slot with
      state := if e.op = .drive then .moving else .homing
      move := some { start := (s.head e.slot).position, target := if e.op = .drive then e.target else 0,
                     accepted := false, timer := none, stroke := (s.valveCfg e.slot).stroke }
      retryDue := none } ∧
    ∃ c ∈ t.link.commands, c.slot = e.slot ∧ c.request = if e.op = .drive then .drive e.target else .home

/-- Slot `v`'s head, reported at `pos`, has been granted `op` in the event from `s` to `t`, the link and the supply being
OK (R92, R117, R119): its new move starts there and is not accepted, and its command is pending or in flight. -/
abbrev State.regranted (s t : State) (v pos : Nat) (op : MoveOp) : Prop :=
  s.link.fault = false ∧ s.field.supplyOk = true ∧
    (t.head v).state = (match op with | .drive => .moving | .home => .homing) ∧
    ∃ target, (op = .home → target = 0) ∧
      (t.head v).move =
        some { start := pos, target, accepted := false, timer := none, stroke := (s.valveCfg v).stroke } ∧
      ∃ c ∈ t.link.commands, c.slot = v ∧ c.request = match op with | .drive => .drive target | .home => .home

/-- A head that is STALLED, or UNKNOWN with nothing asked for, has been granted the HOME that waited for it in `s`
(R117). -/
abbrev State.homedAgain (s t : State) (v pos : Nat) : Prop :=
  s.regranted t v pos .home ∧ ∃ e ∈ s.arbiter.queue, e.slot = v ∧ e.op = .home

/-- The wanted target of a slot configured as `x`, from its cause as it stands in `s` (R107, R108, R109). -/
def State.wantedBy (s : State) (x : ValveCfg) : Option Wanted :=
  match x.role with
  | .unused => none
  | .zone k dump =>
    some (if s.boiler.heatDump && dump then ⟨100, .safety⟩ else ⟨regulatedTarget x (s.zone k).demand, .normal⟩)
  | .cylinder => some ⟨if (s.consumer 17).heatAvailable then 100 else 0, .normal⟩
  | .sink => some (if s.arbiter.sinkOpen then ⟨100, .safety⟩ else ⟨0, .normal⟩)

/-- No rule moves the boiler controller from where it stands, by the conditions of its state (R129, R131 to R140). -/
abbrev State.boilerStays (s : State) : Prop :=
  (s.faultInput = true ↔ s.boiler.state = .faulted) ∧
    (s.boiler.state = .idle → s.anyRequest = false ∨ s.held = true) ∧
    (s.boiler.state = .lead → s.anyRequest = true ∧ s.held = false ∧
      (s.sinkMinimum ≤ s.capacity ∨ s.arbiter.sinkOpen = true) ∧
      (s.boiler.leadTimer ≠ none ∨ s.boiler.leadHeld = true)) ∧
    (s.boiler.state = .firing → s.sinkMinimum ≤ s.capacity ∧ s.held = false ∧
      (s.anyRequest = true ↔ s.boiler.minOnHold = false)) ∧
    (s.boiler.state = .overrun → s.boiler.overrunTimer ≠ none)

/-! ## Flow setpoint and ramp across an event (R130, R149, R163) -/

/-- Flow setpoint and modulation target are those of the served set as it stands (R148, R149). -/
abbrev State.flowComputed (t : State) : Prop :=
  t.boiler.parts = t.flowParts ∧ t.boiler.flowSetpoint = t.flowParts.setpoint t.cfg.boiler ∧
    t.boiler.modulationTarget = (t.boiler.flowSetpoint - 200).toNat * 1000 / 700

/-- What the modulation target does to the output between `s` and `t` (R130, R163): in FIRING a changed target hands over
a ramp from the present output, or none where it equals the output, and a same one leaves the ramp that runs; outside
FIRING nothing is handed over. The output itself stays. -/
abbrev State.rampFollows (s t : State) : Prop :=
  (s.boiler.state = .firing → t.boiler.state = .firing →
    t.field.output = s.field.output ∧
    t.field.ramp =
      if t.boiler.modulationTarget = s.boiler.modulationTarget then s.field.ramp
      else if t.boiler.modulationTarget = s.field.output then none
      else some { start := s.field.output, target := t.boiler.modulationTarget, next := 1
                  timer := t.cfg.boiler.rampStep }) ∧
  (s.boiler.state ≠ .firing → t.boiler.state ≠ .firing →
    t.field.output = s.field.output ∧ t.field.ramp = s.field.ramp)

/-- Between `s` and `t` a change of the served level or the served set computed the flow setpoint afresh (R72, R149), and
the ramp followed the modulation target. -/
abbrev State.flowFollows (s t : State) : Prop :=
  (t.table.servedLevel ≠ s.table.servedLevel ∨ t.servedSet ≠ s.servedSet → t.flowComputed) ∧ s.rampFollows t

/-! ## Frames of the request commands (R165, R171) -/

/-- The bytes of a setting's value in this form. -/
def ValueForm.bytes : ValueForm → Int → List Byte
  | .byte, v => byteOf v.toNat
  | .word, v | .temp, v => wordOf v

/-- The values a form carries. -/
def ValueForm.carries : ValueForm → Int → Bool
  | .byte, v => 0 ≤ v && v ≤ 255
  | .word, v => 0 ≤ v && v ≤ 65535
  | .temp, v => -32768 ≤ v && v ≤ 32767

/-- The bytes of a list of pairs of field code and value. -/
def pairBytes (forms : Nat → Option ValueForm) (fs : List (Nat × Int)) : List Byte :=
  fs.flatMap fun f => byteOf f.1 ++ ((forms f.1).getD .byte).bytes f.2

/-- Every field code is one of the kind's settings, its value one that its form carries. -/
def pairsCarried (forms : Nat → Option ValueForm) (fs : List (Nat × Int)) : Bool :=
  fs.all fun f => fitsByte f.1 && (forms f.1).any (·.carries f.2)

/-- The bytes of a TABLE-WRITE record. -/
def recordBytesOf : TableRecord → List Byte
  | .point d w s l => byteOf d ++ byteOf w ++ byteOf s ++ byteOf l
  | .entry s n => byteOf s ++ byteOf n

/-- The payload of a request command (R171). -/
def payloadOf : Instr → List Byte
  | .clockSet _ m sec q => natWord m ++ byteOf sec ++ byteOf q
  | .channelSet _ c fs => byteOf c ++ pairBytes (fun n => (ChannelField.ofCode n).map (·.form)) fs
  | .channelGet _ c | .layerPop _ c => byteOf c
  | .roomTemp _ k t => byteOf k ++ wordOf t
  | .layerPush _ m k t d => bytesLow 3 m.toNat ++ byteOf k ++ wordOf t ++ natWord d
  | .layerClear _ m => bytesLow 3 m.toNat
  | .holdRelease _ c n => byteOf c ++ natWord n
  | .zonePark _ k | .zoneUnpark _ k => byteOf k
  | .valveSet _ v fs => byteOf v ++ pairBytes (fun n => (ValveField.ofCode n).map (·.form)) fs
  | .valveGet _ v | .valveHome _ v => byteOf v
  | .boilerSet _ fs => pairBytes (fun n => (BoilerField.ofCode n).map (·.form)) fs
  | .inputSet _ n a b z t m => byteOf n ++ byteOf a ++ byteOf b ++ optOf byteOf z ++ optOf wordOf t ++ optOf natWord m
  | .inputGet _ n clear => byteOf (n.getD 0) ++ optOf flagOf (some clear)
  | .attnMask _ items =>
    items.flatMap fun i => byteOf i.category ++ flagOf i.whole ++ objectsBytes (objectKind i.category) i.objects
  | .tableRead _ tag => byteOf tag
  | .tableWrite _ tag first rs => byteOf tag ++ byteOf first ++ rs.flatMap recordBytesOf
  | _ => []

/-- A well-formed request command whose lists have a form on the wire: known field codes, objects in the width of their
category, records of the table that is written. -/
def onWire (i : Instr) : Bool :=
  i.wf &&
    match i with
    | .channelSet _ _ fs => pairsCarried (fun n => (ChannelField.ofCode n).map (·.form)) fs
    | .valveSet _ _ fs => pairsCarried (fun n => (ValveField.ofCode n).map (·.form)) fs
    | .boilerSet _ fs => pairsCarried (fun n => (BoilerField.ofCode n).map (·.form)) fs
    | .attnMask _ items => items.all fun i => i.objects.toNat < 256 ^ (objectKind i.category).width
    | .tableWrite _ tag _ rs => rs.all (recordOfTag tag)
    | _ => true

/-! ## Invariants -/

/-- A stored set holds as many records of each kind as the part has (R188). -/
def Stored.shaped (x : Stored) : Bool :=
  x.channels.length == 17 && x.zones.length == 16 && x.pool.length == 256 && x.programs.length == 24
    && x.parks.length == 4 && x.valves.length == 32 && x.inputs.length == 4
    && x.masksMain.length == 16 && x.masksService.length == 16

/-- Every list of the state holds as many records as the part has (R12, R24, R45, R68, R84, R106, R155, R176, R188); those
of the image while it is VALID, for a write cut short leaves it part written (R189). -/
abbrev State.shaped (s : State) : Prop :=
  s.cfg.shaped = true ∧ (s.store.imageValid = true → s.store.image.shaped = true) ∧ s.store.writing.all Stored.shaped = true ∧
    s.claim.all (fun c => c.pool.length == 256 && c.programs.length == 24) = true ∧
    s.channels.length = 17 ∧ (∀ r ∈ s.channels, r.plan.length = 288) ∧
    s.zones.length = 16 ∧ s.table.entries.length = 17 ∧ s.heads.length = 32 ∧ s.arbiter.wanted.length = 32 ∧
    s.field.inputs.length = 4 ∧ ∀ p, (s.port p).attn.length = 16

/-- A receiver takes as many bytes as the length byte says, 1 to 200 (R165, R166). -/
def Receiver.inFrame : Receiver → Bool
  | .idle | .awaitLength => true
  | .building n bytes => (1 ≤ n && n ≤ 200) && bytes.length ≤ n

/-- A port's lists: the line is idle only with no frame waiting; at most one served reply is unsent, at most one BUSY
reply and one notice wait (R169); a notice waits only while some category is notifying (R178); the attention set has a
place for each category; the receiver is inside its frame (R166). -/
abbrev PortState.ordered (ps : PortState) : Prop :=
  (ps.tx.sending = none → ps.tx.queue = []) ∧
    ps.frames.countP TxFrame.isServed ≤ 1 ∧
    ps.tx.queue.countP TxFrame.isBusy ≤ 1 ∧
    ps.tx.queue.countP TxFrame.isNotice ≤ 1 ∧
    (ps.tx.queue.any TxFrame.isNotice = true → someNotifying ps.attn = true) ∧
    ps.attn.length = 16 ∧ ps.rx.inFrame = true

/-- Both ports are in order. -/
abbrev State.portsOrdered (s : State) : Prop := s.main.ordered ∧ s.service.ordered

/-- A stack of at most four layers, a WINDOW layer only on top (R24). -/
def stackOk (stack : List Layer) : Bool := stack.length ≤ 4 && stack.dropLast.all (·.kind != .window)

/-- A saved context of a zone holds at most four layers and no WINDOW layer (R40). -/
def Park.layersOk (x : Park) : Bool := x.layers.length ≤ 4 && x.layers.all (·.kind != .window)

/-- A window contact is configured for a zone (R154). -/
def InputCfg.contactOk (x : InputCfg) : Bool :=
  match x.function with
  | .window k => isZone k
  | .none | .inhibit | .boilerFault | .boost _ _ _ => true

/-- What of a stored set bears on the stacks (R37, R40). -/
def Stored.stacksOk (x : Stored) : Bool := x.parks.all (·.all Park.layersOk) && x.inputs.all InputCfg.contactOk

/-- Every stack holds at most four layers, a WINDOW layer only on top, W none (R24); the same of what may be loaded into
the stacks (R40). The regulator holds a record for no more than the sixteen zones (R45). -/
abbrev State.stacksOk (s : State) : Prop :=
  s.zones.length ≤ 16 ∧ (∀ r ∈ s.channels, stackOk r.stack = true) ∧ (∀ l ∈ (s.channel channelW).stack, l.kind ≠ .window) ∧
    s.cfg.stacksOk = true ∧ (s.store.imageValid = true → s.store.image.stacksOk = true) ∧
    s.store.writing.all Stored.stacksOk = true

/-- The heads that run never outnumber the motor allowance, and none runs while the supply is LOW or the link in FAULT
(R116). Before the first measurement the supply counts as LOW (R101). -/
abbrev State.movesBounded (s : State) : Prop :=
  s.unitsInUse ≤ s.cfg.boiler.motorAllowance ∧
    (s.field.supplyOk = false → s.unitsInUse = 0) ∧
    (s.link.fault = true → s.unitsInUse = 0) ∧
    (s.field.supplyLast = none → s.field.supplyOk = false)

/-- At most one entry for a slot, none for an UNUSED slot or an ABSENT head, and a HOME entry has target 0 (R112, R114); an
UNUSED slot has no wanted target (R106). -/
abbrev State.queueOk (s : State) : Prop :=
  (s.arbiter.queue.map (·.slot)).Nodup ∧
    (∀ e ∈ s.arbiter.queue, s.used e.slot = true ∧ (s.head e.slot).state ≠ .absent ∧ (e.op = .home → e.target = 0)) ∧
    ∀ v, s.used v = false → s.wantedOf v = none

/-- In `t` every slot of this role wants `w`, offered once since `s` (R106, R110; shown with the supply LOW). -/
abbrev State.roleWants (s t : State) (role : Role) (w : Wanted) : Prop :=
  ∀ n, 1 ≤ n → n ≤ 32 → (s.valveCfg n).role = role →
    t.wantedOf n = some w ∧ (s.field.supplyOk = false → s.queueOk → s.offered t n w)

/-- The burner relay is closed exactly in FIRING; the output is 0 and no ramp runs in every other state (R130, R164). A
lead expiry is held in LEAD only (R128). -/
abbrev State.burnerFollows (s : State) : Prop :=
  (s.field.burner = true ↔ s.boiler.state = .firing) ∧
    (s.boiler.state ≠ .firing → s.field.output = 0 ∧ s.field.ramp = none) ∧
    (s.boiler.leadHeld = true → s.boiler.state = .lead)

/-- The pump relay is on exactly while a pump reason holds (R144); an acting WARM reset has opened it. -/
abbrev State.pumpFollows (s : State) : Prop := s.acting = none → s.field.pump = s.pumpCalled

/-- Served level, deferred flags and heat-available flags are those of the requests that stand (R70, R71). -/
abbrev State.tableFollows (s : State) : Prop := s.acting = none → s.table = s.table.judged s.boiler.state.warm

/-- The boiler controller is never in LEAD or FIRING with a blocker present (R129). -/
abbrev State.neverBlocked (s : State) : Prop :=
  s.boiler.state = .lead ∨ s.boiler.state = .firing → s.blocked = false

/-- In FIRING the committed capacity is at least the sink minimum (R137). -/
abbrev State.pathOpen (s : State) : Prop := s.boiler.state = .firing → s.sinkMinimum ≤ s.capacity

/-! ## Settings in range (R172) -/

/-- A channel's configuration is in range (R9, R23, R63, R65); `w` says that it is W's. -/
def ChannelCfg.inRange (w : Bool) (c : ChannelCfg) : Bool :=
  c.program ≤ 24 && (50 ≤ c.frost && c.frost ≤ 120)
    && (if w then 400 ≤ c.limit && c.limit ≤ 750 else 150 ≤ c.limit && c.limit ≤ 300)
    && c.admits c.setback && c.admits c.eco && c.admits c.comfort && c.priority ≤ 3

/-- A zone's configuration is in range (R16, R35, R46, R50, R51, R53, R59, R61). -/
def ZoneCfg.inRange (z : ZoneCfg) : Bool :=
  (5 ≤ z.rate && z.rate ≤ 60) && z.preheatLimit ≤ 240 && (5 ≤ z.dropThreshold && z.dropThreshold ≤ 30)
    && (5 ≤ z.windowTime && z.windowTime ≤ 60) && z.source.all (fun n => 1 ≤ n && n ≤ 32)
    && (5 ≤ z.staleLimit && z.staleLimit ≤ 60) && (1 ≤ z.period && z.period ≤ 10) && (5 ≤ z.band && z.band ≤ 50)
    && (z.integralTime == 0 || (10 ≤ z.integralTime && z.integralTime ≤ 240))
    && z.fallback ≤ 1000 && z.requestAt ≤ 1000 && z.releaseAt ≤ z.requestAt

/-- A valve slot's configuration is in range (R82). -/
def ValveCfg.inRange (x : ValveCfg) : Bool :=
  (match x.role with
    | .zone k _ => isZone k
    | .unused | .cylinder | .sink => true)
    && x.weight ≤ 100 && x.liftMin < x.liftMax && x.liftMax ≤ 100 && (1 ≤ x.deadband && x.deadband ≤ 10)
    && (30 ≤ x.stroke && x.stroke ≤ 300)

/-- The settings of BOILER-SET are in range (R145, R79, R116, R124, R162). -/
def BoilerCfg.inRange (b : BoilerCfg) : Bool :=
  b.leadTime ≤ 120 && b.minOn ≤ 15 && b.overrunTime ≤ 600 && b.minOff ≤ 30
    && (50 ≤ b.highLimitDelta && b.highLimitDelta ≤ 200) && (-300 ≤ b.designOutdoor && b.designOutdoor ≤ 0)
    && (300 ≤ b.designFlow && b.designFlow ≤ 850) && (150 ≤ b.neutralOutdoor && b.neutralOutdoor ≤ 250)
    && (200 ≤ b.baseFlow && b.baseFlow ≤ 400) && b.shift ≤ 100 && (50 ≤ b.flowDelta && b.flowDelta ≤ 250)
    && (200 ≤ b.flowMin && b.flowMin ≤ 400) && (400 ≤ b.flowMax && b.flowMax ≤ 850) && b.sinkMinimum ≤ 100
    && (1 ≤ b.motorAllowance && b.motorAllowance ≤ 4) && b.exerciseSlot ≤ 143 && (1 ≤ b.rampStep && b.rampStep ≤ 60)
    && b.consistent

/-- An input's configuration is in range (R154). -/
def InputCfg.inRange (x : InputCfg) : Bool :=
  sensitivityFits x.function x.sensitivity &&
    match x.function with
    | .window k => isZone k
    | .boost k t m => isZone k && inMeasuringRange t && (1 ≤ m && m ≤ 1440)
    | .none | .inhibit | .boilerFault => true

/-- A park slot's context is in range (R40). -/
def Park.inRange (x : Park) : Bool :=
  isZone x.zone && x.layers.length ≤ 4 && x.layers.all (·.kind != .window) && x.integrator ≤ 1000
    && (5 ≤ x.rate && x.rate ≤ 60) && x.priority ≤ 3

/-- Pool records and program entries hold representable values (R8, R9, R185). -/
def tablesInRange (pool : List SwitchPoint) (programs : List ProgramEntry) : Bool :=
  pool.length == 256 && programs.length == 24 && pool.all (·.slot ≤ 143)
    && programs.all fun e => e.start ≤ 255 && e.length ≤ 32

/-- A stored set with every value in its range, its programs valid by R10 (R172). -/
def Stored.inRange (x : Stored) : Bool :=
  x.channels.length == 17 && (x.channels.take 16).all (ChannelCfg.inRange false)
    && (x.channels.drop 16).all (ChannelCfg.inRange true)
    && x.zones.length == 16 && x.zones.all ZoneCfg.inRange && (20 ≤ x.differential && x.differential ≤ 200)
    && tablesInRange x.pool x.programs && (invalidProgram x.pool x.programs).isNone
    && x.parks.length == 4 && x.parks.all (·.all Park.inRange)
    && x.valves.length == 32 && x.valves.all ValveCfg.inRange && x.boiler.inRange
    && x.inputs.length == 4 && x.inputs.all InputCfg.inRange

/-- The live set, the image while it is VALID, the snapshot being written and the staging copy are in range; so is what
parking saves of a zone: its stack and its integrator (R172). A part-written image holds no stored set (R189). -/
abbrev State.settingsInRange (s : State) : Prop :=
  s.cfg.inRange = true ∧ (s.store.imageValid = true → s.store.image.inRange = true) ∧
    s.store.writing.all Stored.inRange = true ∧
    s.claim.all (fun c => tablesInRange c.pool c.programs) = true ∧
    (∀ r ∈ s.channels, r.stack.length ≤ 4) ∧ ∀ z ∈ s.zones, z.integrator ≤ 1000

/-- The settings are in range, and so are flow setpoint, modulation target (R128) and modulation output with its ramp
(R162). -/
abbrev State.flowInRange (s : State) : Prop :=
  s.settingsInRange ∧ (200 ≤ s.boiler.flowSetpoint ∧ s.boiler.flowSetpoint ≤ 850) ∧ s.boiler.modulationTarget ≤ 928 ∧
    s.field.output ≤ 1000 ∧
    s.field.ramp.all (fun r => r.start ≤ 1000 && r.target ≤ 1000 && (1 ≤ r.next && r.next ≤ 16)) = true

end Sys2Proof.Machine
end

