-- ==== Sys2Proof/Certificates/Slice0/Obligations.lean ====
section
/-! DEFINITION. The statements about the model, for the provers: `def Obligations.<Name> : Prop`. Each says that a command
answers a next state under conditions on the state and the operands alone, and what that state is; what a statement
does not name stays as it was. -/

open Sys2Proof Sys2Proof.Machine

/-! ## The queue of commands -/

/-- A step is the command at the front of the queue, run on the state with the queue's rest; with an empty queue the
state stays (the model's choice, log 1). -/
def Obligations.StepTakesTheFrontCommand : Prop :=
  (∀ (c : Instr) (rest : List Instr) (s : State),
      step { s with pending := c :: rest } = exec c { s with pending := rest }) ∧
    ∀ s : State, s.pending = [] → step s = .next s

/-- Every command answers a next state, and leaves the queue of waiting commands alone. While a WARM reset acts every
event but the second tick, the ends of its stops, its completion and a COLD reset leaves the state as it is (R104);
that an overcurrent does so too is the model's choice (log 38). -/
def Obligations.CommandsAnswerAndAnActingResetHoldsThem : Prop :=
  (∀ (c : Instr) (s : State), ∃ t, exec c s = .next t ∧ t.pending = s.pending) ∧
  (∀ (c : Instr) (s : State), s.acting ≠ none →
    c ≠ .coldReset → c ≠ .warmResetComplete → c ≠ .warmResetStopEnd → c ≠ .secondTick → exec c s = .next s)

/-! ## Resets -/

/-- A COLD reset, whatever the part was doing: every block as 11.5 gathers it (R192). That a part whose min-off is 0
stands in IDLE after the event is R139 read with the reset (log 22). A write that the reset cuts short leaves the image
INVALID with a check value that fails (R189); that IDENT's verdict stood until then is log 7, what the part-written
image holds is free (log 43). That the owed notice is being sent at the event's end, with every category raised in the
event in its word, is log 15 (DEDUCED); what a preheat record holds in IDLE is the model's choice (log 35). -/
def Obligations.ColdResetStartsEveryBlock : Prop :=
  ∀ s : State, ∃ t, exec .coldReset s = .next t ∧ s.Restarted t true

/-- A WARM reset completes once its stops have ended, with the state of a COLD reset but for the clock, which it keeps
(R104, R7). That the second ticks of an elapsed minute count from 0 again is the model's choice (log 16); that a part
whose min-off is 0 stands in IDLE after the event is R139 read with the reset (log 22); that WARM_RESET_COMPLETE does
nothing before is the model's choice (log 2). The image's verdict is log 7's, and what a write cut short leaves in the
image is free but for a check value that fails (R189, log 43). That the owed notice is being sent at the event's end,
with every category raised in the event in its word, is log 15 (DEDUCED); what a preheat record holds in IDLE is the
model's choice (log 35). -/
def Obligations.WarmResetCompletesKeepingTheClock : Prop :=
  ∀ s : State,
    (s.acting = some [] → s.link.transaction = none →
      ∃ t, exec .warmResetComplete s = .next t ∧ s.Restarted t false) ∧
    (s.acting ≠ some [] ∨ s.link.transaction ≠ none → exec .warmResetComplete s = .next s)

/-- The last byte of the RESTART's reply makes the WARM reset act: relays and output off, transmit lists empty, a
running store write stopped, a STOP for every MOVING or HOMING head in slot order, none with the link in FAULT (R175,
R104, R130, R161, R189). The boiler's record at REST meanwhile is the model's choice (log 16), and so is a wall minute
that is due then, which the wall clock takes with it (log 3); nothing else changes. The stopped write leaves the image
INVALID with a check value that fails (R189), the verdict being log 7's and the rest of the part-written image free
(log 43). The STOPs of an acting WARM reset follow one another in slot order, none repeated; after the last no
transaction is in flight (R104). -/
def Obligations.WarmResetActsAndSendsItsStops : Prop :=
  (∀ (p : Port) (f : TxFrame) (s : State),
    (s.port p).tx.sending = some f → f.isRestartDone = true → s.restartPending = true → s.acting = none →
      ∃ t, exec (.frameSent p) s = .next t ∧
        t = { s with clock := t.clock, field := t.field, boiler := t.boiler, store := t.store, main := t.main,
                     service := t.service, link := t.link, acting := t.acting } ∧
        t.clock = (if s.clock.wallDue then s.clock.wallMinute else s.clock) ∧
        t.field = { s.field with burner := false, pump := false, output := 0, ramp := none } ∧
        t.boiler = { s.boiler.cleared with state := .rest } ∧
        s.writeStopped t ∧
        (∀ q, t.port q = { s.port q with rx := .idle, tx := { sending := none, queue := [] } }) ∧
        (s.link.fault = true → t.acting = some [] ∧ t.link = { s.link with transaction := none, commands := [] }) ∧
        (s.link.fault = false →
          t.acting = some s.runningSlots.tail ∧
          t.link = { s.link with transaction := s.runningSlots.head?.map (⟨·, .stop⟩), commands := [] })) ∧
  (∀ (v : Nat) (rest : List Nat) (s : State), s.link.transaction ≠ none →
    (s.acting = some (v :: rest) →
      exec .warmResetStopEnd s =
        .next { s with link := { s.link with transaction := some ⟨v, .stop⟩ }, acting := some rest }) ∧
    (s.acting = some [] →
      exec .warmResetStopEnd s = .next { s with link := { s.link with transaction := none } }))

/-! ## Time -/

/-- A second tick counts the wall seconds, the seconds of the elapsed minute and every timer in seconds, and makes the
samples of every tenth tick due; nothing else (R1, R2, R3, R151). That the minutes and expiries it brings are commands
of their own, and that minutes still due are taken before the next tick, the elapsed minute before the wall minute, is
the model's choice (log 3). While a WARM reset acts the wall clock alone runs on (R104). -/
def Obligations.SecondTickCountsEveryTimer : Prop :=
  ∀ s : State,
    (s.acting = none → s.clock.wallDue = false → s.clock.elapsedDue = false →
      exec .secondTick s = .next { s with
        clock := { s.clock with
          wallSeconds := if s.clock.wallSeconds < 59 then s.clock.wallSeconds + 1 else s.clock.wallSeconds
          wallDue := !decide (s.clock.wallSeconds < 59)
          tickCount := if s.clock.tickCount < 59 then s.clock.tickCount + 1 else 0
          elapsedDue := !decide (s.clock.tickCount < 59) }
        heads := s.heads.map fun h => { h with move := h.move.map fun m => { m with timer := m.timer.map (· - 1) } }
        boiler := { s.boiler with
          leadTimer := s.boiler.leadTimer.map (· - 1)
          overrunTimer := s.boiler.overrunTimer.map (· - 1)
          pumpTimer := s.boiler.pumpTimer.map (· - 1) }
        claim := s.claim.map fun c => { c with lapse := c.lapse - 1 }
        field := { s.field with
          ramp := s.field.ramp.map fun r => { r with timer := r.timer - 1 }
          samplePhase := (s.field.samplePhase + 1) % 10
          flow := { s.field.flow with due := s.field.flow.due || (s.field.samplePhase + 1) % 10 == 1 }
          outdoor := { s.field.outdoor with due := s.field.outdoor.due || (s.field.samplePhase + 1) % 10 == 1 }
          cylinder := { s.field.cylinder with due := s.field.cylinder.due || (s.field.samplePhase + 1) % 10 == 1 } } }) ∧
    (s.acting = none → runAll [.secondTick] s = runAll [.elapsedMinute, .wallMinute, .secondTick] s) ∧
    (s.acting ≠ none →
      exec .secondTick s = .next { s with clock :=
        if s.clock.wallSeconds < 59 then { s.clock with wallSeconds := s.clock.wallSeconds + 1 }
        else s.clock.wallMinute })

/-- A wall minute advances the minute of week and changes the parity at a Monday rollover (R1). At a midnight
tomorrow's half of a plan becomes today's and a new tomorrow is compiled (R14); at a slot boundary a changed base level
ends the UNTIL-NEXT layers (R29), and the rise of an EARLY preheat takes it to WATCH, or to IDLE when learning is done
(R18); what the record holds in IDLE is log 35's. Off a slot boundary nothing but the clock changes. At the exercise
slot, with the boiler in IDLE or REST and staying there, every slot in use whose head is READY, has no entry and has
not moved for 10 080 minutes gets a DRIVE to 100 of class EXERCISE, V1 first, and waits for it or moves; in the other
states no entry is made (R124, R112). With the supply LOW, where no grant follows, the queue is the old one and these
entries behind it. -/
def Obligations.WallMinuteMovesTheWeek : Prop :=
  (∀ s : State, s.acting = none → s.clock.wallDue = true → s.shaped →
    ∃ t, exec .wallMinute s = .next t ∧
      t.clock = { s.clock with
        wallSeconds := 0, wallDue := false
        minuteOfWeek := if s.clock.minuteOfWeek = 10079 then 0 else s.clock.minuteOfWeek + 1
        parity := if s.clock.minuteOfWeek = 10079 then s.clock.parity.other else s.clock.parity } ∧
      (t.clock.minuteOfDay % 10 ≠ 0 → t = { s with clock := t.clock, main := t.main, service := t.service }) ∧
      (t.clock.minuteOfDay % 10 = 0 →
        (∀ c, 1 ≤ c → c ≤ 17 →
          (t.channel c).plan =
            (if t.clock.minuteOfDay = 0 then
              (s.channel c).plan.drop 144 ++ (List.range 144).map
                (t.entryLevel c (dayAfter t.clock.day t.clock.parity).1 (dayAfter t.clock.day t.clock.parity).2)
            else (s.channel c).plan) ∧
          (t.channel c).stack =
            if t.baseLevel c = s.baseLevel c then (s.channel c).stack
            else (s.channel c).stack.filter (·.kind != .untilNext)) ∧
        ∀ k, 1 ≤ k → k ≤ 16 → t.zone k = { s.zone k with
          preheat := match (s.zone k).preheat with
            | .early run =>
              if run.riseMinute ≠ t.clock.minuteOfWeek then .early run
              else if run.learningDone then .idle { run with spoiled := false, learningDone := false }
              else .watch run s.clock.elapsed
            | p => p }) ∧
      t = { s with clock := t.clock, channels := t.channels, zones := t.zones, arbiter := t.arbiter, heads := t.heads,
                   link := t.link, boiler := t.boiler, table := t.table, field := t.field, main := t.main,
                   service := t.service } ∧
      (t.clock.slot ≠ s.cfg.boiler.exerciseSlot →
        t = { s with clock := t.clock, channels := t.channels, zones := t.zones, main := t.main,
                     service := t.service } ∧ s.portsKept t [])) ∧
  (∀ (due : List Nat) (s : State), s.acting = none → s.clock.wallDue = true → s.shaped → s.boilerStays →
    s.clock.wallMinute.minuteOfDay = 10 * s.cfg.boiler.exerciseSlot → s.arbiter.arrivals ≤ 4294967295 →
    due = (if s.boiler.state = .idle ∨ s.boiler.state = .rest then
        slotNumbers.filter fun v => s.used v && (s.head v).state == .ready && (s.queued v).isEmpty &&
          decide (10080 ≤ (s.clock.elapsed - (s.head v).lastMoved).toNat)
      else []) →
    ∃ t, exec .wallMinute s = .next t ∧
      (∀ v ∈ due, (∃ e ∈ t.queued v, e.op = .drive ∧ e.target = 100 ∧ e.cls = .exercise) ∨
        (t.head v).state = .moving ∧ ((t.head v).move.map (·.target)) = some 100) ∧
      (s.field.supplyOk = false →
        t.arbiter.queue.map (fun e => { e with deferred := false }) =
          s.arbiter.queue.map (fun e => { e with deferred := false }) ++
            due.mapIdx fun i v => ⟨v, .drive, 100, .exercise, (s.arbiter.arrivals + i) % 4294967295 + 1, false⟩))

/-- An elapsed minute advances the counter, which returns to 0 after its top value (R2), takes a minute off every layer
with remaining minutes (R28), and makes the passes due whose period falls on the new value (R51); nothing else. That a
layer at 0 leaves the stack, and that a due pass is taken, in a command of its own is the model's choice (log 3). -/
def Obligations.ElapsedMinuteCountsLayersAndPasses : Prop :=
  ∀ s : State, s.acting = none → s.clock.elapsedDue = true → s.shaped →
    ∃ t, exec .elapsedMinute s = .next t ∧
      t = { s with clock := t.clock, channels := t.channels, zones := t.zones, main := t.main, service := t.service } ∧
      s.portsKept t [] ∧
      t.clock = { s.clock with elapsed := s.clock.elapsed + 1, elapsedDue := false } ∧
      (∀ c, (t.channel c).plan = (s.channel c).plan ∧
        (t.channel c).stack = (s.channel c).stack.map fun l => { l with remaining := l.remaining.map (· - 1) }) ∧
      ∀ k, 1 ≤ k → k ≤ 16 → t.zone k = { s.zone k with
        passDue := (s.zone k).passDue || t.clock.elapsed.toNat % (s.zoneCfg k).period == k % (s.zoneCfg k).period }

/-- A layer whose minutes have run out leaves its stack, the others stay (R28); a WATCH that has lasted 60 minutes
returns to IDLE without learning (R18), its fields there being log 35's. Nothing else changes. -/
def Obligations.ExpiredLayersAndWatchesEnd : Prop :=
  (∀ (c : Nat) (s : State), s.acting = none →
    ∃ t, exec (.layerExpiry c) s = .next t ∧
      t = { s with channels := t.channels, main := t.main, service := t.service } ∧ s.portsKept t [] ∧
      (t.channel c).plan = (s.channel c).plan ∧
      (t.channel c).stack = (s.channel c).stack.filter (·.remaining != some 0) ∧
      ∀ d, d ≠ c → t.channel d = s.channel d) ∧
  (∀ (k : Nat) (run : PreheatRun) (rise : Elapsed) (s : State), s.acting = none →
    (s.zone k).preheat = .watch run rise → 60 ≤ (s.clock.elapsed - rise).toNat →
      ∃ t, exec (.watchEnd k) s = .next t ∧
        t = { s with zones := t.zones, main := t.main, service := t.service } ∧ s.portsKept t [] ∧
        t.zone k = { s.zone k with preheat := .idle { run with spoiled := false, learningDone := false } } ∧
        ∀ j, j ≠ k → t.zone j = s.zone j)

/-- The compiler (R13): the latest record at or before the slot; else the latest record of the nearest of the 14 days
before that has one; else the default level. A run with an acting record never takes the default. -/
def Obligations.PlanEntryTakesTheLatestPoint : Prop :=
  ∀ (run : List SwitchPoint) (dflt : Level) (day : Nat) (q : Parity) (slot : Nat),
    (∀ p ∈ run, p.acts day q = true → p.slot ≤ slot →
      ∃ r ∈ run, r.acts day q = true ∧ r.slot ≤ slot ∧
        (∀ x ∈ run, x.acts day q = true → x.slot ≤ slot → x.slot ≤ r.slot) ∧
        compileEntry run dflt day q slot = r.level) ∧
    ((∀ p ∈ run, p.slot ≤ 143) → (∀ p ∈ run, p.acts day q = true → slot < p.slot) →
      (∀ n < 14,
        (∀ j < n, ∀ p ∈ run, p.acts (daysBack (j + 1) day q).1 (daysBack (j + 1) day q).2 = false) →
        ∀ p ∈ run, p.acts (daysBack (n + 1) day q).1 (daysBack (n + 1) day q).2 = true →
          ∃ r ∈ run, r.acts (daysBack (n + 1) day q).1 (daysBack (n + 1) day q).2 = true ∧
            (∀ x ∈ run, x.acts (daysBack (n + 1) day q).1 (daysBack (n + 1) day q).2 = true → x.slot ≤ r.slot) ∧
            compileEntry run dflt day q slot = r.level) ∧
      ((∀ j < 14, ∀ p ∈ run, p.acts (daysBack (j + 1) day q).1 (daysBack (j + 1) day q).2 = false) →
        compileEntry run dflt day q slot = dflt)) ∧
    ((∃ p ∈ run, p.days ≠ 0) → (∀ p ∈ run, p.slot ≤ 143) → day < 7 →
      ∀ other, compileEntry run dflt day q slot = compileEntry run other day q slot)

/-! ## Clock requests -/

/-- An accepted CLOCK-SET writes the clock and sets its flag, recompiles every plan, abandons every preheat and answers
DONE; a value out of range is refused RANGE and changes nothing (R5). That it cancels a wall minute that is due is the
model's choice (log 3), and so is what an abandoned record holds in IDLE (log 35). -/
def Obligations.ClockSetRecompilesAndAbandons : Prop :=
  ∀ (p : Port) (minute seconds code : Nat) (s : State), s.takes p →
    (∀ q, minute ≤ 10079 → seconds ≤ 59 → Parity.ofCode code = some q → s.shaped →
      ∃ t, exec (.clockSet p minute seconds code) s = .next t ∧ s.replied t p 0x01 (.done {} []) [] ∧
        t = { s with clock := t.clock, channels := t.channels, zones := t.zones, claim := s.keptAlive p,
                     main := t.main, service := t.service } ∧
        t.clock = { s.clock with minuteOfWeek := minute, wallSeconds := seconds, parity := q, clockSet := true,
                                 wallDue := false } ∧
        (∀ c, 1 ≤ c → c ≤ 17 → t.planCompiled c ∧ (t.channel c).stack = (s.channel c).stack) ∧
        ∀ k, 1 ≤ k → k ≤ 16 → t.zone k = { s.zone k with
          preheat := match (s.zone k).preheat with
            | .idle run => .idle run
            | .early run | .watch run _ => .idle { run with spoiled := false, learningDone := false } }) ∧
    (10079 < minute ∨ 59 < seconds ∨ 1 < code →
      refusesWith (.clockSet p minute seconds code) p 0x01 (.refused .range) s)

/-- CLOCK-GET is answered DONE with minute of week, seconds, parity, clock-set flag and elapsed minutes, and changes
nothing (R6). -/
def Obligations.ClockGetReportsTheClock : Prop :=
  ∀ (p : Port) (s : State), s.takes p →
    ∃ t, exec (.clockGet p) s = .next t ∧
      s.replied t p 0x02
        (.done {} (bytesLow 2 s.clock.minuteOfWeek ++ bytesLow 1 s.clock.wallSeconds ++ [if s.clock.parity = .a then 0 else 1]
          ++ [if s.clock.clockSet then 1 else 0] ++ bytesLow 4 s.clock.elapsed.toNat)) [] ∧
      s.onlyReplied t p

/-! ## Channels, layers, parking -/

/-- The configuration, plan, preheat and reading that an accepted CHANNEL-SET leaves, other channels untouched; a
changed priority reaches the consumer table (R173, R14, R19, R46, R63, R66), and with it the flow setpoint and the ramp
(R72, R149, R163). The draft is judged by R173's field rules: field code by field code it holds the value the request
lists, or the one the channel held (R171). A request is accepted that lists each setting of the channel at most once,
each value within its range, both ends included, and leaves every level temperature within frost to limit and the
release threshold not above the request threshold; of a parked zone, one that leaves rate and priority (R42). What an
abandoned preheat holds in IDLE is the model's choice (log 35). -/
def Obligations.ChannelSetWritesTheDraft : Prop :=
  (∀ (p : Port) (c : Nat) (fields : List (Nat × Int)) (d : ChannelDraft) (s : State), s.takes p → s.storeWriting = false →
    s.shaped → 1 ≤ c → c ≤ 17 → s.channelDraft c fields = some d →
    (s.parked c = true → d.zone.rate = (s.zoneCfg c).rate ∧ d.channel.priority = (s.channelCfg c).priority) →
      ∃ t, exec (.channelSet p c fields) s = .next t ∧
        s.replied t p 0x10 (.done {} []) [.boiler, .capacity, .sink] ∧
        t = { s with cfg := t.cfg, channels := t.channels, zones := t.zones, table := t.table, heads := t.heads,
                     link := t.link, arbiter := t.arbiter, boiler := t.boiler, field := t.field,
                     claim := s.keptAlive p, main := t.main, service := t.service } ∧
        t.cfg = { s.cfg with channels := t.cfg.channels, zones := t.cfg.zones, differential := t.cfg.differential } ∧
        t.channelCfg c = d.channel ∧ (c ≤ 16 → t.zoneCfg c = d.zone ∧ t.cfg.differential = s.cfg.differential) ∧
        (c = 17 → t.cfg.differential = d.differential ∧ t.cfg.zones = s.cfg.zones) ∧
        (∀ e, e ≠ c → t.channelCfg e = s.channelCfg e ∧ t.zoneCfg e = s.zoneCfg e ∧ t.channel e = s.channel e ∧
          t.zone e = s.zone e) ∧
        (t.channel c).stack = (s.channel c).stack ∧
        (if d.channel.program = (s.channelCfg c).program ∧ d.channel.defaultLevel = (s.channelCfg c).defaultLevel then
          (t.channel c).plan = (s.channel c).plan
        else t.planCompiled c) ∧
        (c ≤ 16 → t.zone c = { s.zone c with
          preheat :=
            if d.channel.program = (s.channelCfg c).program ∧ d.channel.defaultLevel = (s.channelCfg c).defaultLevel
              ∧ d.zone.preheatEnable = true then (s.zone c).preheat
            else (s.zone c).preheat.ended
          reading := if d.zone.source = (s.zoneCfg c).source then (s.zone c).reading else none }) ∧
        (s.tableFollows → s.flowFollows t) ∧
        (if d.channel.priority = (s.channelCfg c).priority then
          t = { s with cfg := t.cfg, channels := t.channels, zones := t.zones, claim := s.keptAlive p, main := t.main,
                       service := t.service }
        else (t.consumer c).level = (if c = 17 then t.wRequestLevel else t.zoneRequest c) ∧
          ((t.consumer c).requesting = true ↔ (t.consumer c).level ≠ 0))) ∧
  (∀ (c : Nat) (fields : List (Nat × Int)) (d : ChannelDraft) (s : State), s.channelDraft c fields = some d →
    ∀ code, 1 ≤ code → code ≤ 23 →
      d.values.getD (code - 1) 0 = listed fields code ((s.draft c).values.getD (code - 1) 0)) ∧
  (∀ (p : Port) (c : Nat) (fields : List (Nat × Int)) (frost limit : Int) (s : State),
    s.takes p → s.storeWriting = false → s.shaped → 1 ≤ c → c ≤ 17 → (fields.map (·.1)).Nodup →
    frost = listed fields 6 (s.channelCfg c).frost → limit = listed fields 10 (s.channelCfg c).limit →
    listsInRange (channelRanges (c == 17) ++ [7, 8, 9].map (·, frost, limit)) fields →
    (∀ f ∈ fields, f.1 = 18 → f.2 = 0 ∨ 10 ≤ f.2) →
    (∀ x ∈ [listed fields 7 (s.channelCfg c).setback, listed fields 8 (s.channelCfg c).eco,
        listed fields 9 (s.channelCfg c).comfort], frost ≤ x ∧ x ≤ limit) →
    (c ≤ 16 → listed fields 21 (s.zoneCfg c).releaseAt ≤ listed fields 20 (s.zoneCfg c).requestAt) →
    (s.parked c = true →
      listed fields 4 (s.zoneCfg c).rate = (s.zoneCfg c).rate ∧
        listed fields 22 (s.channelCfg c).priority = (s.channelCfg c).priority) →
      (∃ d, s.channelDraft c fields = some d) ∧
        ∃ t, exec (.channelSet p c fields) s = .next t ∧
          s.replied t p 0x10 (.done {} []) [.boiler, .capacity, .sink])

/-- A SET request that lists a value outside its setting's range is refused RANGE, whatever else it lists, and changes
nothing (R172, R9, R16, R23, R35, R46, R50, R51, R53, R59, R61, R63, R65, R82, R145, R79, R116, R124, R162). So is one
that would leave a level temperature outside frost to limit (R23), a release threshold above the request threshold
(R61), an integral time of 1 to 9 (R53), a lift min not below lift max, a zone or a dump flag beside another role, a
ZONE without a zone (R82), a base flow not below design flow, a flow min above flow max (R145); one that repeats a code
of a channel or lists a setting the channel has not (R173); one with an unknown field code, a store write in progress
or not (R168); and CHANNEL-SET, VALVE-SET, LAYER-POP and HOLD-RELEASE of a number of no channel or slot (R31, R30). A
parked zone's rate and priority are refused STATE (R42). -/
def Obligations.ValuesOutsideTheirRangesAreRefused : Prop :=
  (∀ (p : Port) (n code : Nat) (v lo hi : Int) (fields : List (Nat × Int)) (s : State),
    s.takes p → s.storeWriting = false → (code, v) ∈ fields → v < lo ∨ hi < v →
    (1 ≤ n → n ≤ 16 →
      (code, lo, hi) ∈ channelRanges false →
      refusesWith (.channelSet p n fields) p 0x10 (.refused .range) s) ∧
    ((code, lo, hi) ∈ channelRanges true →
      refusesWith (.channelSet p 17 fields) p 0x10 (.refused .range) s) ∧
    (1 ≤ n → n ≤ 32 →
      (code, lo, hi) ∈ valveRanges →
      refusesWith (.valveSet p n fields) p 0x20 (.refused .range) s) ∧
    ((code, lo, hi) ∈ boilerRanges →
      refusesWith (.boilerSet p fields) p 0x30 (.refused .range) s)) ∧
  (∀ (p : Port) (n : Nat) (fields : List (Nat × Int)) (s : State), s.takes p → s.storeWriting = false →
    (1 ≤ n → n ≤ 17 →
      (∀ code v, (code, v) ∈ [(7, (s.channelCfg n).setback), (8, (s.channelCfg n).eco), (9, (s.channelCfg n).comfort)] →
        listed fields code v < listed fields 6 (s.channelCfg n).frost ∨
          listed fields 10 (s.channelCfg n).limit < listed fields code v →
        refusesWith (.channelSet p n fields) p 0x10 (.refused .range) s) ∧
      (¬ (fields.map (·.1)).Nodup → refusesWith (.channelSet p n fields) p 0x10 (.refused .range) s) ∧
      (∀ d, s.parked n = true → s.channelDraft n fields = some d →
        d.zone.rate ≠ (s.zoneCfg n).rate ∨ d.channel.priority ≠ (s.channelCfg n).priority →
        refusesWith (.channelSet p n fields) p 0x10 (.refused .state) s)) ∧
    (1 ≤ n → n ≤ 16 →
      listed fields 20 (s.zoneCfg n).requestAt < listed fields 21 (s.zoneCfg n).releaseAt ∨
        (∃ f ∈ fields, f.1 = 23 ∨ f.1 = 18 ∧ 1 ≤ f.2 ∧ f.2 ≤ 9) →
      refusesWith (.channelSet p n fields) p 0x10 (.refused .range) s) ∧
    ((∃ f ∈ fields, f.1 ∈ [3, 4, 5, 11, 12, 13, 14, 15, 16, 17, 18, 19, 20, 21]) →
      refusesWith (.channelSet p 17 fields) p 0x10 (.refused .range) s) ∧
    (n = 0 ∨ 17 < n → refusesWith (.channelSet p n fields) p 0x10 (.refused .range) s) ∧
    (n = 0 ∨ 32 < n → refusesWith (.valveSet p n fields) p 0x20 (.refused .range) s) ∧
    (1 ≤ n → n ≤ 32 →
      listed fields 6 (s.valveCfg n).liftMax ≤ listed fields 5 (s.valveCfg n).liftMin ∨
        (listed fields 1 (s.valveCfg n).role.code ≠ 1 ∧ ∃ f ∈ fields, f.1 = 2 ∨ f.1 = 3) ∨
        (listed fields 1 (s.valveCfg n).role.code = 1 ∧ (s.valveCfg n).role.code ≠ 1 ∧ ∀ f ∈ fields, f.1 ≠ 2) →
      refusesWith (.valveSet p n fields) p 0x20 (.refused .range) s) ∧
    (listed fields 7 s.cfg.boiler.designFlow ≤ listed fields 9 s.cfg.boiler.baseFlow ∨
        listed fields 13 s.cfg.boiler.flowMax < listed fields 12 s.cfg.boiler.flowMin →
      refusesWith (.boilerSet p fields) p 0x30 (.refused .range) s)) ∧
  (∀ (p : Port) (n : Nat) (fields : List (Nat × Int)) (s : State), s.takes p →
    ((∃ f ∈ fields, f.1 = 0 ∨ 23 < f.1) → refusesWith (.channelSet p n fields) p 0x10 (.refused .range) s) ∧
    ((∃ f ∈ fields, f.1 = 0 ∨ 8 < f.1) → refusesWith (.valveSet p n fields) p 0x20 (.refused .range) s) ∧
    ((∃ f ∈ fields, f.1 = 0 ∨ 17 < f.1) → refusesWith (.boilerSet p fields) p 0x30 (.refused .range) s)) ∧
  (∀ (p : Port) (c runOut : Nat) (s : State), s.takes p → c = 0 ∨ 17 < c →
    refusesWith (.layerPop p c) p 0x14 (.refused .range) s ∧
      refusesWith (.holdRelease p c runOut) p 0x16 (.refused .range) s)

/-- CHANNEL-GET, VALVE-GET and BOILER-GET are answered DONE with their data and change nothing; a number of no channel
or slot is refused RANGE (R173, R105, R150, R174). BOILER-GET carries every setting of R145, the ramp step interval
among them, each in the form its field code gives it (R171). The bytes are those of R34, R64, R67, R81, R126; their
order is log 8's, their widths log 9's; the order of BOILER-GET's settings and that three of them go twice is log 39's,
its pump reasons and blockers are log 40's, and that its heat dump goes twice and its committed capacity once is log
46's, all the model's choice. -/
def Obligations.ReadRequestsReportAndChangeNothing : Prop :=
  ∀ (p : Port) (n : Nat) (s : State), s.takes p →
    (1 ≤ n → n ≤ 17 → ∃ t, exec (.channelGet p n) s = .next t ∧
      s.replied t p 0x11 (.done {} (s.channelBytes n)) [] ∧ s.onlyReplied t p) ∧
    (1 ≤ n → n ≤ 32 → ∃ t, exec (.valveGet p n) s = .next t ∧
      s.replied t p 0x21 (.done {} (s.valveBytes n)) [] ∧ s.onlyReplied t p) ∧
    (∃ t, exec (.boilerGet p) s = .next t ∧
      s.replied t p 0x31 (.done {} (s.boilerRecordBytes ++ s.capacityBytes ++ s.arbiterBytes)) [] ∧
      s.onlyReplied t p) ∧
    ((s.cfg.boiler.values.mapIdx fun i v =>
        (((BoilerField.ofCode (i + 1)).map BoilerField.form).getD .byte : ValueForm).bytes v).flatten <:+
      s.boilerRecordBytes) ∧
    (n = 0 ∨ 17 < n → refusesWith (.channelGet p n) p 0x11 (.refused .range) s) ∧
    (n = 0 ∨ 32 < n → refusesWith (.valveGet p n) p 0x21 (.refused .range) s)

/-- ROOM-TEMP for a zone read by port holds a temperature within −400 to 1250 with the elapsed minute; one outside it
is answered REJECTED, the reading kept and SENSOR raised for the zone on both ports; a zone read by a head is refused
STATE, a number of no zone RANGE (R47, R48). -/
def Obligations.RoomTempHoldsOrRejects : Prop :=
  ∀ (p : Port) (k : Nat) (x : Temp) (s : State), s.takes p → s.shaped →
    (1 ≤ k → k ≤ 16 → (s.zoneCfg k).source = none → -400 ≤ x → x ≤ 1250 →
      ∃ t, exec (.roomTemp p k x) s = .next t ∧ s.replied t p 0x12 (.done {} []) [] ∧
        t = { s with zones := t.zones, claim := s.keptAlive p, main := t.main, service := t.service } ∧
        t.zone k = { s.zone k with reading := some ⟨x, s.clock.elapsed⟩ } ∧ ∀ j, j ≠ k → t.zone j = s.zone j) ∧
    (1 ≤ k → k ≤ 16 → (s.zoneCfg k).source = none → x < -400 ∨ 1250 < x →
      ∃ t, exec (.roomTemp p k x) s = .next t ∧ s.replied t p 0x12 (.done { rejected := true } []) [.sensor] ∧
        s.onlyReplied t p ∧ ∀ q, t.raised q .sensor (object k)) ∧
    (1 ≤ k → k ≤ 16 → (s.zoneCfg k).source ≠ none → refusesWith (.roomTemp p k x) p 0x12 (.refused .state) s) ∧
    (k = 0 ∨ 16 < k → refusesWith (.roomTemp p k x) p 0x12 (.refused .range) s)

/-- LAYER-PUSH places its layer on every channel of the mask that is not parked: below a WINDOW on top, else on top,
the bottom layer of a full stack dropped with STACK raised; setpoint and duration clamped; other channels untouched.
The reply gives the channels skipped as parked, those with a clamped value and those whose bottom layer was lost, as
three channel words (R25; their order is log 8). A kind that is none or WINDOW and a mask that names no channel or one
above 17 are refused RANGE, a mask of parked zones alone STATE (R25, R26, R42). -/
def Obligations.LayerPushPlacesOnOpenChannels : Prop :=
  ∀ (p : Port) (mask : BitVec 24) (code : Nat) (x : Temp) (dur : Nat) (s : State), s.takes p → s.shaped →
    (∀ kind, LayerKind.ofCode code = some kind → kind ≠ .window → mask ≠ 0 → mask.toNat < 2 ^ 17 →
      (∃ c ∈ maskChannels mask, s.parked c = false) →
      ∃ t, exec (.layerPush p mask code x dur) s = .next t ∧
        t = { s with channels := t.channels, claim := s.keptAlive p, main := t.main, service := t.service } ∧
        s.replied t p 0x13
          (.done { clamped := ((maskChannels mask).filter fun c => !s.parked c).any fun c =>
              clamp (s.channelCfg c).frost (s.channelCfg c).limit x != x ||
                (kind == .timed && clampNat 1 1440 dur != dur) }
            (channelSetOf ((maskChannels mask).filter s.parked) ++
              channelSetOf ((maskChannels mask).filter fun c => !s.parked c &&
                (clamp (s.channelCfg c).frost (s.channelCfg c).limit x != x ||
                  (kind == .timed && clampNat 1 1440 dur != dur))) ++
              channelSetOf ((maskChannels mask).filter fun c =>
                !s.parked c && decide (4 ≤ (s.channel c).stack.length)))) [.stack] ∧
        (∀ c ∈ maskChannels mask, s.parked c = false →
          t.channel c = { s.channel c with
            stack := layerPlaced
              (if 4 ≤ (s.channel c).stack.length then (s.channel c).stack.tail else (s.channel c).stack)
              { kind, setpoint := some (clamp (s.channelCfg c).frost (s.channelCfg c).limit x)
                remaining := if kind = .timed then some (clampNat 1 1440 dur) else none
                origin := if p = .main then .main else .service } } ∧
          (4 ≤ (s.channel c).stack.length → ∀ q, t.raised q .stack (object c))) ∧
        ∀ c, c ∉ maskChannels mask ∨ s.parked c = true → t.channel c = s.channel c) ∧
    (2 < code ∨ mask = 0 ∨ 2 ^ 17 ≤ mask.toNat →
      refusesWith (.layerPush p mask code x dur) p 0x13 (.refused .range) s) ∧
    (code ≤ 2 → mask ≠ 0 → mask.toNat < 2 ^ 17 → (∀ c ∈ maskChannels mask, s.parked c = true) →
      refusesWith (.layerPush p mask code x dur) p 0x13 (.refused .state) s)

/-- LAYER-POP takes the top layer off and reports it; an empty stack, and a WINDOW that an active contact holds, are
refused STATE (R31). LAYER-CLEAR empties every stack of the mask, parked zones included, but for such a WINDOW (R32).
HOLD-RELEASE makes the topmost HOLD layer TIMED for the run-out, clamped to 1440 and marked, in its place; a run-out of
0 removes it. With no HOLD layer, or for a parked zone, it is refused STATE (R30). -/
def Obligations.LayersArePoppedClearedAndReleased : Prop :=
  ((∀ (p : Port) (c : Nat) (s : State), s.takes p → 1 ≤ c → c ≤ 17 →
    (∀ below l, (s.channel c).stack = below ++ [l] →
      ¬ (l.kind = .window ∧ l.origin = .input ∧ s.windowContact c = true) →
      ∃ t, exec (.layerPop p c) s = .next t ∧ s.replied t p 0x14 (.done {} l.bytes) [] ∧
        t = { s with channels := t.channels, claim := s.keptAlive p, main := t.main, service := t.service } ∧
        t.channel c = { s.channel c with stack := below } ∧ ∀ d, d ≠ c → t.channel d = s.channel d) ∧
    (((s.channel c).stack = [] ∨ ∃ below l, (s.channel c).stack = below ++ [l] ∧ l.kind = .window ∧ l.origin = .input ∧
        s.windowContact c = true) →
      refusesWith (.layerPop p c) p 0x14 (.refused .state) s)) ∧
  (∀ (p : Port) (mask : BitVec 24) (s : State), s.takes p → s.shaped →
    (mask ≠ 0 → mask.toNat < 2 ^ 17 →
      ∃ t, exec (.layerClear p mask) s = .next t ∧ s.replied t p 0x15 (.done {} []) [] ∧
        t = { s with channels := t.channels, claim := s.keptAlive p, main := t.main, service := t.service } ∧
        (∀ c ∈ maskChannels mask, t.channel c = { s.channel c with
          stack := (s.channel c).stack.filter fun l =>
            l.kind == .window && l.origin == .input && s.windowContact c }) ∧
        ∀ c, c ∉ maskChannels mask → t.channel c = s.channel c) ∧
    (mask = 0 ∨ 2 ^ 17 ≤ mask.toNat → refusesWith (.layerClear p mask) p 0x15 (.refused .range) s))) ∧
  (∀ (p : Port) (c runOut : Nat) (s : State), s.takes p → 1 ≤ c → c ≤ 17 →
    (∀ below l above, (s.channel c).stack = below ++ l :: above → l.kind = .hold → (∀ x ∈ above, x.kind ≠ .hold) →
      s.parked c = false →
      ∃ t, exec (.holdRelease p c runOut) s = .next t ∧
        s.replied t p 0x16 (.done { clamped := decide (1440 < runOut) } []) [] ∧
        t = { s with channels := t.channels, claim := s.keptAlive p, main := t.main, service := t.service } ∧
        t.channel c = { s.channel c with
          stack := below ++ (if runOut = 0 then [] else [{ l with kind := .timed, remaining := some (min runOut 1440) }])
            ++ above } ∧
        ∀ d, d ≠ c → t.channel d = s.channel d) ∧
    (s.parked c = true ∨ (∀ l ∈ (s.channel c).stack, l.kind ≠ .hold) →
      refusesWith (.holdRelease p c runOut) p 0x16 (.refused .state) s))

/-- ZONE-PARK saves the zone's layers but WINDOW, integrator, rate and priority in the lowest free park slot and
answers with its number; the live stack is empty, the integrator 0, the previous-pass reading absent, a preheat
abandoned, the priority 1, and the request is formed again. A zone parked already is refused STATE, a number of no zone
RANGE, and with no slot free FULL (R41, R63). ZONE-UNPARK restores stack, integrator, rate and priority from the park
slot, which it frees; the previous-pass reading is absent; with a window contact of the zone active an INPUT WINDOW is
placed on top (R43, R27). Both reach the flow setpoint and the ramp where they change the served level or the served
set (R72, R149). What an abandoned preheat holds in IDLE is the model's choice (log 35). -/
def Obligations.ParkingSavesAndRestoresTheContext : Prop :=
  (∀ (p : Port) (k : Nat) (s : State), s.takes p → s.storeWriting = false → s.shaped →
    (∀ i, 1 ≤ k → k ≤ 16 → s.parked k = false → s.cfg.parks[i]? = some none →
      (∀ j < i, ∃ x, s.cfg.parks[j]? = some (some x)) →
      ∃ t, exec (.zonePark p k) s = .next t ∧
        s.replied t p 0x17 (.done {} [BitVec.ofNat 8 (i + 1)]) [.boiler, .capacity, .sink] ∧
        t = { s with cfg := t.cfg, channels := t.channels, zones := t.zones, table := t.table, heads := t.heads,
                     link := t.link, arbiter := t.arbiter, boiler := t.boiler, field := t.field,
                     claim := s.keptAlive p, main := t.main, service := t.service } ∧
        t.cfg = { s.cfg with
          parks := s.cfg.parks.set i (some {
            zone := k, layers := (s.channel k).stack.filter (·.kind != .window), integrator := (s.zone k).integrator
            rate := (s.zoneCfg k).rate, priority := (s.channelCfg k).priority })
          channels := setItem s.cfg.channels k { s.channelCfg k with priority := 1 } } ∧
        t.channel k = { s.channel k with stack := [] } ∧ (∀ c, c ≠ k → t.channel c = s.channel c) ∧
        t.zone k = { s.zone k with integrator := 0, previous := none, preheat := (s.zone k).preheat.ended } ∧
        (∀ j, j ≠ k → t.zone j = s.zone j) ∧
        (t.consumer k).level = (if (s.zone k).frostCall then 3 else if (s.zone k).demandCall then 1 else 0) ∧
        ((t.consumer k).requesting = true ↔ (t.consumer k).level ≠ 0) ∧ (s.tableFollows → s.flowFollows t) ∧
        t.effectiveSetpoint k = (s.channelCfg k).frost) ∧
    (k = 0 ∨ 16 < k → refusesWith (.zonePark p k) p 0x17 (.refused .range) s) ∧
    (1 ≤ k → k ≤ 16 → s.parked k = true → refusesWith (.zonePark p k) p 0x17 (.refused .state) s) ∧
    (1 ≤ k → k ≤ 16 → s.parked k = false → (∀ x ∈ s.cfg.parks, x ≠ none) →
      refusesWith (.zonePark p k) p 0x17 (.refused .full) s)) ∧
  (∀ (p : Port) (k : Nat) (s : State), s.takes p → s.storeWriting = false → s.shaped →
    (∀ i x, 1 ≤ k → k ≤ 16 → s.cfg.parks[i]? = some (some x) → x.zone = k → x.layersOk = true →
      (∀ j < i, ∀ y, s.cfg.parks[j]? = some (some y) → y.zone ≠ k) →
      ∃ t, exec (.zoneUnpark p k) s = .next t ∧
        s.replied t p 0x18 (.done {} []) [.stack, .boiler, .capacity, .sink] ∧
        t = { s with cfg := t.cfg, channels := t.channels, zones := t.zones, table := t.table, heads := t.heads,
                     link := t.link, arbiter := t.arbiter, boiler := t.boiler, field := t.field,
                     claim := s.keptAlive p, main := t.main, service := t.service } ∧
        t.cfg = { s.cfg with
          parks := s.cfg.parks.set i none
          channels := setItem s.cfg.channels k { s.channelCfg k with priority := x.priority }
          zones := setItem s.cfg.zones k { s.zoneCfg k with rate := x.rate } } ∧
        t.channel k = { s.channel k with
          stack :=
            if s.windowContact k then
              (if x.layers.length = 4 then x.layers.tail else x.layers) ++ [⟨.window, none, none, .input⟩]
            else x.layers } ∧
        (s.windowContact k = true → x.layers.length = 4 → ∀ q, t.raised q .stack (object k)) ∧
        (∀ c, c ≠ k → t.channel c = s.channel c) ∧
        t.zone k = { s.zone k with integrator := x.integrator, previous := none, preheat := (s.zone k).preheat.ended } ∧
        (∀ j, j ≠ k → t.zone j = s.zone j) ∧
        (t.consumer k).level = t.zoneRequest k ∧ ((t.consumer k).requesting = true ↔ (t.consumer k).level ≠ 0) ∧
        (s.tableFollows → s.flowFollows t)) ∧
    (k = 0 ∨ 16 < k → refusesWith (.zoneUnpark p k) p 0x18 (.refused .range) s) ∧
    (1 ≤ k → k ≤ 16 → s.parked k = false → refusesWith (.zoneUnpark p k) p 0x18 (.refused .state) s))

/-- The effective setpoint of R33: the frost temperature for a parked zone and under a WINDOW layer, else the top
layer's setpoint or the base temperature clamped to frost … limit; with the settings in range it never leaves frost …
limit. -/
def Obligations.EffectiveSetpointStaysWithinFrostAndLimit : Prop :=
  ∀ (c : Nat) (s : State), 1 ≤ c → c ≤ 17 → s.cfg.inRange = true →
    ((s.channelCfg c).frost ≤ s.effectiveSetpoint c ∧ s.effectiveSetpoint c ≤ (s.channelCfg c).limit) ∧
    (s.parked c = true → s.effectiveSetpoint c = (s.channelCfg c).frost) ∧
    (s.parked c = false → (s.channel c).stack = [] → ∀ x,
      (s.channelCfg c).frost ≤ x → x ≤ (s.channelCfg c).limit → s.baseTemp c = x → s.effectiveSetpoint c = x) ∧
    (∀ below l, s.parked c = false → (s.channel c).stack = below ++ [l] →
      (l.kind = .window → s.effectiveSetpoint c = (s.channelCfg c).frost) ∧
      ∀ x, l.kind ≠ .window → l.setpoint = some x →
        (x < (s.channelCfg c).frost → s.effectiveSetpoint c = (s.channelCfg c).frost) ∧
        ((s.channelCfg c).limit < x → s.effectiveSetpoint c = (s.channelCfg c).limit) ∧
        ((s.channelCfg c).frost ≤ x → x ≤ (s.channelCfg c).limit → s.effectiveSetpoint c = x))

/-! ## The zone regulator and the cylinder -/

/-- A regulation pass of zone `k`, stages 2 to 6 (R52): the previous-pass reading, and a DETECT window where it fell by
the drop threshold: placed on top, a full stack losing its bottom layer with STACK raised, or its minutes set back;
none with a stale reading, no previous one, a parked zone or detection disabled (R36, R27); with a fresh reading
integrator and demand of the PI computation, SENSORLESS clear (R58, R60), with a stale one the fallback duty,
SENSORLESS set and SENSOR raised if it was clear (R59); frost call (R62) and demand call (R61) by their tables; the
request (R63) and the wanted targets of the zone's slots (R64, R107), lift min + u × (lift max − lift min) / 1000
rounded half up, 0 at u = 0. With the supply LOW and the boiler in REST, where nothing else moves the queue, each is
offered to it as the tables of R110 and R113 say. A changed demand of a served zone, and a changed served level or
served set, computes flow setpoint and modulation target afresh; in FIRING a changed target hands over a ramp from the
present output (R72, R149, R130, R163). -/
def Obligations.RegulationPassComputesDemandAndCalls : Prop :=
  (∀ (k : Nat) (s : State), s.acting = none → s.shaped → 1 ≤ k → k ≤ 16 → (s.zone k).passDue = true →
    ∃ t, exec (.regulationPass k) s = .next t ∧
      t = { s with cfg := t.cfg, channels := t.channels, zones := t.zones, table := t.table, heads := t.heads,
                   link := t.link, arbiter := t.arbiter, boiler := t.boiler, field := t.field, main := t.main,
                   service := t.service } ∧
      s.portsKept t [.sensor, .stack, .boiler, .capacity, .sink] ∧
      t.cfg = { s.cfg with zones := setItem s.cfg.zones k { s.zoneCfg k with rate := (t.zoneCfg k).rate } } ∧
      (∀ c, c ≠ k → t.channel c = s.channel c) ∧ (t.channel k).plan = (s.channel k).plan ∧
      (∀ j, j ≠ k → t.zone j = s.zone j) ∧
      (t.zone k).passDue = false ∧ (t.zone k).reading = (s.zone k).reading ∧ (t.zone k).previous = s.freshReading k ∧
      (∀ r, s.freshReading k = some r →
        ((t.zone k).integrator, (t.zone k).demand) =
          piCompute (s.zoneCfg k) (t.effectiveSetpoint k) r (s.zone k).integrator
            ((s.consumer k).requesting && !(s.consumer k).heatAvailable) ∧
        (t.zone k).sensorless = false ∧
        ((t.zone k).frostCall = true ↔
          r < (s.channelCfg k).frost ∨ (s.zone k).frostCall = true ∧ r < (s.channelCfg k).frost + 5)) ∧
      (s.freshReading k = none →
        (t.zone k).integrator = (s.zone k).integrator ∧
        (t.zone k).demand =
          (if s.parked k || windowOnTop (s.channel k).stack then 0 else (s.zoneCfg k).fallback) ∧
        (t.zone k).sensorless = true ∧ (t.zone k).frostCall = false ∧
        ((s.zone k).sensorless = false → ∀ q, t.raised q .sensor (object k))) ∧
      ((t.zone k).demandCall = true ↔
        if (s.zone k).demandCall then (s.zoneCfg k).releaseAt ≤ (t.zone k).demand
        else (s.zoneCfg k).requestAt ≤ (t.zone k).demand) ∧
      (t.consumer k).level =
        (if (t.zone k).frostCall then 3 else if (t.zone k).demandCall then (s.channelCfg k).priority else 0) ∧
      ((t.consumer k).requesting = true ↔ (t.consumer k).level ≠ 0) ∧
      ∀ v, 1 ≤ v → v ≤ 32 → ∀ dump, (s.valveCfg v).role = .zone k dump →
        t.wantedOf v = some (if s.boiler.heatDump && dump then ⟨100, .safety⟩
          else ⟨regulatedTarget (s.valveCfg v) (t.zone k).demand, .normal⟩)) ∧
  (∀ (k : Nat) (s : State), s.acting = none → s.shaped → s.tableFollows → 1 ≤ k → k ≤ 16 → (s.zone k).passDue = true →
    ∃ t, exec (.regulationPass k) s = .next t ∧ s.flowFollows t ∧
      ((t.consumer k).served = true → (t.zone k).demand ≠ (s.zone k).demand → t.flowComputed)) ∧
  (∀ (k : Nat) (s : State), s.acting = none → s.shaped → 1 ≤ k → k ≤ 16 → (s.zone k).passDue = true →
    (∀ r q, s.freshReading k = some r → (s.zone k).previous = some q → s.parked k = false →
      (s.zoneCfg k).detectEnable = true → ((s.zoneCfg k).dropThreshold : Int) ≤ q - r →
      ∃ t, exec (.regulationPass k) s = .next t ∧
        (t.channel k).stack =
          (if (s.channel k).stack.any (·.kind == .window) then
            (s.channel k).stack.map fun l =>
              if l.kind = .window ∧ l.origin = .detect then { l with remaining := some (s.zoneCfg k).windowTime } else l
          else
            (if 4 ≤ (s.channel k).stack.length then (s.channel k).stack.tail else (s.channel k).stack)
              ++ [⟨.window, none, some (s.zoneCfg k).windowTime, .detect⟩]) ∧
        (4 ≤ (s.channel k).stack.length → (∀ l ∈ (s.channel k).stack, l.kind ≠ .window) →
          ∀ q, t.raised q .stack (object k))) ∧
    (s.freshReading k = none ∨ (s.zone k).previous = none ∨ s.parked k = true ∨ (s.zoneCfg k).detectEnable = false ∨
        (∀ r q, s.freshReading k = some r → (s.zone k).previous = some q → q - r < (s.zoneCfg k).dropThreshold) →
      ∃ t, exec (.regulationPass k) s = .next t ∧ (t.channel k).stack = (s.channel k).stack) ∧
    (s.field.supplyOk = false → s.boiler.state = .rest → s.faultInput = false →
      ∃ t, exec (.regulationPass k) s = .next t ∧
        ∀ v w, 1 ≤ v → v ≤ 32 → t.wantedOf v = some w → (∃ dump, (s.valveCfg v).role = .zone k dump) →
          s.queueOk → s.offered t v w)) ∧
  (∀ (x : ValveCfg) (u : Nat), x.liftMin < x.liftMax → u ≤ 1000 →
    regulatedTarget x 0 = 0 ∧ (x.liftMin ≤ regulatedTarget x u ∨ u = 0) ∧ regulatedTarget x u ≤ x.liftMax ∧
      regulatedTarget x 1000 = x.liftMax ∧
      (1 ≤ u → IsRoundedHalfAway (regulatedTarget x u) (1000 * x.liftMin + u * (x.liftMax - x.liftMin)) 1000))

/-- The error is S − T clamped to −100 … +100, the proportional term e × 1000 / B rounded half away from zero, within
−20 000 … +20 000 for a band of at least 5, and not clamped (R54). -/
def Obligations.ProportionalTermFollowsTheClampedError : Prop :=
  ∀ (setpoint reading : Temp) (band : Nat), 1 ≤ band →
    (setpoint - reading < -100 → piError setpoint reading = -100) ∧
    (100 < setpoint - reading → piError setpoint reading = 100) ∧
    (-100 ≤ setpoint - reading → setpoint - reading ≤ 100 → piError setpoint reading = setpoint - reading) ∧
    IsRoundedHalfAway (piProportional (piError setpoint reading) band) (piError setpoint reading * 1000) band ∧
    (5 ≤ band → -20000 ≤ piProportional (piError setpoint reading) band ∧
      piProportional (piError setpoint reading) band ≤ 20000)

/-- The integrator increment: 0 with integral time 0, else e × 1000 × P / (B × Ti) with the clamped error, rounded half
away from zero; at most 20 000 in magnitude with every setting in its range (R55). A positive one is replaced by 0 in a
frozen zone, another kept (R56). Conditional integration (R57): the candidate I + inc is set back to I where u = p + I
+ inc is above 1000 with a positive increment, or below 0 with a negative one, and stands in every other case; it is
then clamped to 0 … 1000. A pass takes these stages in turn (R54 to R58): with integral time 0 the integrator is 0, the
demand is p plus the new integrator clamped to 0 … 1000, both lie in 0 to 1000, and a frozen zone's integrator never
rises. -/
def Obligations.PiStagesComputeIntegratorAndDemand : Prop :=
  (∀ (e : Int) (period band integralTime : Nat), -100 ≤ e → e ≤ 100 → 1 ≤ period → period ≤ 10 → 5 ≤ band →
    (integralTime = 0 → piIncrement e period band integralTime = 0) ∧
    (10 ≤ integralTime →
      IsRoundedHalfAway (piIncrement e period band integralTime) (e * 1000 * period) (band * integralTime) ∧
      -20000 ≤ piIncrement e period band integralTime ∧ piIncrement e period band integralTime ≤ 20000) ∧
    (∀ inc, piFreeze false inc = inc) ∧ (∀ inc, 0 < inc → piFreeze true inc = 0) ∧
    ∀ inc, inc ≤ 0 → piFreeze true inc = inc) ∧
  ((∀ (p i inc : Int),
    (1000 < p + (i + inc) ∧ 0 < inc ∨ p + (i + inc) < 0 ∧ inc < 0 → 0 ≤ i → i ≤ 1000 → piIntegrate p i inc = i) ∧
    (¬ (1000 < p + (i + inc) ∧ 0 < inc ∨ p + (i + inc) < 0 ∧ inc < 0) →
      (i + inc < 0 → piIntegrate p i inc = 0) ∧ (1000 < i + inc → piIntegrate p i inc = 1000) ∧
      (0 ≤ i + inc → i + inc ≤ 1000 → piIntegrate p i inc = i + inc))) ∧
  ∀ (z : ZoneCfg) (setpoint reading : Temp) (integrator : Nat) (frozen : Bool), integrator ≤ 1000 →
    ((piCompute z setpoint reading integrator frozen).1 : Int) =
      piIntegrate (piProportional (piError setpoint reading) z.band) (if z.integralTime = 0 then 0 else integrator)
        (piFreeze frozen (piIncrement (piError setpoint reading) z.period z.band z.integralTime)) ∧
    (z.integralTime = 0 → (piCompute z setpoint reading integrator frozen).1 = 0) ∧
    ((piCompute z setpoint reading integrator frozen).2 : Int) =
      clamp 0 1000 (piProportional (piError setpoint reading) z.band + (piCompute z setpoint reading integrator frozen).1) ∧
    (piCompute z setpoint reading integrator frozen).1 ≤ 1000 ∧ (piCompute z setpoint reading integrator frozen).2 ≤ 1000 ∧
    (frozen = true → (piCompute z setpoint reading integrator frozen).1 ≤ integrator))

/-- Optimum start at a pass (R17): clock set, preheat enabled, zone not parked and not in EARLY, a fresh reading, a
rise at plan slot `i` (the first above the current slot with a temperature above the base level's), minutes until it
within the preheat limit and the lead, the target above the reading: the record takes EARLY with that rise. Learning at
a pass of a zone in EARLY or WATCH (R21): at the first fresh reading at or above the target, a preheat of 10 minutes
and more that nothing has spoiled moves the rate a quarter of the way to the measured one, clamped to 5 … 60; a spoiled
or shorter one leaves it. In EARLY learning done is set in either case and the record stays; in WATCH, where no preheat
starts at the pass, it returns to IDLE. Before that, or with learning done, neither changes. That the spoiled check
(R20) acts in the pass that starts the preheat, and before the learning of the same pass, is read from the rules (log
11); what the record holds in IDLE is the model's choice (log 35). -/
def Obligations.PreheatStartsAheadAndLearnsOnce : Prop :=
  (∀ (k i : Nat) (r : Temp) (s : State), s.acting = none → s.shaped → 1 ≤ k → k ≤ 16 → (s.zone k).passDue = true →
    s.clock.minuteOfWeek ≤ 10079 → s.clock.clockSet = true → (s.zoneCfg k).preheatEnable = true → s.parked k = false →
    (∀ run, (s.zone k).preheat ≠ .early run) → s.freshReading k = some r → 1 ≤ (s.zoneCfg k).rate →
    s.clock.minuteOfDay / 10 < i → i < 288 →
    (s.channelCfg k).temperature (s.baseLevel k) < (s.channelCfg k).temperature (s.planLevel k i) →
    (∀ j, s.clock.minuteOfDay / 10 < j → j < i →
      (s.channelCfg k).temperature (s.planLevel k j) ≤ (s.channelCfg k).temperature (s.baseLevel k)) →
    10 * i - s.clock.minuteOfDay ≤ (s.zoneCfg k).preheatLimit →
    r < (s.channelCfg k).temperature (s.planLevel k i) →
    (((10 * i - s.clock.minuteOfDay : Nat) : Int) - 1) * (s.zoneCfg k).rate <
      ((s.channelCfg k).temperature (s.planLevel k i) - r) * 60 →
      ∃ t, exec (.regulationPass k) s = .next t ∧
        (t.zone k).preheat = .early {
          target := s.planLevel k i
          riseMinute := (s.clock.minuteOfWeek - s.clock.minuteOfDay + 10 * i) % 10080
          startElapsed := s.clock.elapsed, startReading := r
          spoiled := !(s.channel k).stack.isEmpty || (s.consumer k).deferred
          learningDone := false } ∧
        (t.zoneCfg k).rate = (s.zoneCfg k).rate) ∧
  (∀ (k : Nat) (run : PreheatRun) (r : Temp) (s : State), s.acting = none → s.shaped → 1 ≤ k → k ≤ 16 →
    (s.zone k).passDue = true → (s.zone k).preheat = .early run → s.freshReading k = some r →
    ∀ spoiled m, spoiled = (run.spoiled || !(s.channel k).stack.isEmpty || (s.consumer k).deferred) →
      m = (s.clock.elapsed - run.startElapsed).toNat →
      ∃ t, exec (.regulationPass k) s = .next t ∧
        (run.learningDone = false → (s.channelCfg k).temperature run.target ≤ r →
          (t.zone k).preheat = .early { run with spoiled, learningDone := true } ∧
          ((t.zoneCfg k).rate : Int) =
            if spoiled || decide (m < 10) then ((s.zoneCfg k).rate : Int)
            else clamp 5 60 (Int.tdiv (3 * (s.zoneCfg k).rate + Int.tdiv ((r - run.startReading) * 60) m) 4)) ∧
        (run.learningDone = true ∨ r < (s.channelCfg k).temperature run.target →
          (t.zone k).preheat = .early { run with spoiled } ∧ (t.zoneCfg k).rate = (s.zoneCfg k).rate)) ∧
  (∀ (k : Nat) (run : PreheatRun) (rise : Elapsed) (r : Temp) (s : State), s.acting = none → s.shaped → 1 ≤ k → k ≤ 16 →
    (s.zone k).passDue = true → (s.zone k).preheat = .watch run rise → run.learningDone = false →
    s.freshReading k = some r →
    (s.clock.clockSet = false ∨ (s.zoneCfg k).preheatEnable = false ∨ s.parked k = true ∨
      (∀ i < 288, s.clock.minuteOfDay / 10 < i →
        (s.channelCfg k).temperature (s.planLevel k i) ≤ (s.channelCfg k).temperature (s.baseLevel k))) →
    ∀ spoiled m, spoiled = (run.spoiled || !(s.channel k).stack.isEmpty || (s.consumer k).deferred) →
      m = (s.clock.elapsed - run.startElapsed).toNat →
      ∃ t, exec (.regulationPass k) s = .next t ∧
        ((s.channelCfg k).temperature run.target ≤ r →
          (t.zone k).preheat = .idle { run with spoiled := false, learningDone := false } ∧
          ((t.zoneCfg k).rate : Int) =
            if spoiled || decide (m < 10) then ((s.zoneCfg k).rate : Int)
            else clamp 5 60 (Int.tdiv (3 * (s.zoneCfg k).rate + Int.tdiv ((r - run.startReading) * 60) m) 4)) ∧
        (r < (s.channelCfg k).temperature run.target →
          (t.zone k).preheat = .watch { run with spoiled } rise ∧ (t.zoneCfg k).rate = (s.zoneCfg k).rate))

/-- A sensor sample of a second tick: a temperature within −400 to 1250 becomes the value and makes the sensor valid;
one outside makes it invalid, keeps the value, and raises SENSOR if the sensor was valid or not yet sampled (R152). A
cylinder sample decides W's request flag by its table against setpoint and differential, and hands the request over
(R66, R67, R69). The other sensors and W at their samples stay as they were. With no blocker, W's request as the only
one takes IDLE to LEAD, the lead timer started, sink-open set where the capacity is short (R131); its end takes LEAD to
IDLE, sink-open cleared (R132), and FIRING to OVERRUN, or into the min-on hold while min-on has not elapsed (R135,
R136). Where W becomes heat-available every CYLINDER slot wants 100, where it ceases to be 0, and where sink-open is
set or cleared every SINK slot wants 100 or 0 (R108, R109), each offered to the queue (R110; shown with the supply
LOW). An invalid flow sample takes LEAD to IDLE and FIRING to OVERRUN (R129). An outdoor sample, valid or not, and a
changed served level or served set compute flow setpoint and modulation target afresh; in FIRING a changed target hands
over a ramp from the present output (R149, R130, R163). -/
def Obligations.SensorSampleJudgesTheRecord : Prop :=
  (∀ (x : Sensor) (v : Temp) (s : State), s.acting = none → s.shaped → (s.sensor x).due = true →
    ∃ t, exec (.sensorSample x v) s = .next t ∧
      t = { s with wRequest := t.wRequest, table := t.table, heads := t.heads, link := t.link, arbiter := t.arbiter,
                   boiler := t.boiler, field := t.field, main := t.main, service := t.service } ∧
      t.field.inputs = s.field.inputs ∧ t.field.samplePhase = s.field.samplePhase ∧
      t.field.supplyOk = s.field.supplyOk ∧ t.field.supplyQual = s.field.supplyQual ∧
      t.field.supplyLast = s.field.supplyLast ∧
      (-400 ≤ v → v ≤ 1250 → t.sensor x = { value := some v, valid := true, sampled := true, due := false } ∧
        s.portsKept t [.overheat, .boiler, .capacity, .sink]) ∧
      (v < -400 ∨ 1250 < v → t.sensor x = { s.sensor x with valid := false, sampled := true, due := false } ∧
        ((s.sensor x).valid = true ∨ (s.sensor x).sampled = false → ∀ q, t.raised q .sensor (sensorObject x)) ∧
        ((s.sensor x).valid = false → (s.sensor x).sampled = true →
          s.portsKept t [.overheat, .boiler, .capacity, .sink])) ∧
      (∀ y, y ≠ x → t.sensor y = s.sensor y) ∧
      (x ≠ .cylinder → t.wRequest = s.wRequest) ∧
      (x = .cylinder →
        (t.wRequest = true ↔ (-400 ≤ v ∧ v ≤ 1250) ∧
          if s.wRequest then v < s.effectiveSetpoint 17 else v < s.effectiveSetpoint 17 - s.cfg.differential) ∧
        (t.consumer 17).level = (if t.wRequest then (s.channelCfg 17).priority else 0) ∧
        ((t.consumer 17).requesting = true ↔ (t.consumer 17).level ≠ 0))) ∧
  (∀ (v : Temp) (s : State), s.acting = none → s.shaped → s.faultInput = false → s.held = false →
    s.field.cylinder.due = true →
    (s.boiler.state = .idle → s.anyRequest = false → -400 ≤ v → v ≤ 1250 →
      v < s.effectiveSetpoint 17 - s.cfg.differential → 1 ≤ (s.channelCfg 17).priority → 1 ≤ s.cfg.boiler.leadTime →
      ∃ t, exec (.sensorSample .cylinder v) s = .next t ∧
        t.boiler.state = .lead ∧ t.boiler.leadTimer = some s.cfg.boiler.leadTime ∧ t.boiler.leadExtended = false ∧
        (s.capacity < s.sinkMinimum →
          t.arbiter.sinkOpen = true ∧ (s.arbiter.sinkOpen = false → s.roleWants t .sink ⟨100, .safety⟩)) ∧
        ((s.consumer 17).heatAvailable = false → s.roleWants t .cylinder ⟨100, .normal⟩) ∧
        t.field.burner = s.field.burner ∧ t.field.pump = true) ∧
    ((∀ c, 1 ≤ c → c ≤ 16 → (s.consumer c).requesting = false) → s.effectiveSetpoint 17 ≤ v → v ≤ 1250 →
      (s.boiler.state = .lead →
        ∃ t, exec (.sensorSample .cylinder v) s = .next t ∧
          t.boiler.state = .idle ∧ t.boiler.leadTimer = none ∧ t.boiler.leadExtended = false ∧ t.boiler.leadHeld = false ∧
          (s.boiler.heatDump = false →
            t.arbiter.sinkOpen = false ∧ (s.arbiter.sinkOpen = true → s.roleWants t .sink ⟨0, .normal⟩)) ∧
          ((s.consumer 17).heatAvailable = true → s.roleWants t .cylinder ⟨0, .normal⟩)) ∧
      (s.boiler.state = .firing → s.boiler.minOnHold = false → s.sinkMinimum ≤ s.capacity →
        (s.minOnElapsed = false →
          ∃ t, exec (.sensorSample .cylinder v) s = .next t ∧
            t.boiler.state = .firing ∧ t.boiler.minOnHold = true ∧ t.boiler.fireMark = s.boiler.fireMark ∧
            t.field.burner = s.field.burner ∧
            ((s.consumer 17).heatAvailable = true → s.roleWants t .cylinder ⟨0, .normal⟩)) ∧
        (s.minOnElapsed = true → 1 ≤ s.cfg.boiler.overrunTime →
          ∃ t, exec (.sensorSample .cylinder v) s = .next t ∧
            t.boiler.state = .overrun ∧ t.boiler.overrunTimer = some s.cfg.boiler.overrunTime ∧
            t.boiler.restMark = s.clock.elapsed ∧ t.field.burner = false ∧ t.field.output = 0 ∧
            t.field.ramp = none ∧
            ((s.consumer 17).heatAvailable = true → s.roleWants t .cylinder ⟨0, .normal⟩))))) ∧
  (∀ (x : Sensor) (v : Temp) (s : State), s.acting = none → s.shaped → s.tableFollows → s.burnerFollows →
    (s.sensor x).due = true →
    ∃ t, exec (.sensorSample x v) s = .next t ∧ s.flowFollows t ∧ (x = .outdoor → t.flowComputed)) ∧
  (∀ (v : Temp) (s : State), s.acting = none → s.shaped → s.faultInput = false → s.field.flow.due = true →
    v < -400 ∨ 1250 < v →
    (s.boiler.state = .lead →
      ∃ t, exec (.sensorSample .flow v) s = .next t ∧
        t.boiler.state = .idle ∧ t.boiler.leadTimer = none ∧ t.boiler.leadExtended = false ∧ t.boiler.leadHeld = false ∧
        (s.boiler.heatDump = false → t.arbiter.sinkOpen = false)) ∧
    (s.boiler.state = .firing → 1 ≤ s.cfg.boiler.overrunTime →
      ∃ t, exec (.sensorSample .flow v) s = .next t ∧
        t.boiler.state = .overrun ∧ t.boiler.overrunTimer = some s.cfg.boiler.overrunTime ∧
        t.boiler.restMark = s.clock.elapsed ∧ t.field.burner = false ∧ t.field.output = 0 ∧ t.field.ramp = none))

/-- A valid flow sample at or above flow max plus the high-limit delta, with no dump in progress, starts a heat dump:
the dump and sink-open are set, OVERHEAT is raised for the flow sensor on both ports, every dump-eligible ZONE slot and
every SINK slot wants 100 with class SAFETY, the other ZONE slots are formed, each is offered to the queue (R110; shown
with the supply LOW), and FIRING ends (R141, R142, R107, R109, R123). A valid flow sample below flow max ends the dump:
the ZONE slots' regulated targets are formed again and offered, sink-open is cleared in REST and IDLE, where the SINK
slots want 0 again (R109), and kept in OVERRUN and FAULTED, and a lead expiry it held is taken, as R133 says; one at
flow max or above lets it go on (R143). -/
def Obligations.HeatDumpStartsAndEnds : Prop :=
  (∀ (v : Temp) (s : State), s.acting = none → s.shaped → s.field.flow.due = true → -400 ≤ v → v ≤ 1250 →
    s.boiler.heatDump = false → s.cfg.boiler.flowMax + s.cfg.boiler.highLimitDelta ≤ v →
      ∃ t, exec (.sensorSample .flow v) s = .next t ∧
        t.boiler.heatDump = true ∧ t.arbiter.sinkOpen = true ∧ (∀ q, t.raised q .overheat (object 1)) ∧
        (∀ n dump, 1 ≤ n → n ≤ 32 → (∃ k, (s.valveCfg n).role = .zone k dump) →
          ∃ w, t.wantedOf n = some w ∧ (dump = true → w = ⟨100, .safety⟩) ∧ (dump = false → w.cls = .normal) ∧
            (s.field.supplyOk = false → s.queueOk → s.offered t n w)) ∧
        s.roleWants t .sink ⟨100, .safety⟩ ∧
        t.boiler.state ≠ .firing ∧
        (s.boiler.state = .firing → s.faultInput = false → 1 ≤ s.cfg.boiler.overrunTime →
          t.boiler.state = .overrun ∧ t.boiler.restMark = s.clock.elapsed)) ∧
  (∀ (v : Temp) (s : State), s.acting = none → s.field.flow.due = true → -400 ≤ v → v ≤ 1250 →
    s.boiler.heatDump = true → s.boiler.leadHeld = false →
      ∃ t, exec (.sensorSample .flow v) s = .next t ∧ t.boiler.heatDump = decide (s.cfg.boiler.flowMax ≤ v) ∧
        t.wRequest = s.wRequest ∧ t.cfg = s.cfg ∧ t.clock = s.clock) ∧
  (∀ (v : Temp) (s : State), s.acting = none → s.shaped → s.field.flow.due = true → -400 ≤ v →
    v ≤ 1250 → v < s.cfg.boiler.flowMax → s.boiler.heatDump = true →
      ∃ t, exec (.sensorSample .flow v) s = .next t ∧
        t.boiler.heatDump = false ∧ t.boiler.leadHeld = false ∧
        (∀ n k dump, 1 ≤ n → n ≤ 32 → (s.valveCfg n).role = .zone k dump →
          t.wantedOf n = some ⟨regulatedTarget (s.valveCfg n) (s.zone k).demand, .normal⟩ ∧
            (s.field.supplyOk = false → s.queueOk →
              s.offered t n ⟨regulatedTarget (s.valveCfg n) (s.zone k).demand, .normal⟩)) ∧
        (s.boiler.leadHeld = false →
          (s.boiler.state = .rest ∨
              s.boiler.state = .idle ∧ (s.anyRequest = false ∨ s.inhibitInput = true ∨ s.faultInput = true) →
            t.arbiter.sinkOpen = false ∧ (s.arbiter.sinkOpen = true → s.roleWants t .sink ⟨0, .normal⟩)) ∧
          (s.boiler.state = .overrun ∧ s.boiler.overrunTimer ≠ none ∧ s.faultInput = false ∨
              s.boiler.state = .faulted ∧ s.faultInput = true →
            t.arbiter.sinkOpen = s.arbiter.sinkOpen)) ∧
        (s.boiler.leadHeld = true → s.boiler.state = .lead → s.anyRequest = true → s.inhibitInput = false →
          s.faultInput = false →
          (s.sinkMinimum ≤ s.capacity →
            t.boiler.state = .firing ∧ t.boiler.fireMark = s.clock.elapsed ∧ t.field.burner = true) ∧
          (s.capacity < s.sinkMinimum → s.boiler.leadExtended = false →
            t.boiler.state = .lead ∧ t.boiler.leadExtended = true ∧ t.arbiter.sinkOpen = true ∧
              t.boiler.leadTimer = some (if s.cfg.boiler.leadTime = 0 then 30 else s.cfg.boiler.leadTime)) ∧
          (s.capacity < s.sinkMinimum → s.boiler.leadExtended = true → 1 ≤ s.cfg.boiler.minOff →
            t.boiler.state = .rest ∧ t.boiler.restMark = s.clock.elapsed ∧ t.arbiter.sinkOpen = false ∧
              ∀ n, 1 ≤ n → n ≤ 32 → (s.valveCfg n).role = .sink → ∀ q, t.raised q .sink (object n))))

/-! ## Digital inputs -/

/-- A sample of an input's pin (R155, R160): one that differs from the last sample is taken as the last; one that
equals it sets the debounced level, and where the level stood at the other value it counts an edge in the input's
sensitivity, up to 255 (R156). INPUT_CHANGE and INPUT_ESTABLISHED are such samples with that outcome (the model's
choice, log 13). The other inputs, the sensors and the supply stay as they were. -/
def Obligations.InputSamplesAreDebounced : Prop :=
  ∀ (n : Nat) (high : Bool) (s : State), s.acting = none → s.shaped → 1 ≤ n → n ≤ 4 →
    ((s.inputRec n).last ≠ some high →
      ∃ t, exec (.inputSample n high) s = .next t ∧
        t = { s with field := t.field, main := t.main, service := t.service } ∧ s.portsKept t [] ∧
        t.field = { s.field with inputs := setItem s.field.inputs n { s.inputRec n with last := some high } }) ∧
    (∀ c, (s.inputRec n).last = some high →
      c = .inputSample n high ∨ (c = .inputChange n high ∧ (s.inputRec n).level = some (!high)) ∨
        (c = .inputEstablished n high ∧ (s.inputRec n).level = none) →
      ∃ t, exec c s = .next t ∧
        t = { s with channels := t.channels, table := t.table, heads := t.heads, link := t.link, arbiter := t.arbiter,
                     boiler := t.boiler, field := t.field, main := t.main, service := t.service } ∧
        s.portsKept t [.stack, .input, .boiler, .capacity, .sink] ∧
        t.inputRec n = {
          last := some high, level := some high
          edges :=
            if (s.inputRec n).level = some (!high) ∧
              (((s.inputCfg n).sensitivity = .high ∨ (s.inputCfg n).sensitivity = .rise) ↔ high = true) then
              min 255 ((s.inputRec n).edges + 1)
            else (s.inputRec n).edges } ∧
        (∀ m, m ≠ n → t.inputRec m = s.inputRec m) ∧ (∀ x, t.sensor x = s.sensor x) ∧
        t.field.supplyOk = s.field.supplyOk)

/-- What an input's function does with a change (R157, R37, R38, R39), the zone not parked: an opened window contact
places an INPUT WINDOW, or takes a WINDOW of origin DETECT over (R27); a closed one takes it away when no other contact
is open, and leaves it while one is (R38). A contact found open when its level is established places the layer too; an
establishment counts no edge, raises no INPUT, and changes no stack otherwise (R160, R38). A boost edge places its
TIMED layer of origin INPUT and raises INPUT. A full stack loses its bottom layer with STACK raised (R26). For a parked
zone a contact that opens and a boost edge place no layer, and the boost edge still raises INPUT (R42, R157). An edge
of an input of function NONE raises INPUT and nothing else happens; a change that is no edge raises nothing. -/
def Obligations.ContactsAndButtonsActOnTheirZone : Prop :=
  (∀ (n k : Nat) (high : Bool) (s : State), s.acting = none → s.shaped → 1 ≤ n → n ≤ 4 → 1 ≤ k → k ≤ 16 →
    (s.inputRec n).last = some high → (s.inputRec n).level = some (!high) → s.parked k = false →
    ((s.inputCfg n).function = .window k → (s.inputCfg n).sensitivity = (if high then .high else .low) →
      ∃ t, exec (.inputChange n high) s = .next t ∧
        (t.channel k).stack =
          (if (s.channel k).stack.any (·.kind == .window) then
            (s.channel k).stack.map fun l =>
              if l.kind = .window ∧ l.origin = .detect then { l with origin := .input, remaining := none } else l
          else
            (if 4 ≤ (s.channel k).stack.length then (s.channel k).stack.tail else (s.channel k).stack)
              ++ [⟨.window, none, none, .input⟩]) ∧
        (4 ≤ (s.channel k).stack.length → (∀ l ∈ (s.channel k).stack, l.kind ≠ .window) →
          ∀ q, t.raised q .stack (object k)) ∧
        ∀ c, c ≠ k → t.channel c = s.channel c) ∧
    ((s.inputCfg n).function = .window k → (s.inputCfg n).sensitivity = (if high then .low else .high) →
      (∀ m, m ≠ n → (s.inputCfg m).function = .window k → s.inputActive m = false) →
      ∃ t, exec (.inputChange n high) s = .next t ∧
        (t.channel k).stack = (s.channel k).stack.filter (fun l => !(l.kind == .window && l.origin == .input)) ∧
        ∀ c, c ≠ k → t.channel c = s.channel c) ∧
    (∀ x m, (s.inputCfg n).function = .boost k x m → (s.inputCfg n).sensitivity = (if high then .rise else .fall) →
      ∃ t, exec (.inputChange n high) s = .next t ∧
        (t.channel k).stack = layerPlaced
          (if 4 ≤ (s.channel k).stack.length then (s.channel k).stack.tail else (s.channel k).stack)
          { kind := .timed, setpoint := some (clamp (s.channelCfg k).frost (s.channelCfg k).limit x)
            remaining := some (clampNat 1 1440 m), origin := .input } ∧
        (4 ≤ (s.channel k).stack.length → ∀ q, t.raised q .stack (object k)) ∧
        (∀ q, t.raised q .input (object n)) ∧ ∀ c, c ≠ k → t.channel c = s.channel c)) ∧
  (∀ (n k m : Nat) (high : Bool) (s : State), s.acting = none → s.shaped → 1 ≤ n → n ≤ 4 →
    (s.inputRec n).last = some high → (s.inputRec n).level = some (!high) → (s.inputCfg n).function = .window k →
    (s.inputCfg n).sensitivity = (if high then .low else .high) → 1 ≤ m → m ≤ 4 → m ≠ n →
    (s.inputCfg m).function = .window k → s.inputActive m = true →
      ∃ t, exec (.inputChange n high) s = .next t ∧ t.channels = s.channels ∧
        s.portsKept t [.boiler, .capacity, .sink]) ∧
  (∀ (n : Nat) (high : Bool) (s : State), s.acting = none → s.shaped → 1 ≤ n → n ≤ 4 →
    (s.inputRec n).last = some high → (s.inputRec n).level = none →
      ∃ t, exec (.inputEstablished n high) s = .next t ∧
        t.inputRec n = { s.inputRec n with level := some high } ∧ (∀ m, m ≠ n → t.inputRec m = s.inputRec m) ∧
        s.portsKept t [.stack, .boiler, .capacity, .sink] ∧
        ((∀ k, (s.inputCfg n).function ≠ .window k) ∨ (s.inputCfg n).sensitivity ≠ (if high then .high else .low) →
          t.channels = s.channels) ∧
        ∀ k, 1 ≤ k → k ≤ 16 → (s.inputCfg n).function = .window k →
          (s.inputCfg n).sensitivity = (if high then .high else .low) →
          (∀ c, c ≠ k → t.channel c = s.channel c) ∧
          (s.parked k = true → t.channels = s.channels) ∧
          (s.parked k = false →
            (t.channel k).stack =
              (if (s.channel k).stack.any (·.kind == .window) then
                (s.channel k).stack.map fun l =>
                  if l.kind = .window ∧ l.origin = .detect then { l with origin := .input, remaining := none } else l
              else
                (if 4 ≤ (s.channel k).stack.length then (s.channel k).stack.tail else (s.channel k).stack)
                  ++ [⟨.window, none, none, .input⟩]) ∧
            (4 ≤ (s.channel k).stack.length → (∀ l ∈ (s.channel k).stack, l.kind ≠ .window) →
              ∀ q, t.raised q .stack (object k)))) ∧
  (∀ (n : Nat) (high : Bool) (s : State), s.acting = none → s.shaped → 1 ≤ n → n ≤ 4 →
    (s.inputRec n).last = some high → (s.inputRec n).level = some (!high) → (s.inputCfg n).function = .none →
      ∃ t, exec (.inputChange n high) s = .next t ∧ t.channels = s.channels ∧
        ((((s.inputCfg n).sensitivity = .high ∨ (s.inputCfg n).sensitivity = .rise) ↔ high = true) →
          ∀ q, t.raised q .input (object n)) ∧
        (¬ (((s.inputCfg n).sensitivity = .high ∨ (s.inputCfg n).sensitivity = .rise) ↔ high = true) →
          s.portsKept t [.stack, .boiler, .capacity, .sink])) ∧
  (∀ (n k : Nat) (high : Bool) (s : State), s.acting = none → s.shaped → 1 ≤ n → n ≤ 4 → 1 ≤ k → k ≤ 16 →
    (s.inputRec n).last = some high → (s.inputRec n).level = some (!high) → s.parked k = true →
    ((s.inputCfg n).function = .window k → (s.inputCfg n).sensitivity = (if high then .high else .low) →
      ∃ t, exec (.inputChange n high) s = .next t ∧ t.channels = s.channels ∧
        s.portsKept t [.boiler, .capacity, .sink]) ∧
    (∀ x m, (s.inputCfg n).function = .boost k x m → (s.inputCfg n).sensitivity = (if high then .rise else .fall) →
      ∃ t, exec (.inputChange n high) s = .next t ∧ t.channels = s.channels ∧ (∀ q, t.raised q .input (object n)) ∧
        s.portsKept t [.input, .boiler, .capacity, .sink]))

/-- A boiler fault input that becomes active takes the controller to FAULTED from any other state: BOILER is raised
with it, the pump timer starts with the overrun time, and from FIRING the burner goes out, the output is 0 and the rest
mark taken (R140). When the last one becomes inactive FAULTED ends in REST, where min-off is judged at once; the rest
mark stays (R140, R139). An inhibit input that becomes active takes LEAD to IDLE and FIRING to OVERRUN (R129, R132,
R136). -/
def Obligations.BoilerFaultInputTakesFaulted : Prop :=
  (∀ (n : Nat) (high : Bool) (c : Instr) (s : State), s.acting = none → s.shaped → 1 ≤ n → n ≤ 4 →
    (s.inputCfg n).function = .boilerFault → (s.inputCfg n).sensitivity = (if high then .high else .low) →
    (s.inputRec n).last = some high → s.boiler.state ≠ .faulted →
    (c = .inputChange n high ∧ (s.inputRec n).level = some (!high)) ∨
      (c = .inputEstablished n high ∧ (s.inputRec n).level = none) →
      ∃ t, exec c s = .next t ∧
        t.boiler.state = .faulted ∧ (∀ q, t.raised q .boiler (object n)) ∧
        t.boiler.pumpTimer =
          (if s.cfg.boiler.overrunTime = 0 then none else some s.cfg.boiler.overrunTime) ∧
        t.boiler.leadTimer = none ∧ t.boiler.overrunTimer = none ∧ t.boiler.minOnHold = false ∧
        (s.boiler.state = .firing →
          t.field.burner = false ∧ t.field.output = 0 ∧ t.field.ramp = none ∧ t.boiler.restMark = s.clock.elapsed) ∧
        (s.boiler.state ≠ .firing → t.boiler.restMark = s.boiler.restMark) ∧
        t.arbiter.sinkOpen = s.arbiter.sinkOpen) ∧
  (∀ (n : Nat) (high : Bool) (s : State), s.acting = none → s.shaped → 1 ≤ n → n ≤ 4 →
    (s.inputCfg n).function = .inhibit → (s.inputCfg n).sensitivity = (if high then .high else .low) →
    (s.inputRec n).last = some high → (s.inputRec n).level = some (!high) → s.faultInput = false →
    (s.boiler.state = .lead →
      ∃ t, exec (.inputChange n high) s = .next t ∧
        t.boiler.state = .idle ∧ t.boiler.leadTimer = none ∧ t.boiler.leadExtended = false ∧ t.boiler.leadHeld = false ∧
        (s.boiler.heatDump = false → t.arbiter.sinkOpen = false)) ∧
    (s.boiler.state = .firing → 1 ≤ s.cfg.boiler.overrunTime →
      ∃ t, exec (.inputChange n high) s = .next t ∧
        t.boiler.state = .overrun ∧ t.boiler.overrunTimer = some s.cfg.boiler.overrunTime ∧
        t.boiler.restMark = s.clock.elapsed ∧ t.field.burner = false ∧ t.field.output = 0 ∧ t.field.ramp = none)) ∧
  (∀ (n : Nat) (high : Bool) (s : State), s.acting = none → s.shaped → 1 ≤ n → n ≤ 4 →
    (s.inputCfg n).function = .boilerFault → (s.inputCfg n).sensitivity = (if high then .low else .high) →
    (s.inputRec n).last = some high → (s.inputRec n).level = some (!high) → s.boiler.state = .faulted →
    (∀ m, m ≠ n → (s.inputCfg m).function = .boilerFault → s.inputActive m = false) →
      ∃ t, exec (.inputChange n high) s = .next t ∧ t.boiler.state ≠ .faulted ∧ t.boiler.pumpTimer = none ∧
        t.boiler.restMark = s.boiler.restMark ∧
        (s.minOffElapsed = false → t.boiler.state = .rest ∧
          (s.boiler.heatDump = false → t.arbiter.sinkOpen = false)))

/-- An accepted INPUT-SET gives the input its configuration and leaves its level and edges; the configuration it holds
already changes nothing (R154). An active input hands its change over: a WINDOW is placed for the new zone and taken
from the old one, FAULTED is entered with BOILER raised, or ended, an INHIBIT ends LEAD and FIRING; other channels stay
(R158, R37, R38, R129, R140). A pair that does not fit, a field missing, surplus or out of range, and a number of no
input are refused RANGE (R154). INPUT-GET reports, and with the clear indication sets the edge counts it names to 0
(R159). The order and the encoding of the data are the model's choice (logs 8 and 40). -/
def Obligations.InputRequestsConfigureAndReport : Prop :=
  (∀ (p : Port) (n : Nat) (sens : Sensitivity) (f : InputFunction) (s : State), s.takes p → s.storeWriting = false →
    s.shaped → 1 ≤ n → n ≤ 4 → f.allowed sens →
      ∃ t, exec (.inputSet p n sens.code f.code f.fields.1 f.fields.2.1 f.fields.2.2) s = .next t ∧
        s.replied t p 0x32 (.done {} []) [.stack, .boiler, .capacity, .sink] ∧
        t = { s with cfg := t.cfg, channels := t.channels, table := t.table, heads := t.heads, link := t.link,
                     arbiter := t.arbiter, boiler := t.boiler, field := t.field, claim := s.keptAlive p,
                     main := t.main, service := t.service } ∧
        t.cfg = { s.cfg with inputs := setItem s.cfg.inputs n ⟨sens, f⟩ } ∧ t.field.inputs = s.field.inputs ∧
        (s.inputCfg n = ⟨sens, f⟩ → s.onlyReplied t p) ∧
        (∀ c, f ≠ .window c → (s.inputCfg n).function ≠ .window c → t.channel c = s.channel c) ∧
        (s.inputCfg n ≠ ⟨sens, f⟩ →
          (∀ k, f = .window k → s.parked k = false → (s.inputRec n).level = some (sens == .high) →
            (t.channel k).stack =
              (if (s.channel k).stack.any (·.kind == .window) then
                (s.channel k).stack.map fun l =>
                  if l.kind = .window ∧ l.origin = .detect then { l with origin := .input, remaining := none } else l
              else
                (if 4 ≤ (s.channel k).stack.length then (s.channel k).stack.tail else (s.channel k).stack)
                  ++ [⟨.window, none, none, .input⟩]) ∧
            (4 ≤ (s.channel k).stack.length → (∀ l ∈ (s.channel k).stack, l.kind ≠ .window) →
              ∀ q, t.raised q .stack (object k))) ∧
          (∀ k, (s.inputCfg n).function = .window k → s.inputActive n = true →
            (∀ m, m ≠ n → (s.inputCfg m).function = .window k → s.inputActive m = false) →
            (t.channel k).stack = (s.channel k).stack.filter (fun l => !(l.kind == .window && l.origin == .input))) ∧
          (f = .boilerFault → (s.inputRec n).level = some (sens == .high) → s.boiler.state ≠ .faulted →
            t.boiler.state = .faulted ∧ ∀ q, t.raised q .boiler (object n)) ∧
          ((s.inputCfg n).function = .boilerFault → s.inputActive n = true → s.boiler.state = .faulted →
            (∀ m, m ≠ n → (s.inputCfg m).function = .boilerFault → s.inputActive m = false) → s.minOffElapsed = false →
            t.boiler.state = .rest) ∧
          (f = .inhibit → (s.inputRec n).level = some (sens == .high) → s.faultInput = false →
            (s.boiler.state = .lead → t.boiler.state = .idle) ∧
            (s.boiler.state = .firing → 1 ≤ s.cfg.boiler.overrunTime → t.boiler.state = .overrun)))) ∧
  (∀ (p : Port) (n a b : Nat) (z : Option Nat) (x : Option Temp) (m : Option Nat) (s : State),
    s.takes p → s.storeWriting = false →
    (n = 0 ∨ 4 < n ∨ 3 < a ∨ 4 < b ∨ (b = 0 ∧ (z ≠ none ∨ x ≠ none ∨ m ≠ none)) ∨
      (b = 1 ∧ (1 < a ∨ (∀ k, z = some k → k = 0 ∨ 16 < k) ∨ x ≠ none ∨ m ≠ none)) ∨
      ((b = 2 ∨ b = 3) ∧ (1 < a ∨ z ≠ none ∨ x ≠ none ∨ m ≠ none)) ∨
      (b = 4 ∧ (a < 2 ∨ (∀ k, z = some k → k = 0 ∨ 16 < k) ∨ (∀ t, x = some t → t < -400 ∨ 1250 < t) ∨
        (∀ j, m = some j → j = 0 ∨ 1440 < j))) →
      refusesWith (.inputSet p n a b z x m) p 0x32 (.refused .range) s)) ∧
  (∀ (p : Port) (n : Option Nat) (clear : Bool) (s : State), s.takes p → s.shaped →
    ((∀ k, n = some k → 1 ≤ k ∧ k ≤ 4) →
      ∃ t, exec (.inputGet p n clear) s = .next t ∧
        s.replied t p 0x33 (.done {} ((n.elim [1, 2, 3, 4] fun k => [k]).flatMap s.inputBytes ++ s.field.flow.bytes
          ++ s.field.outdoor.bytes ++ s.field.cylinder.bytes ++ [if s.field.supplyOk then 1 else 0]
          ++ optOf (fun v => bytesLow 2 (BitVec.ofInt 16 (v : Int)).toNat) s.field.supplyLast)) [] ∧
        t = { s with field := t.field, claim := s.keptAlive p, main := t.main, service := t.service } ∧
        t.field = { s.field with inputs := t.field.inputs } ∧
        ∀ k, 1 ≤ k → k ≤ 4 → t.inputRec k =
          if clear = true ∧ (n = none ∨ n = some k) then { s.inputRec k with edges := 0 } else s.inputRec k) ∧
    (∀ k, n = some k → k = 0 ∨ 4 < k → refusesWith (.inputGet p n clear) p 0x33 (.refused .range) s))

/-! ## Valve link and heads -/

/-- A good reply ends the transaction, and its position, calibrated flag and temperature become the slot's, the miss
count 0 (R89); a reply to a POLL moves the cursor to its slot (R88; that it moves then is log 12). The head's state is
that of R89's table, with its move gone where one ended, or, with link and supply OK, the head has been granted an
entry again in the same event (R94, R118): a READY head a drive or a homing, another the HOME that waited or that the
reply asked for. An AT REST reply to an accepted move renews last-moved, and to a homing clears the retry count. The
temperature of a good reply becomes the reading of every zone whose source is that head, with the elapsed minute; one
outside −400 to 1250 leaves the reading and raises SENSOR for the zone; other zones keep theirs (R49, R48). The reply
to a head's own DRIVE or HOME accepts the move: RUNNING starts the timer of R95, the others end the move at once;
before it any other reply leaves the move alone (R93). RUNNING from a head that has no move adds a STOP, UNCALIBRATED
asks for a homing, and STALL and a failed homing raise STALL with a retry due in 60 minutes while the count is below 3
(R89, R94). A head that becomes READY has the slot's wanted target offered again, from the position it reports (R111,
R110; shown with the supply LOW, and for a CYLINDER or SINK slot with the boiler in REST). Retries kept in every state
but at the end of a homing are log 18's reading of R84; that a temperature out of range is stored with the head is log
20's. -/
def Obligations.GoodReplyUpdatesHeadAndReadings : Prop :=
  (∀ (v pos : Nat) (running stall calibrated : Bool) (x : Option Temp) (req : LinkRequest) (s : State),
    s.acting = none → s.shaped → s.link.transaction = some ⟨v, req⟩ → pos ≤ 100 → 1 ≤ v → v ≤ 32 →
      ∃ t, exec (.goodReply v pos running stall calibrated x) s = .next t ∧
        t = { s with zones := t.zones, table := t.table, heads := t.heads, link := t.link, arbiter := t.arbiter,
                     boiler := t.boiler, field := t.field, main := t.main, service := t.service } ∧
        s.portsKept t [.sensor, .stall, .boiler, .capacity, .sink] ∧
        (t.head v).position = pos ∧ (t.head v).calibrated = calibrated ∧ (t.head v).temperature = x ∧
        (t.head v).misses = 0 ∧
        t.link.cursor = (if req = .poll then v else s.link.cursor) ∧
        ((s.head v).state ≠ .moving → (s.head v).state ≠ .homing → (t.head v).lastMoved = (s.head v).lastMoved ∧
          (t.head v).retries = (s.head v).retries) ∧
        (s.used v = true → stall = false → running = false → calibrated = true →
          (s.head v).state = .moving ∨ (s.head v).state = .homing → (s.head v).move.any (·.accepted) = true →
          (t.head v).lastMoved = s.clock.elapsed ∧
          (t.head v).retries = if (s.head v).state = .homing then 0 else (s.head v).retries) ∧
        (s.used v = true →
          (s.head v).state ≠ .moving ∧ (s.head v).state ≠ .homing ∨ (s.head v).move.any (·.accepted) = true →
          ∀ r : HeadState, r = (match (s.head v).state, stall, running, calibrated with
            | .stalled, _, _, _ => .stalled
            | _, true, _, _ => .stalled
            | .moving, false, true, _ => .moving
            | .homing, false, true, _ => .homing
            | _, false, true, _ => .unknown
            | _, false, false, true => .ready
            | .homing, false, false, false => .stalled
            | _, false, false, false => .unknown) →
            ((t.head v).state = r ∧
              ((s.head v).state = .moving ∨ (s.head v).state = .homing → r ≠ (s.head v).state → (t.head v).move = none)) ∨
            (r = .ready ∧ (s.regranted t v pos .drive ∨ s.regranted t v pos .home)) ∨
            ((r = .stalled ∨ r = .unknown) ∧ s.homedAgain t v pos) ∨
            (r = .unknown ∧ running = false ∧ s.regranted t v pos .home))) ∧
  (∀ (v pos k : Nat) (running stall calibrated : Bool) (x : Temp) (req : LinkRequest) (s : State),
    s.acting = none → s.shaped → s.link.transaction = some ⟨v, req⟩ → pos ≤ 100 → 1 ≤ k → k ≤ 16 →
      ∃ t, exec (.goodReply v pos running stall calibrated (some x)) s = .next t ∧
        t.zone k = { s.zone k with
          reading :=
            if (s.zoneCfg k).source = some v ∧ -400 ≤ x ∧ x ≤ 1250 then some ⟨x, s.clock.elapsed⟩
            else (s.zone k).reading } ∧
        ((s.zoneCfg k).source = some v → x < -400 ∨ 1250 < x → ∀ q, t.raised q .sensor (object k))) ∧
  (∀ (v pos : Nat) (running stall calibrated : Bool) (x : Option Temp) (req : LinkRequest) (m : Move) (s : State),
    s.acting = none → s.shaped → s.link.transaction = some ⟨v, req⟩ → pos ≤ 100 → 1 ≤ v → v ≤ 32 →
    ((s.head v).state = .moving ∨ (s.head v).state = .homing) → (s.head v).move = some m → m.accepted = false →
    ((∀ c ∈ s.link.commands, c.slot = v → c.sent = true → c.request = .poll ∨ c.request = .stop) →
      ∃ t, exec (.goodReply v pos running stall calibrated x) s = .next t ∧
        t.head v = { s.head v with position := pos, calibrated, temperature := x, misses := 0 }) ∧
    (∀ cmd, s.link.commands.find? (fun c => c.slot == v && c.sent) = some cmd →
      (cmd.request = .home ∨ ∃ target, cmd.request = .drive target) →
      (running = true → stall = false →
        ∃ t, exec (.goodReply v pos running stall calibrated x) s = .next t ∧
          t.head v = { s.head v with
            position := pos, calibrated, temperature := x, misses := 0
            move := some { m with
              accepted := true
              timer := some (10 + if (s.head v).state = .homing then (3 * m.stroke + 1) / 2
                else (3 * m.stroke * (max m.target m.start - min m.target m.start) + 199) / 200) } }) ∧
      (running = false → stall = false → calibrated = true →
        ∃ t, exec (.goodReply v pos running stall calibrated x) s = .next t ∧
          (t.head v).lastMoved = s.clock.elapsed ∧
          (t.head v).retries = (if (s.head v).state = .homing then 0 else (s.head v).retries) ∧
          ((t.head v).state = .ready ∧ (t.head v).move = none ∨
            s.regranted t v pos .drive ∨ s.regranted t v pos .home)) ∧
      (stall = true ∨ (running = false ∧ calibrated = false ∧ (s.head v).state = .homing) →
        ∃ t, exec (.goodReply v pos running stall calibrated x) s = .next t ∧
          (∀ q, t.raised q .stall (object v)) ∧
          ((t.head v).state = .stalled ∧ (t.head v).move = none ∧
              (t.head v).retryDue = (if (s.head v).retries < 3 then some (s.clock.elapsed + 60) else none) ∨
            s.homedAgain t v pos)) ∧
      (stall = false → running = false → calibrated = false → (s.head v).state = .moving →
        ∃ t, exec (.goodReply v pos running stall calibrated x) s = .next t ∧
          ((t.head v).state = .unknown ∧ (t.head v).move = none ∧
              (s.used v = true → s.queueOk → ∃ e ∈ t.queued v, e.op = .home ∧ e.target = 0) ∨
            s.regranted t v pos .home)))) ∧
  (∀ (v pos : Nat) (running stall calibrated : Bool) (x : Option Temp) (req : LinkRequest) (s : State),
    s.acting = none → s.shaped → s.link.transaction = some ⟨v, req⟩ → pos ≤ 100 → 1 ≤ v → v ≤ 32 → s.used v = true →
    s.queueOk →
    ∃ t, exec (.goodReply v pos running stall calibrated x) s = .next t ∧
      (stall = false → running = true → (s.head v).state ≠ .moving → (s.head v).state ≠ .homing →
        (∃ c ∈ t.link.commands, c.slot = v ∧ c.request = .stop) ∨ s.homedAgain t v pos) ∧
      (stall = false → running = false → calibrated = false →
        (s.head v).state = .unknown ∨ (s.head v).state = .absent ∨ (s.head v).state = .ready ∨
          (s.head v).state = .moving ∧ (s.head v).move.any (·.accepted) = true →
        (∃ e ∈ t.queued v, e.op = .home ∧ e.target = 0) ∨ s.regranted t v pos .home) ∧
      (stall = true ∧ ((s.head v).state = .unknown ∨ (s.head v).state = .absent ∨ (s.head v).state = .ready) ∨
          (s.head v).move.any (·.accepted) = true ∧
            (stall = true ∧ (s.head v).state = .moving ∨
              (s.head v).state = .homing ∧ (stall = true ∨ running = false ∧ calibrated = false)) →
        (∀ q, t.raised q .stall (object v)) ∧
          ((t.head v).move = none ∧
              (t.head v).retryDue = (if (s.head v).retries < 3 then some (s.clock.elapsed + 60) else none) ∨
            s.homedAgain t v pos)) ∧
      (∀ w, s.field.supplyOk = false → (s.head v).state ≠ .ready → (t.head v).state = .ready → s.wantedOf v = some w →
        (∃ k dump, (s.valveCfg v).role = .zone k dump) ∨ (s.boiler.state = .rest ∧ s.faultInput = false) →
        t.wantedOf v = some w ∧
          (s.setHead v { s.head v with state := .ready, position := pos }).offered t v w))

/-- A miss counts up; the third in a row makes the head ABSENT: its move ends, counts and retry due go, its queue entry
and commands leave, and ABSENT is raised (R90). A head that is ABSENT stays as it is. A reply that is discarded has no
effect, and one from another address or out of range is no good reply (R85). That the cursor moves to the slot of a
POLL when its miss ends it is read from R88 (log 12). -/
def Obligations.MissesMakeTheHeadAbsent : Prop :=
  (∀ (v : Nat) (req : LinkRequest) (s : State), s.acting = none → s.shaped → 1 ≤ v → v ≤ 32 →
    s.link.transaction = some ⟨v, req⟩ →
      ∃ t, exec .miss s = .next t ∧
        t = { s with table := t.table, heads := t.heads, link := t.link, arbiter := t.arbiter, boiler := t.boiler,
                     field := t.field, main := t.main, service := t.service } ∧
        s.portsKept t [.absent, .boiler, .capacity, .sink] ∧
        t.link.cursor = (if req = .poll then v else s.link.cursor) ∧
        ((s.head v).state ≠ .absent → (s.head v).misses < 2 → (t.head v).misses = (s.head v).misses + 1) ∧
        ((s.head v).state ≠ .absent → 2 ≤ (s.head v).misses →
          t.head v = { s.head v with state := .absent, move := none, misses := 0, retries := 0, retryDue := none } ∧
          (∀ e ∈ t.arbiter.queue, e.slot ≠ v) ∧ (∀ c ∈ t.link.commands, c.slot ≠ v) ∧
          ∀ q, t.raised q .absent (object v)) ∧
        ((s.head v).state = .absent → t.head v = s.head v)) ∧
  (∀ (a : Nat) (pass : Bool) (pos : Nat) (s : State), exec (.discardedReply pass a pos) s = .next s) ∧
  ∀ (a pos : Nat) (running stall calibrated : Bool) (x : Option Temp) (s : State),
    (∀ req, s.link.transaction ≠ some ⟨a, req⟩) ∨ 100 < pos →
      exec (.goodReply a pos running stall calibrated x) s = .next s

/-- A move timer that expires stalls the head: its move ends, STALL is raised, a retry is due 60 minutes on while the
retry count is below 3, and a STOP is pending or in flight (R95, R94); a HOME that waits for the slot may be granted at
once, with the STALLED head HOMING then (R117). A stall retry at its due minute counts up, makes retry due absent and
asks for a homing: a HOME entry waits for the slot in use, or the head is HOMING (R96, R114). -/
def Obligations.StalledHeadsAreTimedOutAndRetried : Prop :=
  (∀ (v : Nat) (m : Move) (s : State), s.acting = none → s.shaped → 1 ≤ v → v ≤ 32 →
    ((s.head v).state = .moving ∨ (s.head v).state = .homing) → (s.head v).move = some m → m.accepted = true →
    m.timer = some 0 →
      ∃ t, exec (.moveTimeout v) s = .next t ∧
        t = { s with table := t.table, heads := t.heads, link := t.link, arbiter := t.arbiter, boiler := t.boiler,
                     field := t.field, main := t.main, service := t.service } ∧
        (∀ q, t.raised q .stall (object v)) ∧
        (t.head v = { s.head v with
            state := .stalled, move := none
            retryDue := if (s.head v).retries < 3 then some (s.clock.elapsed + 60) else none } ∧
            (∃ c ∈ t.link.commands, c.slot = v ∧ c.request = .stop) ∨
          (t.head v).state = .homing ∧ ∃ e ∈ s.arbiter.queue, e.slot = v ∧ e.op = .home)) ∧
  (∀ (v : Nat) (s : State), s.acting = none → s.shaped → 1 ≤ v → v ≤ 32 → (s.head v).state = .stalled →
    (s.head v).retryDue = some s.clock.elapsed → s.used v = true →
      ∃ t, exec (.stallRetry v) s = .next t ∧
        t = { s with table := t.table, heads := t.heads, link := t.link, arbiter := t.arbiter, boiler := t.boiler,
                     field := t.field, main := t.main, service := t.service } ∧
        (t.head v).retries = (s.head v).retries + 1 ∧ (t.head v).retryDue = none ∧
        ((t.head v).state = .homing ∨ ((t.head v).state = .stalled ∧ ∃ e ∈ t.arbiter.queue, e.slot = v ∧ e.op = .home)))

/-- An overcurrent puts the link in FAULT: the transaction is gone, the command list empty, every running head UNKNOWN
with its move ended, LINK raised with those slots, and the committed capacity 0; the other heads stay. In FAULT a
further one changes nothing (R98, R75, R99). LINK-CLEAR in FAULT makes the link OK, every head UNKNOWN with counts 0
and no retry due, its reported fields and last-moved kept; a HOME that waits may be granted at once, which is the
model's choice by R118 against R100's words (log 37). With the link OK it is refused STATE (R100). -/
def Obligations.LinkFaultAndLinkClearEndEveryMove : Prop :=
  (∀ s : State,
    (s.acting = none → s.shaped → s.link.fault = false →
      ∃ t, exec .linkFault s = .next t ∧
        t = { s with table := t.table, heads := t.heads, link := t.link, arbiter := t.arbiter, boiler := t.boiler,
                     field := t.field, main := t.main, service := t.service } ∧
        t.link = { s.link with fault := true, transaction := none, commands := [] } ∧
        (∀ v, 1 ≤ v → v ≤ 32 → t.head v =
          if (s.head v).state = .moving ∨ (s.head v).state = .homing then
            { s.head v with state := .unknown, move := none }
          else s.head v) ∧
        (∀ v, 1 ≤ v → v ≤ 32 → (s.head v).state = .moving ∨ (s.head v).state = .homing →
          ∀ q, t.raised q .link (object v)) ∧
        t.capacity = 0) ∧
    (s.link.fault = true → exec .linkFault s = .next s)) ∧
  (∀ (p : Port) (s : State), s.takes p → s.shaped →
    (s.link.fault = true →
      ∃ t, exec (.linkClear p) s = .next t ∧ s.replied t p 0x23 (.done {} []) [.boiler, .capacity, .sink] ∧
        t = { s with table := t.table, heads := t.heads, link := t.link, arbiter := t.arbiter, boiler := t.boiler,
                     field := t.field, claim := s.keptAlive p, main := t.main, service := t.service } ∧
        t.link.fault = false ∧ t.link.cursor = s.link.cursor ∧
        ∀ v, 1 ≤ v → v ≤ 32 →
          t.head v = { s.head v with state := (t.head v).state, move := (t.head v).move, misses := 0, retries := 0,
                                     retryDue := none } ∧
          ((t.head v).state = .unknown ∧ (t.head v).move = none ∨
            (t.head v).state = .homing ∧ ∃ e ∈ s.arbiter.queue, e.slot = v ∧ e.op = .home)) ∧
    (s.link.fault = false → refusesWith (.linkClear p) p 0x23 (.refused .state) s))

/-- The actuator supply (R101, R102): the first measurement sets the state directly, below 19.0 V with SUPPLY raised
and no head stopped; from OK a measurement below 19.0 V is LOW, every running head is stopped, becomes UNKNOWN and has
a STOP pending or in flight, and SUPPLY is raised with those slots; from LOW the qualification time grows above 20.5 V,
to OK at 10 s, and returns to 0 otherwise. SUPPLY_QUALIFIED is the measurement that completes it (the model's choice,
log 14). With the link OK and the boiler staying as it is, a supply back to OK takes a grant round: the first entry of
the grant order, class before arrival, that R117 makes eligible is granted if a unit is free, and the round ends with
no unit free or no entry eligible (R116, R118, R119); the entries left carry the DEFERRED marks of R120, and the gate
is R121's, its trial capacity that of R78. -/
def Obligations.SupplyMeasurementJudgesTheSupply : Prop :=
  (∀ (v : Nat) (c : Instr) (s : State), s.acting = none → s.shaped →
    c = .supplyMeasurement v ∨
      (c = .supplyQualified v ∧ s.field.supplyLast ≠ none ∧ s.field.supplyOk = false ∧ 205 < v ∧ 99 ≤ s.field.supplyQual) →
      ∃ t, exec c s = .next t ∧
        t = { s with table := t.table, heads := t.heads, link := t.link, arbiter := t.arbiter, boiler := t.boiler,
                     field := t.field, main := t.main, service := t.service } ∧
        s.portsKept t [.supply, .boiler, .capacity, .sink] ∧ t.field.supplyLast = some v ∧
        (s.field.supplyLast = none →
          t.field.supplyOk = decide (190 ≤ v) ∧ (v < 190 →
            t.field.supplyQual = 0 ∧ t.heads = s.heads ∧ ∀ q, t.raised q .supply 0)) ∧
        (s.field.supplyLast ≠ none → s.field.supplyOk = true →
          t.field.supplyOk = decide (190 ≤ v) ∧
          (v < 190 → t.field.supplyQual = 0 ∧ (∀ q, t.raised q .supply 0) ∧
            ∀ n, 1 ≤ n → n ≤ 32 → (s.head n).state = .moving ∨ (s.head n).state = .homing →
              t.head n = { s.head n with state := .unknown, move := none } ∧
              (∀ q, t.raised q .supply (object n)) ∧ ∃ cmd ∈ t.link.commands, cmd.slot = n ∧ cmd.request = .stop)) ∧
        (s.field.supplyLast ≠ none → s.field.supplyOk = false →
          (v ≤ 205 → t.field.supplyOk = false ∧ t.field.supplyQual = 0) ∧
          (205 < v → t.field.supplyQual = s.field.supplyQual + 1 ∧
            t.field.supplyOk = decide (100 ≤ s.field.supplyQual + 1)))) ∧
  (∀ (v : Nat) (s : State), s.acting = none → s.shaped → s.queueOk → s.boilerStays → s.link.fault = false →
    s.field.supplyLast ≠ none → s.field.supplyOk = false → 205 < v → 99 ≤ s.field.supplyQual →
    ∃ t, exec (.supplyMeasurement v) s = .next t ∧ t.field.supplyOk = true ∧ t.boiler = s.boiler ∧
      (∀ e ∈ t.arbiter.queue, e.deferred = true ↔
        e.op = .drive ∧ t.committed e.slot < e.target ∧ t.consumerDeferred e.slot = true) ∧
      (∀ e ∈ s.arbiter.queue, t.queued e.slot = s.queued e.slot ∨ s.granted t e) ∧
      (t.unitsInUse < t.cfg.boiler.motorAllowance → ∀ e ∈ t.arbiter.queue, ¬ t.mayRun e) ∧
      (s.cfg.boiler.motorAllowance ≤ s.unitsInUse → t.heads = s.heads ∧ ∀ n, t.queued n = s.queued n) ∧
      (∀ a e b, s.arbiter.queue = a ++ e :: b → s.unitsInUse < s.cfg.boiler.motorAllowance →
        { s with field := t.field }.mayRun e →
        (∀ x ∈ a, { s with field := t.field }.mayRun x → e.cls.code < x.cls.code) →
        (∀ x ∈ b, { s with field := t.field }.mayRun x → e.cls.code ≤ x.cls.code) → s.granted t e)) ∧
  (∀ (e : Entry) (s : State), s.shaped → s.link.fault = false → 1 ≤ e.slot → e.slot ≤ 32 →
    s.trialCapacity e = (s.setHead e.slot { s.head e.slot with
      state := .ready
      position := if e.op = .drive then min (s.committed e.slot) e.target else 0 }).capacity)

/-- An accepted VALVE-SET gives the slot its configuration (R82), the value listed for each field code or the one it
held (R171), the last one of a repeated code (log 10). It is accepted when every value listed is within its range, both
ends included, lift min stays below lift max, the role ZONE has a zone, listed or held, and another role lists neither
zone nor dump flag (R82). A slot made UNUSED has no entry, no wanted target and no retry due; one that comes into use
has counts 0 and is UNKNOWN unless its head runs; a new assignment forms the wanted target afresh from its cause (R107,
R108, R109) and asks again for a homing that waited (R83). The values a slot holds already change nothing. VALVE-HOME
of a slot in use whose head is not ABSENT clears the retry count and retry due, and a HOME entry waits for the slot or
its head is HOMING; an UNUSED slot and an ABSENT head are refused STATE, a number of no slot RANGE (R97). With the
supply LOW and the boiler staying, a new HOME is of class HOMING with the next arrival number, a waiting DRIVE becomes
a HOME in its place, a waiting HOME and a head that is HOMING stay (R114, R112). -/
def Obligations.ValveRequestsConfigureAndHome : Prop :=
  (∀ (p : Port) (v : Nat) (fields : List (Nat × Int)) (cfg : ValveCfg) (s : State),
    s.takes p → s.storeWriting = false → s.shaped → 1 ≤ v → v ≤ 32 → valveDraft (s.valveCfg v) fields = some cfg →
      ∃ t, exec (.valveSet p v fields) s = .next t ∧
        s.replied t p 0x20 (.done {} []) [.boiler, .capacity, .sink] ∧
        t = { s with cfg := t.cfg, table := t.table, heads := t.heads, link := t.link, arbiter := t.arbiter,
                     boiler := t.boiler, field := t.field, claim := s.keptAlive p, main := t.main,
                     service := t.service } ∧
        t.cfg = { s.cfg with valves := setItem s.cfg.valves v cfg } ∧ t.valveCfg v = cfg ∧
        (cfg = s.valveCfg v → s.onlyReplied t p) ∧
        ((s.valveCfg v).role ≠ .unused → cfg.role = .unused →
          (∀ e ∈ t.arbiter.queue, e.slot ≠ v) ∧ t.wantedOf v = none ∧ (t.head v).retryDue = none) ∧
        ((s.valveCfg v).role = .unused → cfg.role ≠ .unused →
          (t.head v).misses = 0 ∧ (t.head v).retries = 0 ∧ t.wantedOf v = t.wantedBy cfg) ∧
        ((s.valveCfg v).role.sameAssignment cfg.role = false → cfg.role ≠ .unused → t.wantedOf v = t.wantedBy cfg)) ∧
  (∀ (p : Port) (v : Nat) (s : State), s.takes p → s.shaped →
    (1 ≤ v → v ≤ 32 → s.used v = true → (s.head v).state ≠ .absent →
      ∃ t, exec (.valveHome p v) s = .next t ∧ s.replied t p 0x22 (.done {} []) [.boiler, .capacity, .sink] ∧
        t = { s with table := t.table, heads := t.heads, link := t.link, arbiter := t.arbiter, boiler := t.boiler,
                     field := t.field, claim := s.keptAlive p, main := t.main, service := t.service } ∧
        (t.head v).retries = 0 ∧ (t.head v).retryDue = none ∧
        ((t.head v).state = .homing ∨ ∃ e ∈ t.arbiter.queue, e.slot = v ∧ e.op = .home)) ∧
    (1 ≤ v → v ≤ 32 → s.used v = false ∨ (s.head v).state = .absent →
      refusesWith (.valveHome p v) p 0x22 (.refused .state) s) ∧
    (v = 0 ∨ 32 < v → refusesWith (.valveHome p v) p 0x22 (.refused .range) s)) ∧
  (∀ (p : Port) (v : Nat) (fields : List (Nat × Int)) (cfg : ValveCfg) (s : State),
    s.takes p → s.storeWriting = false → s.shaped → 1 ≤ v → v ≤ 32 → valveDraft (s.valveCfg v) fields = some cfg →
      ∃ t, exec (.valveSet p v fields) s = .next t ∧
        ((s.valveCfg v).role = .unused → cfg.role ≠ .unused → s.queued v = [] →
          if (s.head v).state = .moving ∨ (s.head v).state = .homing then (t.head v).state = (s.head v).state
          else t.head v = { s.head v with state := .unknown, move := none, misses := 0, retries := 0, retryDue := none }) ∧
        (∀ e, (s.valveCfg v).role ≠ .unused → cfg.role ≠ .unused → (s.valveCfg v).role.sameAssignment cfg.role = false →
          s.queued v = [e] → e.op = .home → (s.head v).state ≠ .absent →
          (t.head v).state = .homing ∨ ∃ e ∈ t.queued v, e.op = .home)) ∧
  (∀ (p : Port) (v : Nat) (s : State), s.takes p → s.shaped → 1 ≤ v → v ≤ 32 → s.used v = true →
    (s.head v).state ≠ .absent → s.field.supplyOk = false → s.boilerStays → s.arbiter.arrivals ≤ 4294967295 →
    ∃ t, exec (.valveHome p v) s = .next t ∧
      ((s.head v).state = .homing → t.queued v = s.queued v ∧ t.arbiter.arrivals = s.arbiter.arrivals) ∧
      ((s.head v).state ≠ .homing →
        (s.queued v = [] →
          t.queued v = [⟨v, .home, 0, .homing, s.arrivalNext, false⟩] ∧ t.arbiter.arrivals = s.arrivalNext) ∧
        ∀ e, s.queued v = [e] → t.arbiter.arrivals = s.arbiter.arrivals ∧
          t.queued v = [if e.op = .drive then
              { e with op := .home, target := 0, cls := if e.cls = .exercise then .homing else e.cls }
            else e])) ∧
  (∀ (x cfg : ValveCfg) (fields : List (Nat × Int)), valveDraft x fields = some cfg → ∀ code, 1 ≤ code → code ≤ 8 →
    cfg.role.code = 1 ∨ (code ≠ 2 ∧ code ≠ 3) →
      cfg.values.getD (code - 1) 0 = listed fields code (x.values.getD (code - 1) 0)) ∧
  (∀ (p : Port) (v : Nat) (fields : List (Nat × Int)) (s : State), s.takes p → s.storeWriting = false → s.shaped →
    1 ≤ v → v ≤ 32 → listsInRange valveRanges fields →
    listed fields 5 (s.valveCfg v).liftMin < listed fields 6 (s.valveCfg v).liftMax →
    (if listed fields 1 (s.valveCfg v).role.code = 1 then (s.valveCfg v).role.code = 1 ∨ ∃ f ∈ fields, f.1 = 2
      else ∀ f ∈ fields, f.1 ≠ 2 ∧ f.1 ≠ 3) →
      (∃ cfg, valveDraft (s.valveCfg v) fields = some cfg) ∧
        ∃ t, exec (.valveSet p v fields) s = .next t ∧
          s.replied t p 0x20 (.done {} []) [.boiler, .capacity, .sink])

/-! ## Boiler -/

/-- The lead expiry, its cases in order (R133): a heat dump holds it; with capacity at the sink minimum the burner
lights with the fire mark and a ramp from 0; else the lead is extended once, by the lead time or 30 s; else it is a
shortfall: REST with the rest mark, SINK raised with the SINK slots. Here some consumer requests, no blocker is
present, and min-off is not 0, with which REST is left in the same event. -/
def Obligations.LeadExpiryTakesItsCasesInOrder : Prop :=
  ∀ s : State, s.acting = none → s.shaped → s.boiler.state = .lead → s.boiler.leadTimer = some 0 →
    s.anyRequest = true → s.blocked = false → 1 ≤ s.cfg.boiler.minOff →
      ∃ t, exec .leadExpiry s = .next t ∧
        t = { s with table := t.table, heads := t.heads, link := t.link, arbiter := t.arbiter, boiler := t.boiler,
                     field := t.field, main := t.main, service := t.service } ∧
        s.portsKept t [.sink] ∧
        (if s.boiler.heatDump then
          t.boiler = { s.boiler with leadHeld := true, leadTimer := none }
        else if s.sinkMinimum ≤ s.capacity then
          t.boiler = { s.boiler with state := .firing, fireMark := s.clock.elapsed, leadTimer := none,
                                     leadExtended := false, leadHeld := false, overrunTimer := none, pumpTimer := none,
                                     minOnHold := false } ∧
          t.field = { s.field with
            burner := true, pump := true
            output := if s.boiler.modulationTarget = 0 then 0 else s.field.output
            ramp := if s.boiler.modulationTarget = 0 then none
              else some { start := 0, target := s.boiler.modulationTarget, next := 1, timer := s.cfg.boiler.rampStep } }
        else if s.boiler.leadExtended = false then
          t.boiler = { s.boiler with
            leadExtended := true
            leadTimer := some (if s.cfg.boiler.leadTime = 0 then 30 else s.cfg.boiler.leadTime) } ∧
          t.arbiter.sinkOpen = true
        else
          t.boiler = { s.boiler with state := .rest, restMark := s.clock.elapsed, leadTimer := none,
                                     leadExtended := false, leadHeld := false, overrunTimer := none, pumpTimer := none,
                                     minOnHold := false } ∧
          t.arbiter.sinkOpen = false ∧
          ∀ v, 1 ≤ v → v ≤ 32 → (s.valveCfg v).role = .sink → ∀ q, t.raised q .sink (object v))

/-- The ends of the boiler's waits with no boiler fault input active (R135, R136, R138, R139): min-on in its hold ends
the firing in OVERRUN, burner and output off, rest mark now; the overrun timer ends in REST; min-off ends in IDLE, or
in LEAD with requests standing and no blocker. In FAULTED the pump timer's end stops the pump run (R140). -/
def Obligations.BoilerWaitsEnd : Prop :=
  ∀ s : State, s.acting = none → s.shaped →
    (s.boiler.state = .firing → s.boiler.minOnHold = true → s.minOnElapsed = true → s.faultInput = false →
      1 ≤ s.cfg.boiler.overrunTime →
      ∃ t, exec .minOnElapsed s = .next t ∧ s.portsKept t [] ∧
        t.boiler.state = .overrun ∧ t.boiler.overrunTimer = some s.cfg.boiler.overrunTime ∧
        t.boiler.restMark = s.clock.elapsed ∧ t.boiler.fireMark = s.boiler.fireMark ∧ t.boiler.minOnHold = false ∧
        t.field = { s.field with burner := false, output := 0, ramp := none, pump := true }) ∧
    (s.boiler.state = .overrun → s.boiler.overrunTimer = some 0 → s.faultInput = false → s.minOffElapsed = false →
      ∃ t, exec .overrunExpiry s = .next t ∧ s.portsKept t [] ∧
        t.boiler = { s.boiler.cleared with state := .rest } ∧
        (s.boiler.heatDump = false → t.arbiter.sinkOpen = false) ∧
        t.field = { s.field with pump := s.boiler.heatDump || s.frostRun }) ∧
    (s.boiler.state = .rest → s.minOffElapsed = true → s.faultInput = false →
      s.anyRequest = false ∨ s.held = true →
      ∃ t, exec .minOffElapsed s = .next t ∧ s.portsKept t [] ∧
        t.boiler = { s.boiler.cleared with state := .idle } ∧
        t.field = { s.field with pump := s.boiler.heatDump || s.frostRun }) ∧
    (s.boiler.state = .rest → s.minOffElapsed = true → s.faultInput = false → s.anyRequest = true → s.held = false →
      1 ≤ s.cfg.boiler.leadTime →
      ∃ t, exec .minOffElapsed s = .next t ∧ s.portsKept t [] ∧
        t.boiler = { s.boiler.cleared with state := .lead, leadTimer := some s.cfg.boiler.leadTime } ∧
        (s.capacity < s.sinkMinimum → t.arbiter.sinkOpen = true) ∧ t.field = { s.field with pump := true }) ∧
    (s.boiler.state = .faulted → s.boiler.pumpTimer = some 0 → s.faultInput = true →
      ∃ t, exec .pumpTimerExpiry s = .next t ∧ s.portsKept t [] ∧
        t.boiler = { s.boiler with pumpTimer := none } ∧
        t.field = { s.field with pump := s.boiler.heatDump || s.frostRun })

/-- An accepted BOILER-SET takes effect in its event: the settings stand, flow setpoint and modulation target are
computed from them, in FIRING a changed target hands over a ramp from the present output (R130, R163), and a sink
minimum raised above the capacity ends FIRING with CAPACITY raised, or sets sink-open in LEAD (R145, R79, R137, R132).
Min-on and min-off are judged afresh: a firing without requests ends in OVERRUN or is held, REST is left for IDLE or
LEAD or goes on (R128, R145). With the controller staying, its timers and marks stay, and a grant round is taken under
the new allowance: the first entry of the grant order that may run is granted if a unit is free, and no entry that may
run waits while one is (R116, R118). An allowance below the heads that run is refused STATE (R116). Field code by field
code the settings hold the value listed, or the one held before (R171), the last one of a repeated code (log 10). A
request is accepted whose values all lie within their ranges, both ends included, and whose relations hold (R145). -/
def Obligations.BoilerSetTakesEffectAtOnce : Prop :=
  (∀ (p : Port) (fields : List (Nat × Int)) (b : BoilerCfg) (s : State),
    s.takes p → s.storeWriting = false → s.shaped → s.tableFollows → boilerDraft s.cfg.boiler fields = some b →
    (s.cfg.boiler.motorAllowance ≤ b.motorAllowance ∨ s.unitsInUse ≤ b.motorAllowance →
      ∃ t, exec (.boilerSet p fields) s = .next t ∧
        s.replied t p 0x30 (.done {} []) [.boiler, .capacity, .sink] ∧
        t = { s with cfg := t.cfg, table := t.table, heads := t.heads, link := t.link, arbiter := t.arbiter,
                     boiler := t.boiler, field := t.field, claim := s.keptAlive p, main := t.main,
                     service := t.service } ∧
        t.cfg = { s.cfg with boiler := b } ∧ t.flowComputed ∧ s.rampFollows t ∧
        (s.boiler.state = .firing → s.capacity < b.sinkMinimum → s.faultInput = false →
          t.boiler.state ≠ .firing ∧ t.field.burner = false ∧ t.field.output = 0 ∧ ∀ q, t.raised q .capacity 0) ∧
        (s.boiler.state = .lead → s.boiler.leadTimer ≠ none → s.anyRequest = true → s.blocked = false →
          s.capacity < b.sinkMinimum → t.boiler.state = .lead ∧ t.arbiter.sinkOpen = true)) ∧
    (b.motorAllowance < s.cfg.boiler.motorAllowance → b.motorAllowance < s.unitsInUse →
      refusesWith (.boilerSet p fields) p 0x30 (.refused .state) s)) ∧
  (∀ (p : Port) (fields : List (Nat × Int)) (b : BoilerCfg) (s u : State),
    s.takes p → s.storeWriting = false → s.shaped → s.tableFollows → boilerDraft s.cfg.boiler fields = some b →
    s.cfg.boiler.motorAllowance ≤ b.motorAllowance ∨ s.unitsInUse ≤ b.motorAllowance →
    u = { s with cfg := { s.cfg with boiler := b } } →
    (s.boiler.state = .firing → s.anyRequest = false → s.held = false → s.faultInput = false →
      b.sinkMinimum ≤ s.capacity →
      ∃ t, exec (.boilerSet p fields) s = .next t ∧
        (u.minOnElapsed = false →
          t.boiler.state = .firing ∧ t.boiler.minOnHold = true ∧ t.boiler.fireMark = s.boiler.fireMark) ∧
        (u.minOnElapsed = true → 1 ≤ b.overrunTime →
          t.boiler.state = .overrun ∧ t.boiler.overrunTimer = some b.overrunTime ∧
          t.boiler.restMark = s.clock.elapsed ∧ t.field.burner = false ∧ t.field.output = 0 ∧ t.field.ramp = none)) ∧
    (s.boiler.state = .rest → s.faultInput = false →
      ∃ t, exec (.boilerSet p fields) s = .next t ∧
        (u.minOffElapsed = false → t.boiler.state = .rest) ∧
        (u.minOffElapsed = true →
          (s.anyRequest = false ∨ s.held = true → t.boiler.state = .idle) ∧
          (s.anyRequest = true → s.held = false → 1 ≤ b.leadTime →
            t.boiler.state = .lead ∧ t.boiler.leadTimer = some b.leadTime))) ∧
    (u.boilerStays → (s.boiler.state = .rest → u.minOffElapsed = false) →
      (s.boiler.state = .firing → s.boiler.minOnHold = true → u.minOnElapsed = false) →
      ∃ t, exec (.boilerSet p fields) s = .next t ∧
        t.boiler = { s.boiler with flowSetpoint := t.boiler.flowSetpoint, parts := t.boiler.parts
                                   modulationTarget := t.boiler.modulationTarget } ∧
        (s.queueOk →
          (∀ e ∈ s.arbiter.queue, t.queued e.slot = s.queued e.slot ∨ s.granted t e) ∧
          (t.unitsInUse < b.motorAllowance → ∀ e ∈ t.arbiter.queue, ¬ t.mayRun e) ∧
          ∀ a e c, s.arbiter.queue = a ++ e :: c → s.unitsInUse < b.motorAllowance → u.mayRun e →
            (∀ x ∈ a, u.mayRun x → e.cls.code < x.cls.code) → (∀ x ∈ c, u.mayRun x → e.cls.code ≤ x.cls.code) →
            s.granted t e))) ∧
  (∀ (x b : BoilerCfg) (fields : List (Nat × Int)), boilerDraft x fields = some b → ∀ code, 1 ≤ code → code ≤ 17 →
    b.values.getD (code - 1) 0 = listed fields code (x.values.getD (code - 1) 0)) ∧
  (∀ (p : Port) (fields : List (Nat × Int)) (s : State), s.takes p → s.storeWriting = false → s.shaped →
    listsInRange boilerRanges fields →
    listed fields 9 s.cfg.boiler.baseFlow < listed fields 7 s.cfg.boiler.designFlow →
    listed fields 12 s.cfg.boiler.flowMin ≤ listed fields 13 s.cfg.boiler.flowMax →
    (s.cfg.boiler.motorAllowance : Int) ≤ listed fields 15 s.cfg.boiler.motorAllowance ∨
      (s.unitsInUse : Int) ≤ listed fields 15 s.cfg.boiler.motorAllowance →
      (∃ b, boilerDraft s.cfg.boiler fields = some b) ∧
        ∃ t, exec (.boilerSet p fields) s = .next t ∧
          s.replied t p 0x30 (.done {} []) [.boiler, .capacity, .sink])

/-- A step of the ramp gives the output start + (target − start) × w / 1000 truncated toward zero and starts the next
step's timer, or ends the ramp at step 16 (R163). Every value lies between start and target, the last is the target,
and with start and target within 0 to 1000 so is every value (R162). The weather curve is the line from base flow at
the neutral to design flow at the design outdoor temperature, rounded half away from zero and clamped between the two,
for the outdoor sensor's value, or for 0 while it is invalid (R146). The flow setpoint is the contribution clamped to
flow min … flow max: with W alone served its effective setpoint plus the flow delta, with zones and W the greater of
that and the zone flow, with nothing served flow min (R148); the modulation target is at most 928 (R149). -/
def Obligations.RampAndFlowStayWithinTheirLimits : Prop :=
  ((∀ (r : Ramp) (s : State), s.acting = none → s.field.ramp = some r → r.timer = 0 →
    ∃ t, exec .rampStep s = .next t ∧
      t = { s with field := t.field, main := t.main, service := t.service } ∧ s.portsKept t [] ∧
      t.field = { s.field with
        output := rampValue r.start r.target r.next
        ramp := if r.next < 16 then some { r with next := r.next + 1, timer := s.cfg.boiler.rampStep } else none }) ∧
  (∀ start target k w, (k, w) ∈ ([(1, 10), (2, 38), (3, 84), (4, 146), (5, 222), (6, 309), (7, 402), (8, 500), (9, 598),
      (10, 691), (11, 778), (12, 854), (13, 916), (14, 962), (15, 990), (16, 1000)] : List (Nat × Nat)) →
    (rampValue start target k : Int) = start + Int.tdiv (((target : Int) - start) * w) 1000) ∧
  ∀ start target k, 1 ≤ k → k ≤ 16 →
    min start target ≤ rampValue start target k ∧ rampValue start target k ≤ max start target ∧
      rampValue start target 16 = target) ∧
  (∀ s : State, s.cfg.boiler.inRange = true →
    s.cfg.boiler.baseFlow ≤ s.flowParts.curve ∧ s.flowParts.curve ≤ s.cfg.boiler.designFlow ∧
    weatherCurve s.cfg.boiler s.cfg.boiler.neutralOutdoor = s.cfg.boiler.baseFlow ∧
    weatherCurve s.cfg.boiler s.cfg.boiler.designOutdoor = s.cfg.boiler.designFlow ∧
    s.cfg.boiler.flowMin ≤ s.flowParts.setpoint s.cfg.boiler ∧ s.flowParts.setpoint s.cfg.boiler ≤ s.cfg.boiler.flowMax ∧
    ((∀ c, 1 ≤ c → c ≤ 17 → (s.consumer c).served = false) → s.flowParts.setpoint s.cfg.boiler = s.cfg.boiler.flowMin) ∧
    modulationOf (s.flowParts.setpoint s.cfg.boiler) ≤ 928) ∧
  (∀ (b : BoilerCfg) (x : Temp), b.inRange = true →
    ∃ y, IsRoundedHalfAway y (b.baseFlow * (b.neutralOutdoor - b.designOutdoor)
        + (b.neutralOutdoor - x) * (b.designFlow - b.baseFlow)) (b.neutralOutdoor - b.designOutdoor) ∧
      (y < b.baseFlow → weatherCurve b x = b.baseFlow) ∧ (b.designFlow < y → weatherCurve b x = b.designFlow) ∧
      (b.baseFlow ≤ y → y ≤ b.designFlow → weatherCurve b x = y)) ∧
  (∀ s : State, s.cfg.boiler.inRange = true →
    (s.field.outdoor.valid = false → s.flowParts.curve = weatherCurve s.cfg.boiler 0) ∧
    (∀ x, s.field.outdoor.valid = true → s.field.outdoor.value = some x →
      s.flowParts.curve = weatherCurve s.cfg.boiler x) ∧
    ((s.consumer 17).served = true →
      ((∀ c, 1 ≤ c → c ≤ 16 → (s.consumer c).served = false) →
        s.flowParts.setpoint s.cfg.boiler =
          clamp s.cfg.boiler.flowMin s.cfg.boiler.flowMax (s.effectiveSetpoint 17 + s.cfg.boiler.flowDelta)) ∧
      ∀ z, s.flowParts.zoneFlow = some z →
        s.flowParts.setpoint s.cfg.boiler =
          clamp s.cfg.boiler.flowMin s.cfg.boiler.flowMax (max z (s.effectiveSetpoint 17 + s.cfg.boiler.flowDelta))))

/-- The demand shift (R147): (Dmax − 500) × S / 500 rounded half away from zero, Dmax the highest demand of the served
zones, whatever the others' demands; from −S at 0 to +S at 1000, 0 at 500. The zone flow is the curve plus the shift,
and the clamp to flow min … flow max is applied once, to the result. -/
def Obligations.DemandShiftFollowsTheHighestServedDemand : Prop :=
  ∀ s : State, (∃ k, 1 ≤ k ∧ k ≤ 16 ∧ (s.consumer k).served = true) →
    ∃ (dmax : Nat) (shift : Int),
      (∃ k, 1 ≤ k ∧ k ≤ 16 ∧ (s.consumer k).served = true ∧ (s.zone k).demand = dmax) ∧
      (∀ k, 1 ≤ k → k ≤ 16 → (s.consumer k).served = true → (s.zone k).demand ≤ dmax) ∧
      IsRoundedHalfAway shift (((dmax : Int) - 500) * s.cfg.boiler.shift) 500 ∧
      (dmax = 0 → shift = -s.cfg.boiler.shift) ∧ (dmax = 500 → shift = 0) ∧ (dmax = 1000 → shift = s.cfg.boiler.shift) ∧
      (dmax ≤ 1000 → -(s.cfg.boiler.shift : Int) ≤ shift ∧ shift ≤ s.cfg.boiler.shift) ∧
      s.flowParts.shift = some shift ∧ s.flowParts.zoneFlow = some (s.flowParts.curve + shift) ∧
      ((s.consumer 17).served = false → s.flowParts.setpoint s.cfg.boiler =
        clamp s.cfg.boiler.flowMin s.cfg.boiler.flowMax (s.flowParts.curve + shift))

/-! ## Ports and frames -/

/-- A raise adds its category, objects and marks to the set, notifying if unmasked, and the first notifying category
alone sends a notice (R178); it is masked by its whole category, or when it names objects and all are masked (R177).
ATTN-GET reports every category of the port's set and empties it, a notice that waits withdrawn; the other port's set
is untouched (R178). ATTN-MASK replaces the port's mask, not the other's, and leaves both sets; a category above 15 or
an object its category has not is refused RANGE (R177). Data order and the mask's layout are log 8. -/
def Obligations.AttentionIsRaisedReadAndMasked : Prop :=
  (∀ (ps : PortState) (m : Mask) (c : Category) (objects : ObjectSet) (marks : Byte), ps.attn.length = 16 →
    (∀ n, n ≠ c.number → (ps.raise m c objects marks).attn.getD n none = ps.attn.getD n none) ∧
    (∃ a, (ps.raise m c objects marks).attn.getD c.number none = some a ∧
      a.objects = ((ps.attn.getD c.number none).map (·.objects)).getD 0 ||| objects ∧
      a.marks = ((ps.attn.getD c.number none).map (·.marks)).getD 0 ||| marks ∧
      (a.notifying = true ↔ (ps.attn.getD c.number none).any (·.notifying) = true ∨
        ¬ (m.whole = true ∨ objects ≠ 0 ∧ objects &&& ~~~m.objects = 0))) ∧
    (ps.raise m c objects marks).rx = ps.rx ∧ (ps.raise m c objects marks).cursor = ps.cursor ∧
    (ps.raise m c objects marks).tx.sending = ps.tx.sending ∧
    (ps.raise m c objects marks).tx.queue =
      if someNotifying ps.attn = false ∧
        ¬ (m.whole = true ∨ objects ≠ 0 ∧ objects &&& ~~~m.objects = 0) then ps.tx.queue ++ [.notice none]
      else ps.tx.queue) ∧
  ((∀ (p : Port) (s : State), s.takes p → s.shaped →
    ∃ t, exec (.attnGet p) s = .next t ∧
      TxFrame.served ⟨0x40, .done {} ((List.range 16).flatMap fun c => attentionBytes c ((s.port p).attn.getD c none))⟩
        ∈ (t.port p).frames ∧
      t = { s with claim := s.keptAlive p, main := t.main, service := t.service } ∧
      (t.port p).attn = List.replicate 16 none ∧ (∀ f ∈ (t.port p).tx.queue, f.isNotice = false) ∧
      (t.port p).rx = .idle ∧ (t.port p).cursor = (s.port p).cursor ∧
      ∀ q, q ≠ p → (t.port q).attn = (s.port q).attn ∧ (t.port q).rx = (s.port q).rx ∧
        (t.port q).cursor = (s.port q).cursor) ∧
  ∀ (p : Port) (items : List MaskItem) (s : State), s.takes p → s.storeWriting = false →
    ((∀ i ∈ items, i.category < 16 ∧ i.objects &&& ~~~(objectKind i.category).range = 0) →
      ∃ t, exec (.attnMask p items) s = .next t ∧ s.replied t p 0x41 (.done {} []) [] ∧
        t = { s with cfg := t.cfg, claim := s.keptAlive p, main := t.main, service := t.service } ∧
        t.cfg = (if p = .main then { s.cfg with masksMain := t.masks .main }
          else { s.cfg with masksService := t.masks .service }) ∧
        (t.masks p).length = 16 ∧
        ∀ c < 16, (t.masks p)[c]? =
          some (((items.find? (·.category == c)).map fun i => ⟨i.whole, i.objects⟩).getD ⟨false, 0⟩)) ∧
    ((∃ i ∈ items, 16 ≤ i.category ∨ i.objects &&& ~~~(objectKind i.category).range ≠ 0) →
      refusesWith (.attnMask p items) p 0x41 (.refused .range) s))

/-- EDIT-CLAIM of a free claim gives it to the port with a copy of the live tables and 120 s; of the holder it sets the
timer back; of the other port it is refused CLAIMED (R183). EDIT-DROP of the holder frees it, of another port it is
NO-CLAIM (R187). A timer run out frees it and raises EDIT at the former holder only (R184). EDIT-COMMIT of the holder
validates the staging copy by R10: with no failing program staging becomes live, the claim is free, every plan is
compiled and every preheat abandoned; else it is refused INVALID with the first failing program, and claim and staging
stay. Another port is refused NO-CLAIM (R186). What an abandoned preheat holds in IDLE is the model's choice (log 35).
-/
def Obligations.EditClaimIsHeldCommittedOrLost : Prop :=
  ((∀ (p : Port) (s : State), s.takes p →
    (s.claim = none →
      ∃ t, exec (.editClaim p) s = .next t ∧ s.replied t p 0x50 (.done {} []) [] ∧
        t = { s with claim := some ⟨p, 120, s.cfg.pool, s.cfg.programs⟩, main := t.main, service := t.service }) ∧
    (∀ c, s.claim = some c → c.holder = p →
      (∃ t, exec (.editClaim p) s = .next t ∧ s.replied t p 0x50 (.done {} []) [] ∧
        t = { s with claim := some { c with lapse := 120 }, main := t.main, service := t.service }) ∧
      ∃ t, exec (.editDrop p) s = .next t ∧ s.replied t p 0x52 (.done {} []) [] ∧
        t = { s with claim := none, main := t.main, service := t.service }) ∧
    (∀ c, s.claim = some c → c.holder ≠ p → refusesWith (.editClaim p) p 0x50 (.refused .claimed) s) ∧
    ((∀ c, s.claim = some c → c.holder ≠ p) → refusesWith (.editDrop p) p 0x52 (.refused .noClaim) s)) ∧
  ∀ (c : EditClaim) (s : State), s.acting = none → s.shaped → s.claim = some c → c.lapse = 0 →
    ∃ t, exec .editClaimLapse s = .next t ∧ t = { s with claim := none, main := t.main, service := t.service } ∧
      s.portsKept t [.edit] ∧ t.raised c.holder .edit 0 ∧ ∀ q, q ≠ c.holder → s.attentionKept t q []) ∧
  (∀ (p : Port) (s : State), s.takes p → s.storeWriting = false → s.shaped →
    (∀ c, s.claim = some c → c.holder = p → invalidProgram c.pool c.programs = none →
      ∃ t, exec (.editCommit p) s = .next t ∧ s.replied t p 0x51 (.done {} []) [] ∧
        t = { s with cfg := t.cfg, claim := none, channels := t.channels, zones := t.zones, main := t.main,
                     service := t.service } ∧
        t.cfg = { s.cfg with pool := c.pool, programs := c.programs } ∧
        (∀ d, 1 ≤ d → d ≤ 17 → t.planCompiled d ∧ (t.channel d).stack = (s.channel d).stack) ∧
        ∀ k, 1 ≤ k → k ≤ 16 → t.zone k = { s.zone k with
          preheat := match (s.zone k).preheat with
            | .idle run => .idle run
            | .early run | .watch run _ => .idle { run with spoiled := false, learningDone := false } }) ∧
    (∀ c n, s.claim = some c → c.holder = p → invalidProgram c.pool c.programs = some n →
      refusesWith (.editCommit p) p 0x51 (.invalid n) s) ∧
    ((∀ c, s.claim = some c → c.holder ≠ p) → refusesWith (.editCommit p) p 0x51 (.refused .noClaim) s))

/-- Validation is R10's: of a table that passes, every run lies in the pool, no two runs share a record, no record of a
run has an empty day set, and no two records of one run share slot, weekday and parity. A table in which no program
fails one of R10's four conditions passes, and the number given is that of the first program that fails one: programs
are checked from 1 up, each against the non-empty ones below it (R10). -/
def Obligations.ValidTablesHaveDisjointRuns : Prop :=
  (∀ (pool : List SwitchPoint) (programs : List ProgramEntry), invalidProgram pool programs = none →
    (∀ e ∈ programs, e.length ≠ 0 → e.start + e.length ≤ 256 ∧
      (∀ r ∈ runOf pool e, r.days ≠ 0) ∧
      ∀ (i j : Nat) (x y : SwitchPoint), i < j → (runOf pool e)[i]? = some x → (runOf pool e)[j]? = some y → x.slot = y.slot →
        x.days &&& y.days = 0 ∨ ∀ q, ¬ (x.weeks.contains q = true ∧ y.weeks.contains q = true)) ∧
    ∀ (i j : Nat) (e f : ProgramEntry), i ≠ j → programs[i]? = some e → programs[j]? = some f → e.length ≠ 0 → f.length ≠ 0 →
      ∀ n, ¬ (e.start ≤ n ∧ n < e.start + e.length ∧ f.start ≤ n ∧ n < f.start + f.length)) ∧
  ∀ (pool : List SwitchPoint) (programs : List ProgramEntry),
    ((∀ n, ¬ failsValidation pool programs n) → invalidProgram pool programs = none) ∧
    ∀ n, invalidProgram pool programs = some n →
      failsValidation pool programs n ∧ ∀ m, 1 ≤ m → m < n → ¬ failsValidation pool programs m

/-- TABLE-READ of a base tag answers the first 16 records and sets the port's cursor behind them; of the continuing tag
it goes on at the cursor, with END and the cursor gone at the last record. With no cursor of that tag it is refused
STATE, an unknown tag RANGE (R180, R181, R182). TABLE-WRITE of the holder replaces the records of the staging copy from
the first index on, and nothing live. A tag that is not written, and records that are not of the tag's table, are
refused RANGE, with or without the claim (R168 step 3); then, of either tag and with any records of its table, a port
that does not hold the claim is refused NO-CLAIM, be it free or the other port's; then a span outside the table or of
no record or more than 16, and a field out of range, are RANGE (R185). That the records of a reply stand one after the
other with no count, in the order of their fields, is the model's choice (log 8). That runs which overlap may stand in
staging is R185's word against R10's (log 44). -/
def Obligations.TablesAreReadAndWrittenInParts : Prop :=
  (∀ (p : Port) (tag : Nat) (tab : TableName) (s : State), s.takes p → tableOfTag tag = some tab →
    (∃ t, exec (.tableRead p tag) s = .next t ∧
      s.answered t p 0x53 (.done {} ((List.range 16).flatMap (s.recordBytes p tab))) [] ∧ s.onlyReplied t p ∧
      (t.port p).cursor = some ⟨tag, 16⟩ ∧ ∀ q, q ≠ p → (t.port q).cursor = (s.port q).cursor) ∧
    (∀ n, (s.port p).cursor = some ⟨tag, n⟩ → n < tab.size →
      ∃ t, exec (.tableRead p (tag + 64)) s = .next t ∧
        s.answered t p 0x53 (.done { ended := decide (tab.size ≤ n + 16) }
          ((List.range (min 16 (tab.size - n))).flatMap fun i => s.recordBytes p tab (n + i))) [] ∧
        s.onlyReplied t p ∧ (t.port p).cursor = (if tab.size ≤ n + 16 then none else some ⟨tag, n + 16⟩) ∧
        ∀ q, q ≠ p → (t.port q).cursor = (s.port q).cursor) ∧
    ((∀ n, (s.port p).cursor ≠ some ⟨tag, n⟩) →
      refusesWith (.tableRead p (tag + 64)) p 0x53 (.refused .state) s) ∧
    ∀ other, tableOfTag other = none → tableOfTag (other - 64) = none →
      refusesWith (.tableRead p other) p 0x53 (.refused .range) s) ∧
  (∀ (p : Port) (first : Nat) (records : List TableRecord) (c : EditClaim) (s : State), s.takes p → s.shaped →
    s.claim = some c → c.holder = p →
    (∀ xs, 1 ≤ records.length → records.length ≤ 16 → first + records.length ≤ 256 → allIn pointIn records = some xs →
      ∃ t pool, exec (.tableWrite p 1 first records) s = .next t ∧ s.replied t p 0x54 (.done {} []) [] ∧
        t = { s with claim := some { c with lapse := 120, pool := pool }, main := t.main, service := t.service } ∧
        pool.length = 256 ∧ ∀ i, pool[i]? =
          if first ≤ i ∧ i < first + records.length then xs[i - first]? else c.pool[i]?) ∧
    (∀ xs, 1 ≤ records.length → records.length ≤ 16 → first + records.length ≤ 24 → allIn programIn records = some xs →
      ∃ t programs, exec (.tableWrite p 2 first records) s = .next t ∧ s.replied t p 0x54 (.done {} []) [] ∧
        t = { s with claim := some { c with lapse := 120, programs := programs }, main := t.main,
                     service := t.service } ∧
        programs.length = 24 ∧ ∀ i, programs[i]? =
          if first ≤ i ∧ i < first + records.length then xs[i - first]? else c.programs[i]?) ∧
    (records = [] ∨ 16 < records.length ∨ 256 < first + records.length ∨ allIn pointIn records = none →
      refusesWith (.tableWrite p 1 first records) p 0x54 (.refused .range) s) ∧
    (records = [] ∨ 16 < records.length ∨ 24 < first + records.length ∨ allIn programIn records = none →
      refusesWith (.tableWrite p 2 first records) p 0x54 (.refused .range) s)) ∧
  (∀ (p : Port) (tag first : Nat) (records : List TableRecord) (s : State), s.takes p →
    (tag = 1 ∨ tag = 2 → records.all (recordOfTag tag) = true → (∀ c, s.claim = some c → c.holder ≠ p) →
      refusesWith (.tableWrite p tag first records) p 0x54 (.refused .noClaim) s) ∧
    (tag ≠ 1 ∧ tag ≠ 2 ∨ records.all (recordOfTag tag) = false →
      refusesWith (.tableWrite p tag first records) p 0x54 (.refused .range) s))

/-! ## Settings store -/

/-- STORE-SAVE takes a snapshot of the stored set and begins the write (R189); STORE-ERASE makes the image INVALID, the
live settings left (R190); the end of a write leaves the image VALID with the snapshot and its check value and raises
STORE with SAVED on both ports (R189). Every step keeps a VALID image's check value that of its copy (R188). The check
value is a free function of the copy, and that the image keeps its verdict while a write runs is the model's choice
(log 7). -/
def Obligations.StoreWritesTheSnapshot : Prop :=
  (∀ (p : Port) (s : State), s.takes p → s.storeWriting = false →
    (∃ t, exec (.storeSave p) s = .next t ∧ s.replied t p 0x60 (.done {} []) [] ∧
      t = { s with store := { s.store with writing := some s.cfg }, claim := s.keptAlive p, main := t.main,
                   service := t.service }) ∧
    ∃ t, exec (.storeErase p) s = .next t ∧ s.replied t p 0x61 (.done {} []) [] ∧
      t = { s with store := { s.store with imageValid := false }, claim := s.keptAlive p, main := t.main,
                   service := t.service }) ∧
  (∀ (x : Stored) (s : State), s.acting = none → s.shaped → s.store.writing = some x →
    ∃ t, exec .storeWriteEnd s = .next t ∧ s.portsKept t [.store] ∧
      t = { s with store := { s.store with image := x, check := Config.checkValue x, imageValid := true, writing := none },
                   main := t.main, service := t.service } ∧
      ∀ q, ((t.port q).attn.getD 14 none).any (fun a => a.marks.getLsbD 0) = true) ∧
  (∀ s t : State, (s.store.imageValid = true → s.store.check = Config.checkValue s.store.image) → step s = .next t →
    t.store.imageValid = true → t.store.check = Config.checkValue t.store.image)

/-- IDENT answers vendor code, part code, revision and serial number of the identity sector, the image state and
whether a store write is in progress, at any time the port serves a request, and changes nothing (R191). The identity's
values are free (log 6); that the image keeps its verdict while a write runs is the model's choice (log 7). -/
def Obligations.IdentReportsIdentityAndStore : Prop :=
  ∀ (p : Port) (s : State), s.takes p →
    ∃ t, exec (.ident p) s = .next t ∧
      s.replied t p 0x63 (.done {} (bytesLow 2 Config.vendorCode.toNat ++ bytesLow 2 Config.partCode.toNat
        ++ bytesLow 1 Config.revision.toNat ++ bytesLow 4 Config.serialNumber.toNat
        ++ [if s.store.imageValid then 1 else 0] ++ [if s.store.writing.isSome then 1 else 0])) [] ∧
      s.onlyReplied t p

/-- RESTART is answered DONE and pending from its event on, nothing else changed (R175). While one is pending every
request that a port takes is refused BUSY (R168, R175). A request that would change the stored set is refused BUSY
while a store write is in progress: CHANNEL-SET, VALVE-SET, BOILER-SET, INPUT-SET, ZONE-PARK, ZONE-UNPARK, ATTN-MASK,
EDIT-COMMIT, STORE-SAVE and STORE-ERASE; one that lists a field code its kind has not is refused RANGE before (R168).
Three of these BUSY replies are the model's reading: of a CHANNEL-SET or VALVE-SET whose flag value is neither 0 nor 1
(log 45, the model's choice), of an EDIT-COMMIT without the claim (log 33, DEDUCED), and of an INPUT-SET that lacks a
zone, setpoint or minutes of its function (log 47, the model's choice). -/
def Obligations.RestartAndStoreWriteHoldRequestsBusy : Prop :=
  ((∀ (p : Port) (s : State), s.takes p →
    ∃ t, exec (.restart p) s = .next t ∧ s.replied t p 0x62 (.done {} []) [] ∧
      t = { s with restartPending := true, claim := s.keptAlive p, main := t.main, service := t.service }) ∧
  ∀ (i : Instr) (p : Port) (r : Request) (s : State), requestOf i = some (p, r) → s.acting = none →
    s.restartPending = true → (s.port p).tx.servedUnsent = false → refusesWith i p r.kind (.refused .busy) s) ∧
  (∀ (i : Instr) (p : Port) (r : Request) (s : State), requestOf i = some (p, r) → s.takes p → s.storeWriting = true →
    r.kind ∈ ([0x10, 0x20, 0x30, 0x32, 0x17, 0x18, 0x41, 0x51, 0x60, 0x61] : List Byte) →
      refusesWith i p r.kind (.refused (if r.known then .busy else .range)) s)

/-- A request met by an unsent served reply is not served: it is refused BUSY where no BUSY reply waits, else discarded
with FRAME raised on its port; nothing else changes (R169). That a BUSY reply being sent does not count as waiting is
the model's choice (log 41). A kind that is none of the table's is refused UNKNOWN-KIND (R168). -/
def Obligations.UnservedRequestsAreRefusedOrDiscarded : Prop :=
  (∀ (i : Instr) (p : Port) (r : Request) (s : State), requestOf i = some (p, r) → s.acting = none → s.shaped →
    (s.port p).tx.servedUnsent = true →
    (∀ f ∈ (s.port p).tx.queue, f.isBusy = false) →
    ∃ t, exec i s = .next t ∧ s.onlyReplied t p ∧
      TxFrame.busy ⟨r.kind, .refused .busy⟩ ∈ (t.port p).frames ∧
      ∀ q, (t.port q).rx = (if q = p then .idle else (s.port q).rx) ∧ s.attentionKept t q [] ∧
        (t.port q).cursor = (s.port q).cursor) ∧
  (∀ (i : Instr) (p : Port) (r : Request) (s : State), requestOf i = some (p, r) → s.acting = none → s.shaped →
    (s.port p).tx.servedUnsent = true → (∃ f ∈ (s.port p).tx.queue, f.isBusy = true) →
    ∃ t, exec i s = .next t ∧ s.onlyReplied t p ∧ t.raised p .frame 0 ∧
      ∀ q, (t.port q).rx = (if q = p then .idle else (s.port q).rx) ∧
        s.attentionKept t q (if q = p then [.frame] else []) ∧ (t.port q).cursor = (s.port q).cursor) ∧
  ∀ (p : Port) (kind : Byte) (s : State), kind ∉ requestKinds → s.acting = none →
    (s.port p).tx.servedUnsent = false → refusesWith (.unknownKind p kind) p kind (.refused .unknownKind) s

/-- The bytes of a request's frame (R165, R171), received one after the other by an idle receiver, do what the request
command does, with every operand at every value its encoding carries (R166, R168). The layout of the payloads where
R171 leaves it open is the model's choice (logs 8 and 9). -/
def Obligations.FrameBytesRunTheirRequest : Prop :=
  ∀ (i : Instr) (p : Port) (r : Request) (s : State), requestOf i = some (p, r) → onWire i = true →
    (payloadOf i).length ≤ 199 → s.acting = none → s.portsOrdered → (s.port p).rx = .idle →
      runAll ((frameBytes r.kind (payloadOf i)).map (.byteArrival p)) s = runAll [i] s

/-- A gap, a bad stop bit, a length of 0 or above 200 and a wrong check discard the frame being built: the receiver is
idle and FRAME is raised on that port only, nothing else (R167); an idle receiver takes no byte but 0xC3 (R166). When
the last byte of a frame has gone out the next of the list starts, a notice with the categories that notify then; with
none waiting the line is idle (R169, R178). That FRAME_DISCARD carries its cause and acts where the receiver meets it
is the model's choice (log 31), and that the next frame starts within the event is log 15's. -/
def Obligations.FramesAreDiscardedAndSentInOrder : Prop :=
  ((∀ (p : Port) (c : Instr) (s : State), s.acting = none → s.shaped →
    (c = .frameGap p ∧ (s.port p).rx ≠ .idle) ∨ (c = .frameDiscard p .badStopBit ∧ (s.port p).rx ≠ .idle) ∨
      (∃ b, (c = .frameDiscard p (.badLength b) ∨ c = .byteArrival p b) ∧ (s.port p).rx = .awaitLength ∧
        (b = 0 ∨ 200 < b.toNat)) ∨
      (∃ n bytes b, (c = .frameDiscard p (.badSum b) ∨ c = .byteArrival p b) ∧ (s.port p).rx = .building n bytes ∧
        bytes.length = n ∧ BitVec.ofNat 8 n + bytes.foldl (· + ·) 0 + b ≠ 0) →
    ∃ t, exec c s = .next t ∧ t = { s with main := t.main, service := t.service } ∧ (t.port p).rx = .idle ∧
      t.raised p .frame 0 ∧
      ∀ q, (q ≠ p → (t.port q).rx = (s.port q).rx) ∧ s.attentionKept t q (if q = p then [.frame] else []) ∧
        (t.port q).cursor = (s.port q).cursor) ∧
  ∀ (p : Port) (b : Byte) (s : State), s.acting = none → s.portsOrdered → (s.port p).rx = .idle →
    exec (.byteArrival p b) s = .next (if b = 0xC3 then s.setPort p { s.port p with rx := .awaitLength } else s)) ∧
  (∀ (p : Port) (f : TxFrame) (s : State), s.portsOrdered → (s.port p).tx.sending = some f → s.acting = none →
    s.restartPending = false ∨ f.isRestartDone = false →
      ∃ t, exec (.frameSent p) s = .next t ∧ t = { s with main := t.main, service := t.service } ∧
        t.port p = { s.port p with tx := {
          sending := (s.port p).tx.queue.head?.map fun g =>
            if g.isNotice then .notice (some (notifyingWord (s.port p).attn)) else g
          queue := (s.port p).tx.queue.tail } } ∧
        ∀ q, q ≠ p → t.port q = s.port q)

/-! ## Invariants -/

/-- The reset state meets every invariant below (R24, R116, R112, R129, R130, R137, R144, R169, R172). -/
def Obligations.ResetMeetsEveryInvariant : Prop :=
  State.reset.shaped ∧ State.reset.portsOrdered ∧ State.reset.stacksOk ∧ State.reset.movesBounded ∧ State.reset.queueOk ∧
    State.reset.burnerFollows ∧ State.reset.pumpFollows ∧ State.reset.tableFollows ∧ State.reset.neverBlocked ∧
    State.reset.pathOpen ∧ State.reset.flowInRange

/-- Every list keeps as many records as the part has: the channels, zones and their plans, the pool, the programs and
the park slots, the consumer table, the heads, the wanted targets, the inputs, the attention categories, the stored set
and a VALID image (a part-written one is INVALID, R189). -/
def Obligations.StepsKeepTheShape : Prop :=
  ∀ s t : State, s.shaped → step s = .next t → t.shaped

/-- Every port keeps at most one served reply unsent, at most one BUSY reply and one notice waiting, a notice only
while some category notifies, and its receiver within its frame (R169, R178, R166). -/
def Obligations.StepsKeepThePortsInOrder : Prop :=
  ∀ s t : State, s.portsOrdered → step s = .next t → t.portsOrdered

/-- Every stack keeps at most four layers, a WINDOW only on top and none on W (R24, R26, R27, R40). -/
def Obligations.StepsKeepTheLayerStacks : Prop :=
  ∀ s t : State, s.stacksOk → step s = .next t → t.stacksOk

/-- The running heads never outnumber the motor allowance, and none runs while the supply is LOW or the link in FAULT
(R116). -/
def Obligations.StepsKeepTheMotorAllowance : Prop :=
  ∀ s t : State, s.movesBounded → step s = .next t → t.movesBounded

/-- The queue keeps at most one entry per slot, none for an ABSENT head or an UNUSED slot, and a HOME with target 0
only (R112, R106, R114). -/
def Obligations.StepsKeepOneEntryPerSlot : Prop :=
  ∀ s t : State, s.queueOk → step s = .next t → t.queueOk

/-- The burner relay is closed exactly in FIRING, and the output is 0 with no ramp in every other state (R130, R164).
The pump relay follows its reasons (R144), and the consumer table its requests and the boiler's state (R70, R71). -/
def Obligations.StepsKeepBurnerPumpAndTable : Prop :=
  (∀ s t : State, s.burnerFollows → step s = .next t → t.burnerFollows) ∧
  (∀ s t : State, s.pumpFollows → s.tableFollows → step s = .next t → t.pumpFollows ∧ t.tableFollows)

/-- The controller is never in LEAD or FIRING with a blocker present, and in FIRING the committed capacity is at least
the sink minimum, whatever move is granted (R129, R137, R121, R122). -/
def Obligations.StepsKeepTheWaterPathOpen : Prop :=
  ∀ s t : State, s.neverBlocked → s.pathOpen → step s = .next t → t.neverBlocked ∧ t.pathOpen

/-- Every setting and table, live, staged, in the snapshot of a write and in a VALID image, keeps its range, and with
them flow setpoint, modulation target and output (R172, R189, R128, R149, R162). -/
def Obligations.StepsKeepEverySettingInRange : Prop :=
  ∀ s t : State, s.shaped → s.flowInRange → step s = .next t → t.flowInRange
end

