-- ==== Sys2Proof/Laws/State.lean ====
section
/-! SUPPORT. One lemma per field per update of the state, each true by `rfl`, so that no proof unfolds a record update;
and what the numbered lists read after a write. -/

namespace Sys2Proof.Machine

/-! ## Numbered lists -/

theorem length_setItem {α : Type} (l : List α) (n : Nat) (x : α) : (setItem l n x).length = l.length := by
  cases n <;> simp [setItem]

theorem item_setItem_same {α : Type} (l : List α) (n : Nat) (x d : α) (h : 1 ≤ n) (hl : n ≤ l.length) :
    item (setItem l n x) n d = x := by
  obtain ⟨k, rfl⟩ : ∃ k, n = k + 1 := ⟨n - 1, by omega⟩
  have hk : k < l.length := by omega
  simp [item, setItem, List.getD, hk]

theorem item_setItem_other {α : Type} (l : List α) (n m : Nat) (x d : α) (h : m ≠ n) :
    item (setItem l n x) m d = item l m d := by
  cases n with
  | zero => rfl
  | succ a =>
    cases m with
    | zero => rfl
    | succ b =>
      have hab : a ≠ b := fun e => h (by rw [e])
      simp [item, setItem, List.getD, hab]

/-- A fold of steps that each leave what `g` reads leaves it. -/
theorem foldl_keeps {α β : Type} (f : State → α → State) (g : State → β) (h : ∀ s a, g (f s a) = g s)
    (l : List α) (s : State) : g (l.foldl f s) = g s := by
  induction l generalizing s with
  | nil => rfl
  | cons a l ih => rw [List.foldl_cons, ih, h]

/-! ## Updates -/


/-! ### `setChannel` -/

@[simp] theorem setChannel_clock (s : State) (c : Nat) (r : ChannelRun) : (s.setChannel c r).clock = s.clock := rfl
@[simp] theorem setChannel_cfg (s : State) (c : Nat) (r : ChannelRun) : (s.setChannel c r).cfg = s.cfg := rfl
@[simp] theorem setChannel_store (s : State) (c : Nat) (r : ChannelRun) : (s.setChannel c r).store = s.store := rfl
@[simp] theorem setChannel_claim (s : State) (c : Nat) (r : ChannelRun) : (s.setChannel c r).claim = s.claim := rfl
@[simp] theorem setChannel_channels (s : State) (c : Nat) (r : ChannelRun) : (s.setChannel c r).channels = setItem s.channels c r := rfl
@[simp] theorem setChannel_zones (s : State) (c : Nat) (r : ChannelRun) : (s.setChannel c r).zones = s.zones := rfl
@[simp] theorem setChannel_wRequest (s : State) (c : Nat) (r : ChannelRun) : (s.setChannel c r).wRequest = s.wRequest := rfl
@[simp] theorem setChannel_table (s : State) (c : Nat) (r : ChannelRun) : (s.setChannel c r).table = s.table := rfl
@[simp] theorem setChannel_heads (s : State) (c : Nat) (r : ChannelRun) : (s.setChannel c r).heads = s.heads := rfl
@[simp] theorem setChannel_link (s : State) (c : Nat) (r : ChannelRun) : (s.setChannel c r).link = s.link := rfl
@[simp] theorem setChannel_arbiter (s : State) (c : Nat) (r : ChannelRun) : (s.setChannel c r).arbiter = s.arbiter := rfl
@[simp] theorem setChannel_boiler (s : State) (c : Nat) (r : ChannelRun) : (s.setChannel c r).boiler = s.boiler := rfl
@[simp] theorem setChannel_field (s : State) (c : Nat) (r : ChannelRun) : (s.setChannel c r).field = s.field := rfl
@[simp] theorem setChannel_main (s : State) (c : Nat) (r : ChannelRun) : (s.setChannel c r).main = s.main := rfl
@[simp] theorem setChannel_service (s : State) (c : Nat) (r : ChannelRun) : (s.setChannel c r).service = s.service := rfl
@[simp] theorem setChannel_restartPending (s : State) (c : Nat) (r : ChannelRun) : (s.setChannel c r).restartPending = s.restartPending := rfl
@[simp] theorem setChannel_acting (s : State) (c : Nat) (r : ChannelRun) : (s.setChannel c r).acting = s.acting := rfl
@[simp] theorem setChannel_pending (s : State) (c : Nat) (r : ChannelRun) : (s.setChannel c r).pending = s.pending := rfl

/-! ### `setStack` -/

@[simp] theorem setStack_clock (s : State) (c : Nat) (x : List Layer) : (s.setStack c x).clock = s.clock := rfl
@[simp] theorem setStack_cfg (s : State) (c : Nat) (x : List Layer) : (s.setStack c x).cfg = s.cfg := rfl
@[simp] theorem setStack_store (s : State) (c : Nat) (x : List Layer) : (s.setStack c x).store = s.store := rfl
@[simp] theorem setStack_claim (s : State) (c : Nat) (x : List Layer) : (s.setStack c x).claim = s.claim := rfl
@[simp] theorem setStack_channels (s : State) (c : Nat) (x : List Layer) : (s.setStack c x).channels = setItem s.channels c { s.channel c with stack := x } := rfl
@[simp] theorem setStack_zones (s : State) (c : Nat) (x : List Layer) : (s.setStack c x).zones = s.zones := rfl
@[simp] theorem setStack_wRequest (s : State) (c : Nat) (x : List Layer) : (s.setStack c x).wRequest = s.wRequest := rfl
@[simp] theorem setStack_table (s : State) (c : Nat) (x : List Layer) : (s.setStack c x).table = s.table := rfl
@[simp] theorem setStack_heads (s : State) (c : Nat) (x : List Layer) : (s.setStack c x).heads = s.heads := rfl
@[simp] theorem setStack_link (s : State) (c : Nat) (x : List Layer) : (s.setStack c x).link = s.link := rfl
@[simp] theorem setStack_arbiter (s : State) (c : Nat) (x : List Layer) : (s.setStack c x).arbiter = s.arbiter := rfl
@[simp] theorem setStack_boiler (s : State) (c : Nat) (x : List Layer) : (s.setStack c x).boiler = s.boiler := rfl
@[simp] theorem setStack_field (s : State) (c : Nat) (x : List Layer) : (s.setStack c x).field = s.field := rfl
@[simp] theorem setStack_main (s : State) (c : Nat) (x : List Layer) : (s.setStack c x).main = s.main := rfl
@[simp] theorem setStack_service (s : State) (c : Nat) (x : List Layer) : (s.setStack c x).service = s.service := rfl
@[simp] theorem setStack_restartPending (s : State) (c : Nat) (x : List Layer) : (s.setStack c x).restartPending = s.restartPending := rfl
@[simp] theorem setStack_acting (s : State) (c : Nat) (x : List Layer) : (s.setStack c x).acting = s.acting := rfl
@[simp] theorem setStack_pending (s : State) (c : Nat) (x : List Layer) : (s.setStack c x).pending = s.pending := rfl

/-! ### `setPlan` -/

@[simp] theorem setPlan_clock (s : State) (c : Nat) (x : List Level) : (s.setPlan c x).clock = s.clock := rfl
@[simp] theorem setPlan_cfg (s : State) (c : Nat) (x : List Level) : (s.setPlan c x).cfg = s.cfg := rfl
@[simp] theorem setPlan_store (s : State) (c : Nat) (x : List Level) : (s.setPlan c x).store = s.store := rfl
@[simp] theorem setPlan_claim (s : State) (c : Nat) (x : List Level) : (s.setPlan c x).claim = s.claim := rfl
@[simp] theorem setPlan_channels (s : State) (c : Nat) (x : List Level) : (s.setPlan c x).channels = setItem s.channels c { s.channel c with plan := x } := rfl
@[simp] theorem setPlan_zones (s : State) (c : Nat) (x : List Level) : (s.setPlan c x).zones = s.zones := rfl
@[simp] theorem setPlan_wRequest (s : State) (c : Nat) (x : List Level) : (s.setPlan c x).wRequest = s.wRequest := rfl
@[simp] theorem setPlan_table (s : State) (c : Nat) (x : List Level) : (s.setPlan c x).table = s.table := rfl
@[simp] theorem setPlan_heads (s : State) (c : Nat) (x : List Level) : (s.setPlan c x).heads = s.heads := rfl
@[simp] theorem setPlan_link (s : State) (c : Nat) (x : List Level) : (s.setPlan c x).link = s.link := rfl
@[simp] theorem setPlan_arbiter (s : State) (c : Nat) (x : List Level) : (s.setPlan c x).arbiter = s.arbiter := rfl
@[simp] theorem setPlan_boiler (s : State) (c : Nat) (x : List Level) : (s.setPlan c x).boiler = s.boiler := rfl
@[simp] theorem setPlan_field (s : State) (c : Nat) (x : List Level) : (s.setPlan c x).field = s.field := rfl
@[simp] theorem setPlan_main (s : State) (c : Nat) (x : List Level) : (s.setPlan c x).main = s.main := rfl
@[simp] theorem setPlan_service (s : State) (c : Nat) (x : List Level) : (s.setPlan c x).service = s.service := rfl
@[simp] theorem setPlan_restartPending (s : State) (c : Nat) (x : List Level) : (s.setPlan c x).restartPending = s.restartPending := rfl
@[simp] theorem setPlan_acting (s : State) (c : Nat) (x : List Level) : (s.setPlan c x).acting = s.acting := rfl
@[simp] theorem setPlan_pending (s : State) (c : Nat) (x : List Level) : (s.setPlan c x).pending = s.pending := rfl

/-! ### `setZone` -/

@[simp] theorem setZone_clock (s : State) (k : Nat) (z : ZoneRun) : (s.setZone k z).clock = s.clock := rfl
@[simp] theorem setZone_cfg (s : State) (k : Nat) (z : ZoneRun) : (s.setZone k z).cfg = s.cfg := rfl
@[simp] theorem setZone_store (s : State) (k : Nat) (z : ZoneRun) : (s.setZone k z).store = s.store := rfl
@[simp] theorem setZone_claim (s : State) (k : Nat) (z : ZoneRun) : (s.setZone k z).claim = s.claim := rfl
@[simp] theorem setZone_channels (s : State) (k : Nat) (z : ZoneRun) : (s.setZone k z).channels = s.channels := rfl
@[simp] theorem setZone_zones (s : State) (k : Nat) (z : ZoneRun) : (s.setZone k z).zones = setItem s.zones k z := rfl
@[simp] theorem setZone_wRequest (s : State) (k : Nat) (z : ZoneRun) : (s.setZone k z).wRequest = s.wRequest := rfl
@[simp] theorem setZone_table (s : State) (k : Nat) (z : ZoneRun) : (s.setZone k z).table = s.table := rfl
@[simp] theorem setZone_heads (s : State) (k : Nat) (z : ZoneRun) : (s.setZone k z).heads = s.heads := rfl
@[simp] theorem setZone_link (s : State) (k : Nat) (z : ZoneRun) : (s.setZone k z).link = s.link := rfl
@[simp] theorem setZone_arbiter (s : State) (k : Nat) (z : ZoneRun) : (s.setZone k z).arbiter = s.arbiter := rfl
@[simp] theorem setZone_boiler (s : State) (k : Nat) (z : ZoneRun) : (s.setZone k z).boiler = s.boiler := rfl
@[simp] theorem setZone_field (s : State) (k : Nat) (z : ZoneRun) : (s.setZone k z).field = s.field := rfl
@[simp] theorem setZone_main (s : State) (k : Nat) (z : ZoneRun) : (s.setZone k z).main = s.main := rfl
@[simp] theorem setZone_service (s : State) (k : Nat) (z : ZoneRun) : (s.setZone k z).service = s.service := rfl
@[simp] theorem setZone_restartPending (s : State) (k : Nat) (z : ZoneRun) : (s.setZone k z).restartPending = s.restartPending := rfl
@[simp] theorem setZone_acting (s : State) (k : Nat) (z : ZoneRun) : (s.setZone k z).acting = s.acting := rfl
@[simp] theorem setZone_pending (s : State) (k : Nat) (z : ZoneRun) : (s.setZone k z).pending = s.pending := rfl

/-! ### `setPreheat` -/

@[simp] theorem setPreheat_clock (s : State) (k : Nat) (x : Preheat) : (s.setPreheat k x).clock = s.clock := rfl
@[simp] theorem setPreheat_cfg (s : State) (k : Nat) (x : Preheat) : (s.setPreheat k x).cfg = s.cfg := rfl
@[simp] theorem setPreheat_store (s : State) (k : Nat) (x : Preheat) : (s.setPreheat k x).store = s.store := rfl
@[simp] theorem setPreheat_claim (s : State) (k : Nat) (x : Preheat) : (s.setPreheat k x).claim = s.claim := rfl
@[simp] theorem setPreheat_channels (s : State) (k : Nat) (x : Preheat) : (s.setPreheat k x).channels = s.channels := rfl
@[simp] theorem setPreheat_zones (s : State) (k : Nat) (x : Preheat) : (s.setPreheat k x).zones = setItem s.zones k { s.zone k with preheat := x } := rfl
@[simp] theorem setPreheat_wRequest (s : State) (k : Nat) (x : Preheat) : (s.setPreheat k x).wRequest = s.wRequest := rfl
@[simp] theorem setPreheat_table (s : State) (k : Nat) (x : Preheat) : (s.setPreheat k x).table = s.table := rfl
@[simp] theorem setPreheat_heads (s : State) (k : Nat) (x : Preheat) : (s.setPreheat k x).heads = s.heads := rfl
@[simp] theorem setPreheat_link (s : State) (k : Nat) (x : Preheat) : (s.setPreheat k x).link = s.link := rfl
@[simp] theorem setPreheat_arbiter (s : State) (k : Nat) (x : Preheat) : (s.setPreheat k x).arbiter = s.arbiter := rfl
@[simp] theorem setPreheat_boiler (s : State) (k : Nat) (x : Preheat) : (s.setPreheat k x).boiler = s.boiler := rfl
@[simp] theorem setPreheat_field (s : State) (k : Nat) (x : Preheat) : (s.setPreheat k x).field = s.field := rfl
@[simp] theorem setPreheat_main (s : State) (k : Nat) (x : Preheat) : (s.setPreheat k x).main = s.main := rfl
@[simp] theorem setPreheat_service (s : State) (k : Nat) (x : Preheat) : (s.setPreheat k x).service = s.service := rfl
@[simp] theorem setPreheat_restartPending (s : State) (k : Nat) (x : Preheat) : (s.setPreheat k x).restartPending = s.restartPending := rfl
@[simp] theorem setPreheat_acting (s : State) (k : Nat) (x : Preheat) : (s.setPreheat k x).acting = s.acting := rfl
@[simp] theorem setPreheat_pending (s : State) (k : Nat) (x : Preheat) : (s.setPreheat k x).pending = s.pending := rfl

/-! ### `setHead` -/

@[simp] theorem setHead_clock (s : State) (v : Nat) (h : Head) : (s.setHead v h).clock = s.clock := rfl
@[simp] theorem setHead_cfg (s : State) (v : Nat) (h : Head) : (s.setHead v h).cfg = s.cfg := rfl
@[simp] theorem setHead_store (s : State) (v : Nat) (h : Head) : (s.setHead v h).store = s.store := rfl
@[simp] theorem setHead_claim (s : State) (v : Nat) (h : Head) : (s.setHead v h).claim = s.claim := rfl
@[simp] theorem setHead_channels (s : State) (v : Nat) (h : Head) : (s.setHead v h).channels = s.channels := rfl
@[simp] theorem setHead_zones (s : State) (v : Nat) (h : Head) : (s.setHead v h).zones = s.zones := rfl
@[simp] theorem setHead_wRequest (s : State) (v : Nat) (h : Head) : (s.setHead v h).wRequest = s.wRequest := rfl
@[simp] theorem setHead_table (s : State) (v : Nat) (h : Head) : (s.setHead v h).table = s.table := rfl
@[simp] theorem setHead_heads (s : State) (v : Nat) (h : Head) : (s.setHead v h).heads = setItem s.heads v h := rfl
@[simp] theorem setHead_link (s : State) (v : Nat) (h : Head) : (s.setHead v h).link = s.link := rfl
@[simp] theorem setHead_arbiter (s : State) (v : Nat) (h : Head) : (s.setHead v h).arbiter = s.arbiter := rfl
@[simp] theorem setHead_boiler (s : State) (v : Nat) (h : Head) : (s.setHead v h).boiler = s.boiler := rfl
@[simp] theorem setHead_field (s : State) (v : Nat) (h : Head) : (s.setHead v h).field = s.field := rfl
@[simp] theorem setHead_main (s : State) (v : Nat) (h : Head) : (s.setHead v h).main = s.main := rfl
@[simp] theorem setHead_service (s : State) (v : Nat) (h : Head) : (s.setHead v h).service = s.service := rfl
@[simp] theorem setHead_restartPending (s : State) (v : Nat) (h : Head) : (s.setHead v h).restartPending = s.restartPending := rfl
@[simp] theorem setHead_acting (s : State) (v : Nat) (h : Head) : (s.setHead v h).acting = s.acting := rfl
@[simp] theorem setHead_pending (s : State) (v : Nat) (h : Head) : (s.setHead v h).pending = s.pending := rfl

/-! ### `setCfg` -/

@[simp] theorem setCfg_clock (s : State) (x : Stored) : (s.setCfg x).clock = s.clock := rfl
@[simp] theorem setCfg_cfg (s : State) (x : Stored) : (s.setCfg x).cfg = x := rfl
@[simp] theorem setCfg_store (s : State) (x : Stored) : (s.setCfg x).store = s.store := rfl
@[simp] theorem setCfg_claim (s : State) (x : Stored) : (s.setCfg x).claim = s.claim := rfl
@[simp] theorem setCfg_channels (s : State) (x : Stored) : (s.setCfg x).channels = s.channels := rfl
@[simp] theorem setCfg_zones (s : State) (x : Stored) : (s.setCfg x).zones = s.zones := rfl
@[simp] theorem setCfg_wRequest (s : State) (x : Stored) : (s.setCfg x).wRequest = s.wRequest := rfl
@[simp] theorem setCfg_table (s : State) (x : Stored) : (s.setCfg x).table = s.table := rfl
@[simp] theorem setCfg_heads (s : State) (x : Stored) : (s.setCfg x).heads = s.heads := rfl
@[simp] theorem setCfg_link (s : State) (x : Stored) : (s.setCfg x).link = s.link := rfl
@[simp] theorem setCfg_arbiter (s : State) (x : Stored) : (s.setCfg x).arbiter = s.arbiter := rfl
@[simp] theorem setCfg_boiler (s : State) (x : Stored) : (s.setCfg x).boiler = s.boiler := rfl
@[simp] theorem setCfg_field (s : State) (x : Stored) : (s.setCfg x).field = s.field := rfl
@[simp] theorem setCfg_main (s : State) (x : Stored) : (s.setCfg x).main = s.main := rfl
@[simp] theorem setCfg_service (s : State) (x : Stored) : (s.setCfg x).service = s.service := rfl
@[simp] theorem setCfg_restartPending (s : State) (x : Stored) : (s.setCfg x).restartPending = s.restartPending := rfl
@[simp] theorem setCfg_acting (s : State) (x : Stored) : (s.setCfg x).acting = s.acting := rfl
@[simp] theorem setCfg_pending (s : State) (x : Stored) : (s.setCfg x).pending = s.pending := rfl

/-! ### `setChannelCfg` -/

@[simp] theorem setChannelCfg_clock (s : State) (c : Nat) (x : ChannelCfg) : (s.setChannelCfg c x).clock = s.clock := rfl
@[simp] theorem setChannelCfg_cfg (s : State) (c : Nat) (x : ChannelCfg) : (s.setChannelCfg c x).cfg = { s.cfg with channels := setItem s.cfg.channels c x } := rfl
@[simp] theorem setChannelCfg_store (s : State) (c : Nat) (x : ChannelCfg) : (s.setChannelCfg c x).store = s.store := rfl
@[simp] theorem setChannelCfg_claim (s : State) (c : Nat) (x : ChannelCfg) : (s.setChannelCfg c x).claim = s.claim := rfl
@[simp] theorem setChannelCfg_channels (s : State) (c : Nat) (x : ChannelCfg) : (s.setChannelCfg c x).channels = s.channels := rfl
@[simp] theorem setChannelCfg_zones (s : State) (c : Nat) (x : ChannelCfg) : (s.setChannelCfg c x).zones = s.zones := rfl
@[simp] theorem setChannelCfg_wRequest (s : State) (c : Nat) (x : ChannelCfg) : (s.setChannelCfg c x).wRequest = s.wRequest := rfl
@[simp] theorem setChannelCfg_table (s : State) (c : Nat) (x : ChannelCfg) : (s.setChannelCfg c x).table = s.table := rfl
@[simp] theorem setChannelCfg_heads (s : State) (c : Nat) (x : ChannelCfg) : (s.setChannelCfg c x).heads = s.heads := rfl
@[simp] theorem setChannelCfg_link (s : State) (c : Nat) (x : ChannelCfg) : (s.setChannelCfg c x).link = s.link := rfl
@[simp] theorem setChannelCfg_arbiter (s : State) (c : Nat) (x : ChannelCfg) : (s.setChannelCfg c x).arbiter = s.arbiter := rfl
@[simp] theorem setChannelCfg_boiler (s : State) (c : Nat) (x : ChannelCfg) : (s.setChannelCfg c x).boiler = s.boiler := rfl
@[simp] theorem setChannelCfg_field (s : State) (c : Nat) (x : ChannelCfg) : (s.setChannelCfg c x).field = s.field := rfl
@[simp] theorem setChannelCfg_main (s : State) (c : Nat) (x : ChannelCfg) : (s.setChannelCfg c x).main = s.main := rfl
@[simp] theorem setChannelCfg_service (s : State) (c : Nat) (x : ChannelCfg) : (s.setChannelCfg c x).service = s.service := rfl
@[simp] theorem setChannelCfg_restartPending (s : State) (c : Nat) (x : ChannelCfg) : (s.setChannelCfg c x).restartPending = s.restartPending := rfl
@[simp] theorem setChannelCfg_acting (s : State) (c : Nat) (x : ChannelCfg) : (s.setChannelCfg c x).acting = s.acting := rfl
@[simp] theorem setChannelCfg_pending (s : State) (c : Nat) (x : ChannelCfg) : (s.setChannelCfg c x).pending = s.pending := rfl

/-! ### `setZoneCfg` -/

@[simp] theorem setZoneCfg_clock (s : State) (k : Nat) (x : ZoneCfg) : (s.setZoneCfg k x).clock = s.clock := rfl
@[simp] theorem setZoneCfg_cfg (s : State) (k : Nat) (x : ZoneCfg) : (s.setZoneCfg k x).cfg = { s.cfg with zones := setItem s.cfg.zones k x } := rfl
@[simp] theorem setZoneCfg_store (s : State) (k : Nat) (x : ZoneCfg) : (s.setZoneCfg k x).store = s.store := rfl
@[simp] theorem setZoneCfg_claim (s : State) (k : Nat) (x : ZoneCfg) : (s.setZoneCfg k x).claim = s.claim := rfl
@[simp] theorem setZoneCfg_channels (s : State) (k : Nat) (x : ZoneCfg) : (s.setZoneCfg k x).channels = s.channels := rfl
@[simp] theorem setZoneCfg_zones (s : State) (k : Nat) (x : ZoneCfg) : (s.setZoneCfg k x).zones = s.zones := rfl
@[simp] theorem setZoneCfg_wRequest (s : State) (k : Nat) (x : ZoneCfg) : (s.setZoneCfg k x).wRequest = s.wRequest := rfl
@[simp] theorem setZoneCfg_table (s : State) (k : Nat) (x : ZoneCfg) : (s.setZoneCfg k x).table = s.table := rfl
@[simp] theorem setZoneCfg_heads (s : State) (k : Nat) (x : ZoneCfg) : (s.setZoneCfg k x).heads = s.heads := rfl
@[simp] theorem setZoneCfg_link (s : State) (k : Nat) (x : ZoneCfg) : (s.setZoneCfg k x).link = s.link := rfl
@[simp] theorem setZoneCfg_arbiter (s : State) (k : Nat) (x : ZoneCfg) : (s.setZoneCfg k x).arbiter = s.arbiter := rfl
@[simp] theorem setZoneCfg_boiler (s : State) (k : Nat) (x : ZoneCfg) : (s.setZoneCfg k x).boiler = s.boiler := rfl
@[simp] theorem setZoneCfg_field (s : State) (k : Nat) (x : ZoneCfg) : (s.setZoneCfg k x).field = s.field := rfl
@[simp] theorem setZoneCfg_main (s : State) (k : Nat) (x : ZoneCfg) : (s.setZoneCfg k x).main = s.main := rfl
@[simp] theorem setZoneCfg_service (s : State) (k : Nat) (x : ZoneCfg) : (s.setZoneCfg k x).service = s.service := rfl
@[simp] theorem setZoneCfg_restartPending (s : State) (k : Nat) (x : ZoneCfg) : (s.setZoneCfg k x).restartPending = s.restartPending := rfl
@[simp] theorem setZoneCfg_acting (s : State) (k : Nat) (x : ZoneCfg) : (s.setZoneCfg k x).acting = s.acting := rfl
@[simp] theorem setZoneCfg_pending (s : State) (k : Nat) (x : ZoneCfg) : (s.setZoneCfg k x).pending = s.pending := rfl

/-! ### `setValveCfg` -/

@[simp] theorem setValveCfg_clock (s : State) (v : Nat) (x : ValveCfg) : (s.setValveCfg v x).clock = s.clock := rfl
@[simp] theorem setValveCfg_cfg (s : State) (v : Nat) (x : ValveCfg) : (s.setValveCfg v x).cfg = { s.cfg with valves := setItem s.cfg.valves v x } := rfl
@[simp] theorem setValveCfg_store (s : State) (v : Nat) (x : ValveCfg) : (s.setValveCfg v x).store = s.store := rfl
@[simp] theorem setValveCfg_claim (s : State) (v : Nat) (x : ValveCfg) : (s.setValveCfg v x).claim = s.claim := rfl
@[simp] theorem setValveCfg_channels (s : State) (v : Nat) (x : ValveCfg) : (s.setValveCfg v x).channels = s.channels := rfl
@[simp] theorem setValveCfg_zones (s : State) (v : Nat) (x : ValveCfg) : (s.setValveCfg v x).zones = s.zones := rfl
@[simp] theorem setValveCfg_wRequest (s : State) (v : Nat) (x : ValveCfg) : (s.setValveCfg v x).wRequest = s.wRequest := rfl
@[simp] theorem setValveCfg_table (s : State) (v : Nat) (x : ValveCfg) : (s.setValveCfg v x).table = s.table := rfl
@[simp] theorem setValveCfg_heads (s : State) (v : Nat) (x : ValveCfg) : (s.setValveCfg v x).heads = s.heads := rfl
@[simp] theorem setValveCfg_link (s : State) (v : Nat) (x : ValveCfg) : (s.setValveCfg v x).link = s.link := rfl
@[simp] theorem setValveCfg_arbiter (s : State) (v : Nat) (x : ValveCfg) : (s.setValveCfg v x).arbiter = s.arbiter := rfl
@[simp] theorem setValveCfg_boiler (s : State) (v : Nat) (x : ValveCfg) : (s.setValveCfg v x).boiler = s.boiler := rfl
@[simp] theorem setValveCfg_field (s : State) (v : Nat) (x : ValveCfg) : (s.setValveCfg v x).field = s.field := rfl
@[simp] theorem setValveCfg_main (s : State) (v : Nat) (x : ValveCfg) : (s.setValveCfg v x).main = s.main := rfl
@[simp] theorem setValveCfg_service (s : State) (v : Nat) (x : ValveCfg) : (s.setValveCfg v x).service = s.service := rfl
@[simp] theorem setValveCfg_restartPending (s : State) (v : Nat) (x : ValveCfg) : (s.setValveCfg v x).restartPending = s.restartPending := rfl
@[simp] theorem setValveCfg_acting (s : State) (v : Nat) (x : ValveCfg) : (s.setValveCfg v x).acting = s.acting := rfl
@[simp] theorem setValveCfg_pending (s : State) (v : Nat) (x : ValveCfg) : (s.setValveCfg v x).pending = s.pending := rfl

/-! ### `setInputCfg` -/

@[simp] theorem setInputCfg_clock (s : State) (n : Nat) (x : InputCfg) : (s.setInputCfg n x).clock = s.clock := rfl
@[simp] theorem setInputCfg_cfg (s : State) (n : Nat) (x : InputCfg) : (s.setInputCfg n x).cfg = { s.cfg with inputs := setItem s.cfg.inputs n x } := rfl
@[simp] theorem setInputCfg_store (s : State) (n : Nat) (x : InputCfg) : (s.setInputCfg n x).store = s.store := rfl
@[simp] theorem setInputCfg_claim (s : State) (n : Nat) (x : InputCfg) : (s.setInputCfg n x).claim = s.claim := rfl
@[simp] theorem setInputCfg_channels (s : State) (n : Nat) (x : InputCfg) : (s.setInputCfg n x).channels = s.channels := rfl
@[simp] theorem setInputCfg_zones (s : State) (n : Nat) (x : InputCfg) : (s.setInputCfg n x).zones = s.zones := rfl
@[simp] theorem setInputCfg_wRequest (s : State) (n : Nat) (x : InputCfg) : (s.setInputCfg n x).wRequest = s.wRequest := rfl
@[simp] theorem setInputCfg_table (s : State) (n : Nat) (x : InputCfg) : (s.setInputCfg n x).table = s.table := rfl
@[simp] theorem setInputCfg_heads (s : State) (n : Nat) (x : InputCfg) : (s.setInputCfg n x).heads = s.heads := rfl
@[simp] theorem setInputCfg_link (s : State) (n : Nat) (x : InputCfg) : (s.setInputCfg n x).link = s.link := rfl
@[simp] theorem setInputCfg_arbiter (s : State) (n : Nat) (x : InputCfg) : (s.setInputCfg n x).arbiter = s.arbiter := rfl
@[simp] theorem setInputCfg_boiler (s : State) (n : Nat) (x : InputCfg) : (s.setInputCfg n x).boiler = s.boiler := rfl
@[simp] theorem setInputCfg_field (s : State) (n : Nat) (x : InputCfg) : (s.setInputCfg n x).field = s.field := rfl
@[simp] theorem setInputCfg_main (s : State) (n : Nat) (x : InputCfg) : (s.setInputCfg n x).main = s.main := rfl
@[simp] theorem setInputCfg_service (s : State) (n : Nat) (x : InputCfg) : (s.setInputCfg n x).service = s.service := rfl
@[simp] theorem setInputCfg_restartPending (s : State) (n : Nat) (x : InputCfg) : (s.setInputCfg n x).restartPending = s.restartPending := rfl
@[simp] theorem setInputCfg_acting (s : State) (n : Nat) (x : InputCfg) : (s.setInputCfg n x).acting = s.acting := rfl
@[simp] theorem setInputCfg_pending (s : State) (n : Nat) (x : InputCfg) : (s.setInputCfg n x).pending = s.pending := rfl

/-! ### `setParks` -/

@[simp] theorem setParks_clock (s : State) (x : List (Option Park)) : (s.setParks x).clock = s.clock := rfl
@[simp] theorem setParks_cfg (s : State) (x : List (Option Park)) : (s.setParks x).cfg = { s.cfg with parks := x } := rfl
@[simp] theorem setParks_store (s : State) (x : List (Option Park)) : (s.setParks x).store = s.store := rfl
@[simp] theorem setParks_claim (s : State) (x : List (Option Park)) : (s.setParks x).claim = s.claim := rfl
@[simp] theorem setParks_channels (s : State) (x : List (Option Park)) : (s.setParks x).channels = s.channels := rfl
@[simp] theorem setParks_zones (s : State) (x : List (Option Park)) : (s.setParks x).zones = s.zones := rfl
@[simp] theorem setParks_wRequest (s : State) (x : List (Option Park)) : (s.setParks x).wRequest = s.wRequest := rfl
@[simp] theorem setParks_table (s : State) (x : List (Option Park)) : (s.setParks x).table = s.table := rfl
@[simp] theorem setParks_heads (s : State) (x : List (Option Park)) : (s.setParks x).heads = s.heads := rfl
@[simp] theorem setParks_link (s : State) (x : List (Option Park)) : (s.setParks x).link = s.link := rfl
@[simp] theorem setParks_arbiter (s : State) (x : List (Option Park)) : (s.setParks x).arbiter = s.arbiter := rfl
@[simp] theorem setParks_boiler (s : State) (x : List (Option Park)) : (s.setParks x).boiler = s.boiler := rfl
@[simp] theorem setParks_field (s : State) (x : List (Option Park)) : (s.setParks x).field = s.field := rfl
@[simp] theorem setParks_main (s : State) (x : List (Option Park)) : (s.setParks x).main = s.main := rfl
@[simp] theorem setParks_service (s : State) (x : List (Option Park)) : (s.setParks x).service = s.service := rfl
@[simp] theorem setParks_restartPending (s : State) (x : List (Option Park)) : (s.setParks x).restartPending = s.restartPending := rfl
@[simp] theorem setParks_acting (s : State) (x : List (Option Park)) : (s.setParks x).acting = s.acting := rfl
@[simp] theorem setParks_pending (s : State) (x : List (Option Park)) : (s.setParks x).pending = s.pending := rfl

/-! ### `setMasks` -/

@[simp] theorem setMasks_clock (s : State) (p : Port) (x : List Mask) : (s.setMasks p x).clock = s.clock := by cases p <;> rfl
@[simp] theorem setMasks_store (s : State) (p : Port) (x : List Mask) : (s.setMasks p x).store = s.store := by cases p <;> rfl
@[simp] theorem setMasks_claim (s : State) (p : Port) (x : List Mask) : (s.setMasks p x).claim = s.claim := by cases p <;> rfl
@[simp] theorem setMasks_channels (s : State) (p : Port) (x : List Mask) : (s.setMasks p x).channels = s.channels := by cases p <;> rfl
@[simp] theorem setMasks_zones (s : State) (p : Port) (x : List Mask) : (s.setMasks p x).zones = s.zones := by cases p <;> rfl
@[simp] theorem setMasks_wRequest (s : State) (p : Port) (x : List Mask) : (s.setMasks p x).wRequest = s.wRequest := by cases p <;> rfl
@[simp] theorem setMasks_table (s : State) (p : Port) (x : List Mask) : (s.setMasks p x).table = s.table := by cases p <;> rfl
@[simp] theorem setMasks_heads (s : State) (p : Port) (x : List Mask) : (s.setMasks p x).heads = s.heads := by cases p <;> rfl
@[simp] theorem setMasks_link (s : State) (p : Port) (x : List Mask) : (s.setMasks p x).link = s.link := by cases p <;> rfl
@[simp] theorem setMasks_arbiter (s : State) (p : Port) (x : List Mask) : (s.setMasks p x).arbiter = s.arbiter := by cases p <;> rfl
@[simp] theorem setMasks_boiler (s : State) (p : Port) (x : List Mask) : (s.setMasks p x).boiler = s.boiler := by cases p <;> rfl
@[simp] theorem setMasks_field (s : State) (p : Port) (x : List Mask) : (s.setMasks p x).field = s.field := by cases p <;> rfl
@[simp] theorem setMasks_main (s : State) (p : Port) (x : List Mask) : (s.setMasks p x).main = s.main := by cases p <;> rfl
@[simp] theorem setMasks_service (s : State) (p : Port) (x : List Mask) : (s.setMasks p x).service = s.service := by cases p <;> rfl
@[simp] theorem setMasks_restartPending (s : State) (p : Port) (x : List Mask) : (s.setMasks p x).restartPending = s.restartPending := by cases p <;> rfl
@[simp] theorem setMasks_acting (s : State) (p : Port) (x : List Mask) : (s.setMasks p x).acting = s.acting := by cases p <;> rfl
@[simp] theorem setMasks_pending (s : State) (p : Port) (x : List Mask) : (s.setMasks p x).pending = s.pending := by cases p <;> rfl

/-! ### `setTable` -/

@[simp] theorem setTable_clock (s : State) (x : ConsumerTable) : (s.setTable x).clock = s.clock := rfl
@[simp] theorem setTable_cfg (s : State) (x : ConsumerTable) : (s.setTable x).cfg = s.cfg := rfl
@[simp] theorem setTable_store (s : State) (x : ConsumerTable) : (s.setTable x).store = s.store := rfl
@[simp] theorem setTable_claim (s : State) (x : ConsumerTable) : (s.setTable x).claim = s.claim := rfl
@[simp] theorem setTable_channels (s : State) (x : ConsumerTable) : (s.setTable x).channels = s.channels := rfl
@[simp] theorem setTable_zones (s : State) (x : ConsumerTable) : (s.setTable x).zones = s.zones := rfl
@[simp] theorem setTable_wRequest (s : State) (x : ConsumerTable) : (s.setTable x).wRequest = s.wRequest := rfl
@[simp] theorem setTable_table (s : State) (x : ConsumerTable) : (s.setTable x).table = x := rfl
@[simp] theorem setTable_heads (s : State) (x : ConsumerTable) : (s.setTable x).heads = s.heads := rfl
@[simp] theorem setTable_link (s : State) (x : ConsumerTable) : (s.setTable x).link = s.link := rfl
@[simp] theorem setTable_arbiter (s : State) (x : ConsumerTable) : (s.setTable x).arbiter = s.arbiter := rfl
@[simp] theorem setTable_boiler (s : State) (x : ConsumerTable) : (s.setTable x).boiler = s.boiler := rfl
@[simp] theorem setTable_field (s : State) (x : ConsumerTable) : (s.setTable x).field = s.field := rfl
@[simp] theorem setTable_main (s : State) (x : ConsumerTable) : (s.setTable x).main = s.main := rfl
@[simp] theorem setTable_service (s : State) (x : ConsumerTable) : (s.setTable x).service = s.service := rfl
@[simp] theorem setTable_restartPending (s : State) (x : ConsumerTable) : (s.setTable x).restartPending = s.restartPending := rfl
@[simp] theorem setTable_acting (s : State) (x : ConsumerTable) : (s.setTable x).acting = s.acting := rfl
@[simp] theorem setTable_pending (s : State) (x : ConsumerTable) : (s.setTable x).pending = s.pending := rfl

/-! ### `setLink` -/

@[simp] theorem setLink_clock (s : State) (x : Link) : (s.setLink x).clock = s.clock := rfl
@[simp] theorem setLink_cfg (s : State) (x : Link) : (s.setLink x).cfg = s.cfg := rfl
@[simp] theorem setLink_store (s : State) (x : Link) : (s.setLink x).store = s.store := rfl
@[simp] theorem setLink_claim (s : State) (x : Link) : (s.setLink x).claim = s.claim := rfl
@[simp] theorem setLink_channels (s : State) (x : Link) : (s.setLink x).channels = s.channels := rfl
@[simp] theorem setLink_zones (s : State) (x : Link) : (s.setLink x).zones = s.zones := rfl
@[simp] theorem setLink_wRequest (s : State) (x : Link) : (s.setLink x).wRequest = s.wRequest := rfl
@[simp] theorem setLink_table (s : State) (x : Link) : (s.setLink x).table = s.table := rfl
@[simp] theorem setLink_heads (s : State) (x : Link) : (s.setLink x).heads = s.heads := rfl
@[simp] theorem setLink_link (s : State) (x : Link) : (s.setLink x).link = x := rfl
@[simp] theorem setLink_arbiter (s : State) (x : Link) : (s.setLink x).arbiter = s.arbiter := rfl
@[simp] theorem setLink_boiler (s : State) (x : Link) : (s.setLink x).boiler = s.boiler := rfl
@[simp] theorem setLink_field (s : State) (x : Link) : (s.setLink x).field = s.field := rfl
@[simp] theorem setLink_main (s : State) (x : Link) : (s.setLink x).main = s.main := rfl
@[simp] theorem setLink_service (s : State) (x : Link) : (s.setLink x).service = s.service := rfl
@[simp] theorem setLink_restartPending (s : State) (x : Link) : (s.setLink x).restartPending = s.restartPending := rfl
@[simp] theorem setLink_acting (s : State) (x : Link) : (s.setLink x).acting = s.acting := rfl
@[simp] theorem setLink_pending (s : State) (x : Link) : (s.setLink x).pending = s.pending := rfl

/-! ### `setArbiter` -/

@[simp] theorem setArbiter_clock (s : State) (x : Arbiter) : (s.setArbiter x).clock = s.clock := rfl
@[simp] theorem setArbiter_cfg (s : State) (x : Arbiter) : (s.setArbiter x).cfg = s.cfg := rfl
@[simp] theorem setArbiter_store (s : State) (x : Arbiter) : (s.setArbiter x).store = s.store := rfl
@[simp] theorem setArbiter_claim (s : State) (x : Arbiter) : (s.setArbiter x).claim = s.claim := rfl
@[simp] theorem setArbiter_channels (s : State) (x : Arbiter) : (s.setArbiter x).channels = s.channels := rfl
@[simp] theorem setArbiter_zones (s : State) (x : Arbiter) : (s.setArbiter x).zones = s.zones := rfl
@[simp] theorem setArbiter_wRequest (s : State) (x : Arbiter) : (s.setArbiter x).wRequest = s.wRequest := rfl
@[simp] theorem setArbiter_table (s : State) (x : Arbiter) : (s.setArbiter x).table = s.table := rfl
@[simp] theorem setArbiter_heads (s : State) (x : Arbiter) : (s.setArbiter x).heads = s.heads := rfl
@[simp] theorem setArbiter_link (s : State) (x : Arbiter) : (s.setArbiter x).link = s.link := rfl
@[simp] theorem setArbiter_arbiter (s : State) (x : Arbiter) : (s.setArbiter x).arbiter = x := rfl
@[simp] theorem setArbiter_boiler (s : State) (x : Arbiter) : (s.setArbiter x).boiler = s.boiler := rfl
@[simp] theorem setArbiter_field (s : State) (x : Arbiter) : (s.setArbiter x).field = s.field := rfl
@[simp] theorem setArbiter_main (s : State) (x : Arbiter) : (s.setArbiter x).main = s.main := rfl
@[simp] theorem setArbiter_service (s : State) (x : Arbiter) : (s.setArbiter x).service = s.service := rfl
@[simp] theorem setArbiter_restartPending (s : State) (x : Arbiter) : (s.setArbiter x).restartPending = s.restartPending := rfl
@[simp] theorem setArbiter_acting (s : State) (x : Arbiter) : (s.setArbiter x).acting = s.acting := rfl
@[simp] theorem setArbiter_pending (s : State) (x : Arbiter) : (s.setArbiter x).pending = s.pending := rfl

/-! ### `setQueue` -/

@[simp] theorem setQueue_clock (s : State) (x : List Entry) : (s.setQueue x).clock = s.clock := rfl
@[simp] theorem setQueue_cfg (s : State) (x : List Entry) : (s.setQueue x).cfg = s.cfg := rfl
@[simp] theorem setQueue_store (s : State) (x : List Entry) : (s.setQueue x).store = s.store := rfl
@[simp] theorem setQueue_claim (s : State) (x : List Entry) : (s.setQueue x).claim = s.claim := rfl
@[simp] theorem setQueue_channels (s : State) (x : List Entry) : (s.setQueue x).channels = s.channels := rfl
@[simp] theorem setQueue_zones (s : State) (x : List Entry) : (s.setQueue x).zones = s.zones := rfl
@[simp] theorem setQueue_wRequest (s : State) (x : List Entry) : (s.setQueue x).wRequest = s.wRequest := rfl
@[simp] theorem setQueue_table (s : State) (x : List Entry) : (s.setQueue x).table = s.table := rfl
@[simp] theorem setQueue_heads (s : State) (x : List Entry) : (s.setQueue x).heads = s.heads := rfl
@[simp] theorem setQueue_link (s : State) (x : List Entry) : (s.setQueue x).link = s.link := rfl
@[simp] theorem setQueue_arbiter (s : State) (x : List Entry) : (s.setQueue x).arbiter = { s.arbiter with queue := x } := rfl
@[simp] theorem setQueue_boiler (s : State) (x : List Entry) : (s.setQueue x).boiler = s.boiler := rfl
@[simp] theorem setQueue_field (s : State) (x : List Entry) : (s.setQueue x).field = s.field := rfl
@[simp] theorem setQueue_main (s : State) (x : List Entry) : (s.setQueue x).main = s.main := rfl
@[simp] theorem setQueue_service (s : State) (x : List Entry) : (s.setQueue x).service = s.service := rfl
@[simp] theorem setQueue_restartPending (s : State) (x : List Entry) : (s.setQueue x).restartPending = s.restartPending := rfl
@[simp] theorem setQueue_acting (s : State) (x : List Entry) : (s.setQueue x).acting = s.acting := rfl
@[simp] theorem setQueue_pending (s : State) (x : List Entry) : (s.setQueue x).pending = s.pending := rfl

/-! ### `setWanted` -/

@[simp] theorem setWanted_clock (s : State) (v : Nat) (x : Option Wanted) : (s.setWanted v x).clock = s.clock := rfl
@[simp] theorem setWanted_cfg (s : State) (v : Nat) (x : Option Wanted) : (s.setWanted v x).cfg = s.cfg := rfl
@[simp] theorem setWanted_store (s : State) (v : Nat) (x : Option Wanted) : (s.setWanted v x).store = s.store := rfl
@[simp] theorem setWanted_claim (s : State) (v : Nat) (x : Option Wanted) : (s.setWanted v x).claim = s.claim := rfl
@[simp] theorem setWanted_channels (s : State) (v : Nat) (x : Option Wanted) : (s.setWanted v x).channels = s.channels := rfl
@[simp] theorem setWanted_zones (s : State) (v : Nat) (x : Option Wanted) : (s.setWanted v x).zones = s.zones := rfl
@[simp] theorem setWanted_wRequest (s : State) (v : Nat) (x : Option Wanted) : (s.setWanted v x).wRequest = s.wRequest := rfl
@[simp] theorem setWanted_table (s : State) (v : Nat) (x : Option Wanted) : (s.setWanted v x).table = s.table := rfl
@[simp] theorem setWanted_heads (s : State) (v : Nat) (x : Option Wanted) : (s.setWanted v x).heads = s.heads := rfl
@[simp] theorem setWanted_link (s : State) (v : Nat) (x : Option Wanted) : (s.setWanted v x).link = s.link := rfl
@[simp] theorem setWanted_arbiter (s : State) (v : Nat) (x : Option Wanted) : (s.setWanted v x).arbiter = { s.arbiter with wanted := setItem s.arbiter.wanted v x } := rfl
@[simp] theorem setWanted_boiler (s : State) (v : Nat) (x : Option Wanted) : (s.setWanted v x).boiler = s.boiler := rfl
@[simp] theorem setWanted_field (s : State) (v : Nat) (x : Option Wanted) : (s.setWanted v x).field = s.field := rfl
@[simp] theorem setWanted_main (s : State) (v : Nat) (x : Option Wanted) : (s.setWanted v x).main = s.main := rfl
@[simp] theorem setWanted_service (s : State) (v : Nat) (x : Option Wanted) : (s.setWanted v x).service = s.service := rfl
@[simp] theorem setWanted_restartPending (s : State) (v : Nat) (x : Option Wanted) : (s.setWanted v x).restartPending = s.restartPending := rfl
@[simp] theorem setWanted_acting (s : State) (v : Nat) (x : Option Wanted) : (s.setWanted v x).acting = s.acting := rfl
@[simp] theorem setWanted_pending (s : State) (v : Nat) (x : Option Wanted) : (s.setWanted v x).pending = s.pending := rfl

/-! ### `setBoiler` -/

@[simp] theorem setBoiler_clock (s : State) (x : Boiler) : (s.setBoiler x).clock = s.clock := rfl
@[simp] theorem setBoiler_cfg (s : State) (x : Boiler) : (s.setBoiler x).cfg = s.cfg := rfl
@[simp] theorem setBoiler_store (s : State) (x : Boiler) : (s.setBoiler x).store = s.store := rfl
@[simp] theorem setBoiler_claim (s : State) (x : Boiler) : (s.setBoiler x).claim = s.claim := rfl
@[simp] theorem setBoiler_channels (s : State) (x : Boiler) : (s.setBoiler x).channels = s.channels := rfl
@[simp] theorem setBoiler_zones (s : State) (x : Boiler) : (s.setBoiler x).zones = s.zones := rfl
@[simp] theorem setBoiler_wRequest (s : State) (x : Boiler) : (s.setBoiler x).wRequest = s.wRequest := rfl
@[simp] theorem setBoiler_table (s : State) (x : Boiler) : (s.setBoiler x).table = s.table := rfl
@[simp] theorem setBoiler_heads (s : State) (x : Boiler) : (s.setBoiler x).heads = s.heads := rfl
@[simp] theorem setBoiler_link (s : State) (x : Boiler) : (s.setBoiler x).link = s.link := rfl
@[simp] theorem setBoiler_arbiter (s : State) (x : Boiler) : (s.setBoiler x).arbiter = s.arbiter := rfl
@[simp] theorem setBoiler_boiler (s : State) (x : Boiler) : (s.setBoiler x).boiler = x := rfl
@[simp] theorem setBoiler_field (s : State) (x : Boiler) : (s.setBoiler x).field = s.field := rfl
@[simp] theorem setBoiler_main (s : State) (x : Boiler) : (s.setBoiler x).main = s.main := rfl
@[simp] theorem setBoiler_service (s : State) (x : Boiler) : (s.setBoiler x).service = s.service := rfl
@[simp] theorem setBoiler_restartPending (s : State) (x : Boiler) : (s.setBoiler x).restartPending = s.restartPending := rfl
@[simp] theorem setBoiler_acting (s : State) (x : Boiler) : (s.setBoiler x).acting = s.acting := rfl
@[simp] theorem setBoiler_pending (s : State) (x : Boiler) : (s.setBoiler x).pending = s.pending := rfl

/-! ### `setField` -/

@[simp] theorem setField_clock (s : State) (x : FieldIO) : (s.setField x).clock = s.clock := rfl
@[simp] theorem setField_cfg (s : State) (x : FieldIO) : (s.setField x).cfg = s.cfg := rfl
@[simp] theorem setField_store (s : State) (x : FieldIO) : (s.setField x).store = s.store := rfl
@[simp] theorem setField_claim (s : State) (x : FieldIO) : (s.setField x).claim = s.claim := rfl
@[simp] theorem setField_channels (s : State) (x : FieldIO) : (s.setField x).channels = s.channels := rfl
@[simp] theorem setField_zones (s : State) (x : FieldIO) : (s.setField x).zones = s.zones := rfl
@[simp] theorem setField_wRequest (s : State) (x : FieldIO) : (s.setField x).wRequest = s.wRequest := rfl
@[simp] theorem setField_table (s : State) (x : FieldIO) : (s.setField x).table = s.table := rfl
@[simp] theorem setField_heads (s : State) (x : FieldIO) : (s.setField x).heads = s.heads := rfl
@[simp] theorem setField_link (s : State) (x : FieldIO) : (s.setField x).link = s.link := rfl
@[simp] theorem setField_arbiter (s : State) (x : FieldIO) : (s.setField x).arbiter = s.arbiter := rfl
@[simp] theorem setField_boiler (s : State) (x : FieldIO) : (s.setField x).boiler = s.boiler := rfl
@[simp] theorem setField_field (s : State) (x : FieldIO) : (s.setField x).field = x := rfl
@[simp] theorem setField_main (s : State) (x : FieldIO) : (s.setField x).main = s.main := rfl
@[simp] theorem setField_service (s : State) (x : FieldIO) : (s.setField x).service = s.service := rfl
@[simp] theorem setField_restartPending (s : State) (x : FieldIO) : (s.setField x).restartPending = s.restartPending := rfl
@[simp] theorem setField_acting (s : State) (x : FieldIO) : (s.setField x).acting = s.acting := rfl
@[simp] theorem setField_pending (s : State) (x : FieldIO) : (s.setField x).pending = s.pending := rfl

/-! ### `setInputRec` -/

@[simp] theorem setInputRec_clock (s : State) (n : Nat) (x : InputRec) : (s.setInputRec n x).clock = s.clock := rfl
@[simp] theorem setInputRec_cfg (s : State) (n : Nat) (x : InputRec) : (s.setInputRec n x).cfg = s.cfg := rfl
@[simp] theorem setInputRec_store (s : State) (n : Nat) (x : InputRec) : (s.setInputRec n x).store = s.store := rfl
@[simp] theorem setInputRec_claim (s : State) (n : Nat) (x : InputRec) : (s.setInputRec n x).claim = s.claim := rfl
@[simp] theorem setInputRec_channels (s : State) (n : Nat) (x : InputRec) : (s.setInputRec n x).channels = s.channels := rfl
@[simp] theorem setInputRec_zones (s : State) (n : Nat) (x : InputRec) : (s.setInputRec n x).zones = s.zones := rfl
@[simp] theorem setInputRec_wRequest (s : State) (n : Nat) (x : InputRec) : (s.setInputRec n x).wRequest = s.wRequest := rfl
@[simp] theorem setInputRec_table (s : State) (n : Nat) (x : InputRec) : (s.setInputRec n x).table = s.table := rfl
@[simp] theorem setInputRec_heads (s : State) (n : Nat) (x : InputRec) : (s.setInputRec n x).heads = s.heads := rfl
@[simp] theorem setInputRec_link (s : State) (n : Nat) (x : InputRec) : (s.setInputRec n x).link = s.link := rfl
@[simp] theorem setInputRec_arbiter (s : State) (n : Nat) (x : InputRec) : (s.setInputRec n x).arbiter = s.arbiter := rfl
@[simp] theorem setInputRec_boiler (s : State) (n : Nat) (x : InputRec) : (s.setInputRec n x).boiler = s.boiler := rfl
@[simp] theorem setInputRec_field (s : State) (n : Nat) (x : InputRec) : (s.setInputRec n x).field = { s.field with inputs := setItem s.field.inputs n x } := rfl
@[simp] theorem setInputRec_main (s : State) (n : Nat) (x : InputRec) : (s.setInputRec n x).main = s.main := rfl
@[simp] theorem setInputRec_service (s : State) (n : Nat) (x : InputRec) : (s.setInputRec n x).service = s.service := rfl
@[simp] theorem setInputRec_restartPending (s : State) (n : Nat) (x : InputRec) : (s.setInputRec n x).restartPending = s.restartPending := rfl
@[simp] theorem setInputRec_acting (s : State) (n : Nat) (x : InputRec) : (s.setInputRec n x).acting = s.acting := rfl
@[simp] theorem setInputRec_pending (s : State) (n : Nat) (x : InputRec) : (s.setInputRec n x).pending = s.pending := rfl

/-! ### `setSensor` -/

@[simp] theorem setSensor_clock (s : State) (y : Sensor) (x : SensorRec) : (s.setSensor y x).clock = s.clock := by cases y <;> rfl
@[simp] theorem setSensor_cfg (s : State) (y : Sensor) (x : SensorRec) : (s.setSensor y x).cfg = s.cfg := by cases y <;> rfl
@[simp] theorem setSensor_store (s : State) (y : Sensor) (x : SensorRec) : (s.setSensor y x).store = s.store := by cases y <;> rfl
@[simp] theorem setSensor_claim (s : State) (y : Sensor) (x : SensorRec) : (s.setSensor y x).claim = s.claim := by cases y <;> rfl
@[simp] theorem setSensor_channels (s : State) (y : Sensor) (x : SensorRec) : (s.setSensor y x).channels = s.channels := by cases y <;> rfl
@[simp] theorem setSensor_zones (s : State) (y : Sensor) (x : SensorRec) : (s.setSensor y x).zones = s.zones := by cases y <;> rfl
@[simp] theorem setSensor_wRequest (s : State) (y : Sensor) (x : SensorRec) : (s.setSensor y x).wRequest = s.wRequest := by cases y <;> rfl
@[simp] theorem setSensor_table (s : State) (y : Sensor) (x : SensorRec) : (s.setSensor y x).table = s.table := by cases y <;> rfl
@[simp] theorem setSensor_heads (s : State) (y : Sensor) (x : SensorRec) : (s.setSensor y x).heads = s.heads := by cases y <;> rfl
@[simp] theorem setSensor_link (s : State) (y : Sensor) (x : SensorRec) : (s.setSensor y x).link = s.link := by cases y <;> rfl
@[simp] theorem setSensor_arbiter (s : State) (y : Sensor) (x : SensorRec) : (s.setSensor y x).arbiter = s.arbiter := by cases y <;> rfl
@[simp] theorem setSensor_boiler (s : State) (y : Sensor) (x : SensorRec) : (s.setSensor y x).boiler = s.boiler := by cases y <;> rfl
@[simp] theorem setSensor_main (s : State) (y : Sensor) (x : SensorRec) : (s.setSensor y x).main = s.main := by cases y <;> rfl
@[simp] theorem setSensor_service (s : State) (y : Sensor) (x : SensorRec) : (s.setSensor y x).service = s.service := by cases y <;> rfl
@[simp] theorem setSensor_restartPending (s : State) (y : Sensor) (x : SensorRec) : (s.setSensor y x).restartPending = s.restartPending := by cases y <;> rfl
@[simp] theorem setSensor_acting (s : State) (y : Sensor) (x : SensorRec) : (s.setSensor y x).acting = s.acting := by cases y <;> rfl
@[simp] theorem setSensor_pending (s : State) (y : Sensor) (x : SensorRec) : (s.setSensor y x).pending = s.pending := by cases y <;> rfl

/-! ### `setClock` -/

@[simp] theorem setClock_clock (s : State) (x : Clock) : (s.setClock x).clock = x := rfl
@[simp] theorem setClock_cfg (s : State) (x : Clock) : (s.setClock x).cfg = s.cfg := rfl
@[simp] theorem setClock_store (s : State) (x : Clock) : (s.setClock x).store = s.store := rfl
@[simp] theorem setClock_claim (s : State) (x : Clock) : (s.setClock x).claim = s.claim := rfl
@[simp] theorem setClock_channels (s : State) (x : Clock) : (s.setClock x).channels = s.channels := rfl
@[simp] theorem setClock_zones (s : State) (x : Clock) : (s.setClock x).zones = s.zones := rfl
@[simp] theorem setClock_wRequest (s : State) (x : Clock) : (s.setClock x).wRequest = s.wRequest := rfl
@[simp] theorem setClock_table (s : State) (x : Clock) : (s.setClock x).table = s.table := rfl
@[simp] theorem setClock_heads (s : State) (x : Clock) : (s.setClock x).heads = s.heads := rfl
@[simp] theorem setClock_link (s : State) (x : Clock) : (s.setClock x).link = s.link := rfl
@[simp] theorem setClock_arbiter (s : State) (x : Clock) : (s.setClock x).arbiter = s.arbiter := rfl
@[simp] theorem setClock_boiler (s : State) (x : Clock) : (s.setClock x).boiler = s.boiler := rfl
@[simp] theorem setClock_field (s : State) (x : Clock) : (s.setClock x).field = s.field := rfl
@[simp] theorem setClock_main (s : State) (x : Clock) : (s.setClock x).main = s.main := rfl
@[simp] theorem setClock_service (s : State) (x : Clock) : (s.setClock x).service = s.service := rfl
@[simp] theorem setClock_restartPending (s : State) (x : Clock) : (s.setClock x).restartPending = s.restartPending := rfl
@[simp] theorem setClock_acting (s : State) (x : Clock) : (s.setClock x).acting = s.acting := rfl
@[simp] theorem setClock_pending (s : State) (x : Clock) : (s.setClock x).pending = s.pending := rfl

/-! ### `setClaim` -/

@[simp] theorem setClaim_clock (s : State) (x : Option EditClaim) : (s.setClaim x).clock = s.clock := rfl
@[simp] theorem setClaim_cfg (s : State) (x : Option EditClaim) : (s.setClaim x).cfg = s.cfg := rfl
@[simp] theorem setClaim_store (s : State) (x : Option EditClaim) : (s.setClaim x).store = s.store := rfl
@[simp] theorem setClaim_claim (s : State) (x : Option EditClaim) : (s.setClaim x).claim = x := rfl
@[simp] theorem setClaim_channels (s : State) (x : Option EditClaim) : (s.setClaim x).channels = s.channels := rfl
@[simp] theorem setClaim_zones (s : State) (x : Option EditClaim) : (s.setClaim x).zones = s.zones := rfl
@[simp] theorem setClaim_wRequest (s : State) (x : Option EditClaim) : (s.setClaim x).wRequest = s.wRequest := rfl
@[simp] theorem setClaim_table (s : State) (x : Option EditClaim) : (s.setClaim x).table = s.table := rfl
@[simp] theorem setClaim_heads (s : State) (x : Option EditClaim) : (s.setClaim x).heads = s.heads := rfl
@[simp] theorem setClaim_link (s : State) (x : Option EditClaim) : (s.setClaim x).link = s.link := rfl
@[simp] theorem setClaim_arbiter (s : State) (x : Option EditClaim) : (s.setClaim x).arbiter = s.arbiter := rfl
@[simp] theorem setClaim_boiler (s : State) (x : Option EditClaim) : (s.setClaim x).boiler = s.boiler := rfl
@[simp] theorem setClaim_field (s : State) (x : Option EditClaim) : (s.setClaim x).field = s.field := rfl
@[simp] theorem setClaim_main (s : State) (x : Option EditClaim) : (s.setClaim x).main = s.main := rfl
@[simp] theorem setClaim_service (s : State) (x : Option EditClaim) : (s.setClaim x).service = s.service := rfl
@[simp] theorem setClaim_restartPending (s : State) (x : Option EditClaim) : (s.setClaim x).restartPending = s.restartPending := rfl
@[simp] theorem setClaim_acting (s : State) (x : Option EditClaim) : (s.setClaim x).acting = s.acting := rfl
@[simp] theorem setClaim_pending (s : State) (x : Option EditClaim) : (s.setClaim x).pending = s.pending := rfl

/-! ### `setStore` -/

@[simp] theorem setStore_clock (s : State) (x : Store) : (s.setStore x).clock = s.clock := rfl
@[simp] theorem setStore_cfg (s : State) (x : Store) : (s.setStore x).cfg = s.cfg := rfl
@[simp] theorem setStore_store (s : State) (x : Store) : (s.setStore x).store = x := rfl
@[simp] theorem setStore_claim (s : State) (x : Store) : (s.setStore x).claim = s.claim := rfl
@[simp] theorem setStore_channels (s : State) (x : Store) : (s.setStore x).channels = s.channels := rfl
@[simp] theorem setStore_zones (s : State) (x : Store) : (s.setStore x).zones = s.zones := rfl
@[simp] theorem setStore_wRequest (s : State) (x : Store) : (s.setStore x).wRequest = s.wRequest := rfl
@[simp] theorem setStore_table (s : State) (x : Store) : (s.setStore x).table = s.table := rfl
@[simp] theorem setStore_heads (s : State) (x : Store) : (s.setStore x).heads = s.heads := rfl
@[simp] theorem setStore_link (s : State) (x : Store) : (s.setStore x).link = s.link := rfl
@[simp] theorem setStore_arbiter (s : State) (x : Store) : (s.setStore x).arbiter = s.arbiter := rfl
@[simp] theorem setStore_boiler (s : State) (x : Store) : (s.setStore x).boiler = s.boiler := rfl
@[simp] theorem setStore_field (s : State) (x : Store) : (s.setStore x).field = s.field := rfl
@[simp] theorem setStore_main (s : State) (x : Store) : (s.setStore x).main = s.main := rfl
@[simp] theorem setStore_service (s : State) (x : Store) : (s.setStore x).service = s.service := rfl
@[simp] theorem setStore_restartPending (s : State) (x : Store) : (s.setStore x).restartPending = s.restartPending := rfl
@[simp] theorem setStore_acting (s : State) (x : Store) : (s.setStore x).acting = s.acting := rfl
@[simp] theorem setStore_pending (s : State) (x : Store) : (s.setStore x).pending = s.pending := rfl

/-! ### `setPort`, `setRx`, `setCursor` -/

@[simp] theorem setPort_clock (s : State) (p : Port) (x : PortState) : (s.setPort p x).clock = s.clock := by cases p <;> rfl
@[simp] theorem setPort_cfg (s : State) (p : Port) (x : PortState) : (s.setPort p x).cfg = s.cfg := by cases p <;> rfl
@[simp] theorem setPort_store (s : State) (p : Port) (x : PortState) : (s.setPort p x).store = s.store := by cases p <;> rfl
@[simp] theorem setPort_claim (s : State) (p : Port) (x : PortState) : (s.setPort p x).claim = s.claim := by cases p <;> rfl
@[simp] theorem setPort_channels (s : State) (p : Port) (x : PortState) : (s.setPort p x).channels = s.channels := by cases p <;> rfl
@[simp] theorem setPort_zones (s : State) (p : Port) (x : PortState) : (s.setPort p x).zones = s.zones := by cases p <;> rfl
@[simp] theorem setPort_wRequest (s : State) (p : Port) (x : PortState) : (s.setPort p x).wRequest = s.wRequest := by cases p <;> rfl
@[simp] theorem setPort_table (s : State) (p : Port) (x : PortState) : (s.setPort p x).table = s.table := by cases p <;> rfl
@[simp] theorem setPort_heads (s : State) (p : Port) (x : PortState) : (s.setPort p x).heads = s.heads := by cases p <;> rfl
@[simp] theorem setPort_link (s : State) (p : Port) (x : PortState) : (s.setPort p x).link = s.link := by cases p <;> rfl
@[simp] theorem setPort_arbiter (s : State) (p : Port) (x : PortState) : (s.setPort p x).arbiter = s.arbiter := by cases p <;> rfl
@[simp] theorem setPort_boiler (s : State) (p : Port) (x : PortState) : (s.setPort p x).boiler = s.boiler := by cases p <;> rfl
@[simp] theorem setPort_field (s : State) (p : Port) (x : PortState) : (s.setPort p x).field = s.field := by cases p <;> rfl
@[simp] theorem setPort_restartPending (s : State) (p : Port) (x : PortState) : (s.setPort p x).restartPending = s.restartPending := by cases p <;> rfl
@[simp] theorem setPort_acting (s : State) (p : Port) (x : PortState) : (s.setPort p x).acting = s.acting := by cases p <;> rfl
@[simp] theorem setPort_pending (s : State) (p : Port) (x : PortState) : (s.setPort p x).pending = s.pending := by cases p <;> rfl
@[simp] theorem setRx_clock (s : State) (p : Port) (x : Receiver) : (s.setRx p x).clock = s.clock := by cases p <;> rfl
@[simp] theorem setRx_cfg (s : State) (p : Port) (x : Receiver) : (s.setRx p x).cfg = s.cfg := by cases p <;> rfl
@[simp] theorem setRx_store (s : State) (p : Port) (x : Receiver) : (s.setRx p x).store = s.store := by cases p <;> rfl
@[simp] theorem setRx_claim (s : State) (p : Port) (x : Receiver) : (s.setRx p x).claim = s.claim := by cases p <;> rfl
@[simp] theorem setRx_channels (s : State) (p : Port) (x : Receiver) : (s.setRx p x).channels = s.channels := by cases p <;> rfl
@[simp] theorem setRx_zones (s : State) (p : Port) (x : Receiver) : (s.setRx p x).zones = s.zones := by cases p <;> rfl
@[simp] theorem setRx_wRequest (s : State) (p : Port) (x : Receiver) : (s.setRx p x).wRequest = s.wRequest := by cases p <;> rfl
@[simp] theorem setRx_table (s : State) (p : Port) (x : Receiver) : (s.setRx p x).table = s.table := by cases p <;> rfl
@[simp] theorem setRx_heads (s : State) (p : Port) (x : Receiver) : (s.setRx p x).heads = s.heads := by cases p <;> rfl
@[simp] theorem setRx_link (s : State) (p : Port) (x : Receiver) : (s.setRx p x).link = s.link := by cases p <;> rfl
@[simp] theorem setRx_arbiter (s : State) (p : Port) (x : Receiver) : (s.setRx p x).arbiter = s.arbiter := by cases p <;> rfl
@[simp] theorem setRx_boiler (s : State) (p : Port) (x : Receiver) : (s.setRx p x).boiler = s.boiler := by cases p <;> rfl
@[simp] theorem setRx_field (s : State) (p : Port) (x : Receiver) : (s.setRx p x).field = s.field := by cases p <;> rfl
@[simp] theorem setRx_restartPending (s : State) (p : Port) (x : Receiver) : (s.setRx p x).restartPending = s.restartPending := by cases p <;> rfl
@[simp] theorem setRx_acting (s : State) (p : Port) (x : Receiver) : (s.setRx p x).acting = s.acting := by cases p <;> rfl
@[simp] theorem setRx_pending (s : State) (p : Port) (x : Receiver) : (s.setRx p x).pending = s.pending := by cases p <;> rfl
@[simp] theorem setCursor_clock (s : State) (p : Port) (x : Option Cursor) : (s.setCursor p x).clock = s.clock := by cases p <;> rfl
@[simp] theorem setCursor_cfg (s : State) (p : Port) (x : Option Cursor) : (s.setCursor p x).cfg = s.cfg := by cases p <;> rfl
@[simp] theorem setCursor_store (s : State) (p : Port) (x : Option Cursor) : (s.setCursor p x).store = s.store := by cases p <;> rfl
@[simp] theorem setCursor_claim (s : State) (p : Port) (x : Option Cursor) : (s.setCursor p x).claim = s.claim := by cases p <;> rfl
@[simp] theorem setCursor_channels (s : State) (p : Port) (x : Option Cursor) : (s.setCursor p x).channels = s.channels := by cases p <;> rfl
@[simp] theorem setCursor_zones (s : State) (p : Port) (x : Option Cursor) : (s.setCursor p x).zones = s.zones := by cases p <;> rfl
@[simp] theorem setCursor_wRequest (s : State) (p : Port) (x : Option Cursor) : (s.setCursor p x).wRequest = s.wRequest := by cases p <;> rfl
@[simp] theorem setCursor_table (s : State) (p : Port) (x : Option Cursor) : (s.setCursor p x).table = s.table := by cases p <;> rfl
@[simp] theorem setCursor_heads (s : State) (p : Port) (x : Option Cursor) : (s.setCursor p x).heads = s.heads := by cases p <;> rfl
@[simp] theorem setCursor_link (s : State) (p : Port) (x : Option Cursor) : (s.setCursor p x).link = s.link := by cases p <;> rfl
@[simp] theorem setCursor_arbiter (s : State) (p : Port) (x : Option Cursor) : (s.setCursor p x).arbiter = s.arbiter := by cases p <;> rfl
@[simp] theorem setCursor_boiler (s : State) (p : Port) (x : Option Cursor) : (s.setCursor p x).boiler = s.boiler := by cases p <;> rfl
@[simp] theorem setCursor_field (s : State) (p : Port) (x : Option Cursor) : (s.setCursor p x).field = s.field := by cases p <;> rfl
@[simp] theorem setCursor_restartPending (s : State) (p : Port) (x : Option Cursor) : (s.setCursor p x).restartPending = s.restartPending := by cases p <;> rfl
@[simp] theorem setCursor_acting (s : State) (p : Port) (x : Option Cursor) : (s.setCursor p x).acting = s.acting := by cases p <;> rfl
@[simp] theorem setCursor_pending (s : State) (p : Port) (x : Option Cursor) : (s.setCursor p x).pending = s.pending := by cases p <;> rfl

@[simp] theorem setPort_port (s : State) (p : Port) (x : PortState) : (s.setPort p x).port p = x := by
  cases p <;> rfl

theorem setPort_port_other (s : State) (p q : Port) (x : PortState) (h : q ≠ p) :
    (s.setPort p x).port q = s.port q := by
  cases p <;> cases q <;> first | rfl | exact absurd rfl h

end Sys2Proof.Machine
end

