-- ==== Sys2Proof/Laws/Keeps.lean ====
section
/-! SUPPORT. What each shared operation leaves as it was: for every operation one lemma that names the blocks of the
state it does not touch. Each is a conjunction, so that `simp` takes every part of it as a rule. -/

namespace Sys2Proof.Machine

/-! ## Ports and layers -/

@[simp] theorem raiseAt_keeps (s : State) (p : Port) (c : Category) (o : ObjectSet) (m : Byte) :
    (s.raiseAt p c o m).clock = s.clock ∧ (s.raiseAt p c o m).cfg = s.cfg ∧ (s.raiseAt p c o m).store = s.store ∧
    (s.raiseAt p c o m).claim = s.claim ∧ (s.raiseAt p c o m).channels = s.channels ∧
    (s.raiseAt p c o m).zones = s.zones ∧ (s.raiseAt p c o m).wRequest = s.wRequest ∧
    (s.raiseAt p c o m).table = s.table ∧ (s.raiseAt p c o m).heads = s.heads ∧ (s.raiseAt p c o m).link = s.link ∧
    (s.raiseAt p c o m).arbiter = s.arbiter ∧ (s.raiseAt p c o m).boiler = s.boiler ∧
    (s.raiseAt p c o m).field = s.field ∧ (s.raiseAt p c o m).restartPending = s.restartPending ∧
    (s.raiseAt p c o m).acting = s.acting ∧ (s.raiseAt p c o m).pending = s.pending := by
  simp [State.raiseAt]

@[simp] theorem raise_keeps (s : State) (c : Category) (o : ObjectSet) :
    (s.raise c o).clock = s.clock ∧ (s.raise c o).cfg = s.cfg ∧ (s.raise c o).store = s.store ∧
    (s.raise c o).claim = s.claim ∧ (s.raise c o).channels = s.channels ∧ (s.raise c o).zones = s.zones ∧
    (s.raise c o).wRequest = s.wRequest ∧ (s.raise c o).table = s.table ∧ (s.raise c o).heads = s.heads ∧
    (s.raise c o).link = s.link ∧ (s.raise c o).arbiter = s.arbiter ∧ (s.raise c o).boiler = s.boiler ∧
    (s.raise c o).field = s.field ∧ (s.raise c o).restartPending = s.restartPending ∧
    (s.raise c o).acting = s.acting ∧ (s.raise c o).pending = s.pending := by
  simp [State.raise]

@[simp] theorem raiseStore_keeps (s : State) (m : Byte) :
    (s.raiseStore m).clock = s.clock ∧ (s.raiseStore m).cfg = s.cfg ∧ (s.raiseStore m).store = s.store ∧
    (s.raiseStore m).claim = s.claim ∧ (s.raiseStore m).channels = s.channels ∧ (s.raiseStore m).zones = s.zones ∧
    (s.raiseStore m).wRequest = s.wRequest ∧ (s.raiseStore m).table = s.table ∧ (s.raiseStore m).heads = s.heads ∧
    (s.raiseStore m).link = s.link ∧ (s.raiseStore m).arbiter = s.arbiter ∧ (s.raiseStore m).boiler = s.boiler ∧
    (s.raiseStore m).field = s.field ∧ (s.raiseStore m).restartPending = s.restartPending ∧
    (s.raiseStore m).acting = s.acting ∧ (s.raiseStore m).pending = s.pending := by
  simp [State.raiseStore]

@[simp] theorem endEvent_keeps (s : State) :
    (s.endEvent).clock = s.clock ∧ (s.endEvent).cfg = s.cfg ∧ (s.endEvent).store = s.store ∧
    (s.endEvent).claim = s.claim ∧ (s.endEvent).channels = s.channels ∧ (s.endEvent).zones = s.zones ∧
    (s.endEvent).wRequest = s.wRequest ∧ (s.endEvent).table = s.table ∧ (s.endEvent).heads = s.heads ∧
    (s.endEvent).link = s.link ∧ (s.endEvent).arbiter = s.arbiter ∧ (s.endEvent).boiler = s.boiler ∧
    (s.endEvent).field = s.field ∧ (s.endEvent).restartPending = s.restartPending ∧ (s.endEvent).acting = s.acting ∧
    (s.endEvent).pending = s.pending := by
  simp [State.endEvent]

@[simp] theorem pushTx_keeps (s : State) (p : Port) (f : TxFrame) :
    (s.pushTx p f).clock = s.clock ∧ (s.pushTx p f).cfg = s.cfg ∧ (s.pushTx p f).store = s.store ∧
    (s.pushTx p f).claim = s.claim ∧ (s.pushTx p f).channels = s.channels ∧ (s.pushTx p f).zones = s.zones ∧
    (s.pushTx p f).wRequest = s.wRequest ∧ (s.pushTx p f).table = s.table ∧ (s.pushTx p f).heads = s.heads ∧
    (s.pushTx p f).link = s.link ∧ (s.pushTx p f).arbiter = s.arbiter ∧ (s.pushTx p f).boiler = s.boiler ∧
    (s.pushTx p f).field = s.field ∧ (s.pushTx p f).restartPending = s.restartPending ∧
    (s.pushTx p f).acting = s.acting ∧ (s.pushTx p f).pending = s.pending := by
  simp [State.pushTx]

@[simp] theorem makeRoom_keeps (s : State) (c : Nat) :
    (s.makeRoom c).clock = s.clock ∧ (s.makeRoom c).cfg = s.cfg ∧ (s.makeRoom c).store = s.store ∧
    (s.makeRoom c).claim = s.claim ∧ (s.makeRoom c).zones = s.zones ∧ (s.makeRoom c).wRequest = s.wRequest ∧
    (s.makeRoom c).table = s.table ∧ (s.makeRoom c).heads = s.heads ∧ (s.makeRoom c).link = s.link ∧
    (s.makeRoom c).arbiter = s.arbiter ∧ (s.makeRoom c).boiler = s.boiler ∧ (s.makeRoom c).field = s.field ∧
    (s.makeRoom c).restartPending = s.restartPending ∧ (s.makeRoom c).acting = s.acting ∧
    (s.makeRoom c).pending = s.pending := by
  simp only [State.makeRoom]
  repeat' split
  all_goals simp

@[simp] theorem placeLayer_keeps (s : State) (c : Nat) (l : Layer) :
    (s.placeLayer c l).clock = s.clock ∧ (s.placeLayer c l).cfg = s.cfg ∧ (s.placeLayer c l).store = s.store ∧
    (s.placeLayer c l).claim = s.claim ∧ (s.placeLayer c l).zones = s.zones ∧
    (s.placeLayer c l).wRequest = s.wRequest ∧ (s.placeLayer c l).table = s.table ∧
    (s.placeLayer c l).heads = s.heads ∧ (s.placeLayer c l).link = s.link ∧ (s.placeLayer c l).arbiter = s.arbiter ∧
    (s.placeLayer c l).boiler = s.boiler ∧ (s.placeLayer c l).field = s.field ∧
    (s.placeLayer c l).restartPending = s.restartPending ∧ (s.placeLayer c l).acting = s.acting ∧
    (s.placeLayer c l).pending = s.pending := by
  simp [State.placeLayer]

@[simp] theorem placeWindow_keeps (s : State) (k : Nat) (o : Origin) :
    (s.placeWindow k o).clock = s.clock ∧ (s.placeWindow k o).cfg = s.cfg ∧ (s.placeWindow k o).store = s.store ∧
    (s.placeWindow k o).claim = s.claim ∧ (s.placeWindow k o).zones = s.zones ∧
    (s.placeWindow k o).wRequest = s.wRequest ∧ (s.placeWindow k o).table = s.table ∧
    (s.placeWindow k o).heads = s.heads ∧ (s.placeWindow k o).link = s.link ∧
    (s.placeWindow k o).arbiter = s.arbiter ∧ (s.placeWindow k o).boiler = s.boiler ∧
    (s.placeWindow k o).field = s.field ∧ (s.placeWindow k o).restartPending = s.restartPending ∧
    (s.placeWindow k o).acting = s.acting ∧ (s.placeWindow k o).pending = s.pending := by
  simp only [State.placeWindow]
  repeat' split
  all_goals simp

/-! ## Move arbiter and link -/

@[simp] theorem addCommand_keeps (s : State) (v : Nat) (r : LinkRequest) :
    (s.addCommand v r).clock = s.clock ∧ (s.addCommand v r).cfg = s.cfg ∧ (s.addCommand v r).store = s.store ∧
    (s.addCommand v r).claim = s.claim ∧ (s.addCommand v r).channels = s.channels ∧
    (s.addCommand v r).zones = s.zones ∧ (s.addCommand v r).wRequest = s.wRequest ∧
    (s.addCommand v r).table = s.table ∧ (s.addCommand v r).heads = s.heads ∧ (s.addCommand v r).arbiter = s.arbiter ∧
    (s.addCommand v r).boiler = s.boiler ∧ (s.addCommand v r).field = s.field ∧ (s.addCommand v r).main = s.main ∧
    (s.addCommand v r).service = s.service ∧ (s.addCommand v r).restartPending = s.restartPending ∧
    (s.addCommand v r).acting = s.acting ∧ (s.addCommand v r).pending = s.pending := by
  simp [State.addCommand]

@[simp] theorem dropCommands_keeps (s : State) (v : Nat) :
    (s.dropCommands v).clock = s.clock ∧ (s.dropCommands v).cfg = s.cfg ∧ (s.dropCommands v).store = s.store ∧
    (s.dropCommands v).claim = s.claim ∧ (s.dropCommands v).channels = s.channels ∧
    (s.dropCommands v).zones = s.zones ∧ (s.dropCommands v).wRequest = s.wRequest ∧
    (s.dropCommands v).table = s.table ∧ (s.dropCommands v).heads = s.heads ∧ (s.dropCommands v).arbiter = s.arbiter ∧
    (s.dropCommands v).boiler = s.boiler ∧ (s.dropCommands v).field = s.field ∧ (s.dropCommands v).main = s.main ∧
    (s.dropCommands v).service = s.service ∧ (s.dropCommands v).restartPending = s.restartPending ∧
    (s.dropCommands v).acting = s.acting ∧ (s.dropCommands v).pending = s.pending := by
  simp [State.dropCommands]

@[simp] theorem newEntry_keeps (s : State) (v : Nat) (o : MoveOp) (t : Nat) (c : MoveClass) :
    (s.newEntry v o t c).clock = s.clock ∧ (s.newEntry v o t c).cfg = s.cfg ∧ (s.newEntry v o t c).store = s.store ∧
    (s.newEntry v o t c).claim = s.claim ∧ (s.newEntry v o t c).channels = s.channels ∧
    (s.newEntry v o t c).zones = s.zones ∧ (s.newEntry v o t c).wRequest = s.wRequest ∧
    (s.newEntry v o t c).table = s.table ∧ (s.newEntry v o t c).heads = s.heads ∧ (s.newEntry v o t c).link = s.link ∧
    (s.newEntry v o t c).boiler = s.boiler ∧ (s.newEntry v o t c).field = s.field ∧
    (s.newEntry v o t c).main = s.main ∧ (s.newEntry v o t c).service = s.service ∧
    (s.newEntry v o t c).restartPending = s.restartPending ∧ (s.newEntry v o t c).acting = s.acting ∧
    (s.newEntry v o t c).pending = s.pending := by
  simp [State.newEntry]

@[simp] theorem updateEntry_keeps (s : State) (v : Nat) (f : Entry → Entry) :
    (s.updateEntry v f).clock = s.clock ∧ (s.updateEntry v f).cfg = s.cfg ∧ (s.updateEntry v f).store = s.store ∧
    (s.updateEntry v f).claim = s.claim ∧ (s.updateEntry v f).channels = s.channels ∧
    (s.updateEntry v f).zones = s.zones ∧ (s.updateEntry v f).wRequest = s.wRequest ∧
    (s.updateEntry v f).table = s.table ∧ (s.updateEntry v f).heads = s.heads ∧ (s.updateEntry v f).link = s.link ∧
    (s.updateEntry v f).boiler = s.boiler ∧ (s.updateEntry v f).field = s.field ∧ (s.updateEntry v f).main = s.main ∧
    (s.updateEntry v f).service = s.service ∧ (s.updateEntry v f).restartPending = s.restartPending ∧
    (s.updateEntry v f).acting = s.acting ∧ (s.updateEntry v f).pending = s.pending := by
  simp [State.updateEntry]

@[simp] theorem removeEntry_keeps (s : State) (v : Nat) :
    (s.removeEntry v).clock = s.clock ∧ (s.removeEntry v).cfg = s.cfg ∧ (s.removeEntry v).store = s.store ∧
    (s.removeEntry v).claim = s.claim ∧ (s.removeEntry v).channels = s.channels ∧ (s.removeEntry v).zones = s.zones ∧
    (s.removeEntry v).wRequest = s.wRequest ∧ (s.removeEntry v).table = s.table ∧ (s.removeEntry v).heads = s.heads ∧
    (s.removeEntry v).link = s.link ∧ (s.removeEntry v).boiler = s.boiler ∧ (s.removeEntry v).field = s.field ∧
    (s.removeEntry v).main = s.main ∧ (s.removeEntry v).service = s.service ∧
    (s.removeEntry v).restartPending = s.restartPending ∧ (s.removeEntry v).acting = s.acting ∧
    (s.removeEntry v).pending = s.pending := by
  simp [State.removeEntry]

@[simp] theorem joinDrive_keeps (s : State) (v t : Nat) (c : MoveClass) :
    (s.joinDrive v t c).clock = s.clock ∧ (s.joinDrive v t c).cfg = s.cfg ∧ (s.joinDrive v t c).store = s.store ∧
    (s.joinDrive v t c).claim = s.claim ∧ (s.joinDrive v t c).channels = s.channels ∧
    (s.joinDrive v t c).zones = s.zones ∧ (s.joinDrive v t c).wRequest = s.wRequest ∧
    (s.joinDrive v t c).table = s.table ∧ (s.joinDrive v t c).heads = s.heads ∧ (s.joinDrive v t c).link = s.link ∧
    (s.joinDrive v t c).boiler = s.boiler ∧ (s.joinDrive v t c).field = s.field ∧ (s.joinDrive v t c).main = s.main ∧
    (s.joinDrive v t c).service = s.service ∧ (s.joinDrive v t c).restartPending = s.restartPending ∧
    (s.joinDrive v t c).acting = s.acting ∧ (s.joinDrive v t c).pending = s.pending := by
  simp only [State.joinDrive]
  repeat' split
  all_goals simp

@[simp] theorem requestHoming_keeps (s : State) (v : Nat) :
    (s.requestHoming v).clock = s.clock ∧ (s.requestHoming v).cfg = s.cfg ∧ (s.requestHoming v).store = s.store ∧
    (s.requestHoming v).claim = s.claim ∧ (s.requestHoming v).channels = s.channels ∧
    (s.requestHoming v).zones = s.zones ∧ (s.requestHoming v).wRequest = s.wRequest ∧
    (s.requestHoming v).table = s.table ∧ (s.requestHoming v).heads = s.heads ∧ (s.requestHoming v).link = s.link ∧
    (s.requestHoming v).boiler = s.boiler ∧ (s.requestHoming v).field = s.field ∧ (s.requestHoming v).main = s.main ∧
    (s.requestHoming v).service = s.service ∧ (s.requestHoming v).restartPending = s.restartPending ∧
    (s.requestHoming v).acting = s.acting ∧ (s.requestHoming v).pending = s.pending := by
  simp only [State.requestHoming]
  repeat' split
  all_goals simp

@[simp] theorem dropRegulated_keeps (s : State) (v : Nat) :
    (s.dropRegulated v).clock = s.clock ∧ (s.dropRegulated v).cfg = s.cfg ∧ (s.dropRegulated v).store = s.store ∧
    (s.dropRegulated v).claim = s.claim ∧ (s.dropRegulated v).channels = s.channels ∧
    (s.dropRegulated v).zones = s.zones ∧ (s.dropRegulated v).wRequest = s.wRequest ∧
    (s.dropRegulated v).table = s.table ∧ (s.dropRegulated v).heads = s.heads ∧ (s.dropRegulated v).link = s.link ∧
    (s.dropRegulated v).boiler = s.boiler ∧ (s.dropRegulated v).field = s.field ∧ (s.dropRegulated v).main = s.main ∧
    (s.dropRegulated v).service = s.service ∧ (s.dropRegulated v).restartPending = s.restartPending ∧
    (s.dropRegulated v).acting = s.acting ∧ (s.dropRegulated v).pending = s.pending := by
  simp only [State.dropRegulated]
  repeat' split
  all_goals simp

@[simp] theorem offer_keeps (s : State) (v : Nat) :
    (s.offer v).clock = s.clock ∧ (s.offer v).cfg = s.cfg ∧ (s.offer v).store = s.store ∧
    (s.offer v).claim = s.claim ∧ (s.offer v).channels = s.channels ∧ (s.offer v).zones = s.zones ∧
    (s.offer v).wRequest = s.wRequest ∧ (s.offer v).table = s.table ∧ (s.offer v).heads = s.heads ∧
    (s.offer v).link = s.link ∧ (s.offer v).boiler = s.boiler ∧ (s.offer v).field = s.field ∧
    (s.offer v).main = s.main ∧ (s.offer v).service = s.service ∧ (s.offer v).restartPending = s.restartPending ∧
    (s.offer v).acting = s.acting ∧ (s.offer v).pending = s.pending := by
  simp only [State.offer]
  repeat' split
  all_goals simp

@[simp] theorem formAndOffer_keeps (s : State) (v : Nat) :
    (s.formAndOffer v).clock = s.clock ∧ (s.formAndOffer v).cfg = s.cfg ∧ (s.formAndOffer v).store = s.store ∧
    (s.formAndOffer v).claim = s.claim ∧ (s.formAndOffer v).channels = s.channels ∧
    (s.formAndOffer v).zones = s.zones ∧ (s.formAndOffer v).wRequest = s.wRequest ∧
    (s.formAndOffer v).table = s.table ∧ (s.formAndOffer v).heads = s.heads ∧ (s.formAndOffer v).link = s.link ∧
    (s.formAndOffer v).boiler = s.boiler ∧ (s.formAndOffer v).field = s.field ∧ (s.formAndOffer v).main = s.main ∧
    (s.formAndOffer v).service = s.service ∧ (s.formAndOffer v).restartPending = s.restartPending ∧
    (s.formAndOffer v).acting = s.acting ∧ (s.formAndOffer v).pending = s.pending := by
  simp [State.formAndOffer]

@[simp] theorem formAll_keeps (s : State) (vs : List Nat) :
    (s.formAll vs).clock = s.clock ∧ (s.formAll vs).cfg = s.cfg ∧ (s.formAll vs).store = s.store ∧
    (s.formAll vs).claim = s.claim ∧ (s.formAll vs).channels = s.channels ∧ (s.formAll vs).zones = s.zones ∧
    (s.formAll vs).wRequest = s.wRequest ∧ (s.formAll vs).table = s.table ∧ (s.formAll vs).heads = s.heads ∧
    (s.formAll vs).link = s.link ∧ (s.formAll vs).boiler = s.boiler ∧ (s.formAll vs).field = s.field ∧
    (s.formAll vs).main = s.main ∧ (s.formAll vs).service = s.service ∧
    (s.formAll vs).restartPending = s.restartPending ∧ (s.formAll vs).acting = s.acting ∧
    (s.formAll vs).pending = s.pending := by
  have h := foldl_keeps State.formAndOffer
    (fun s : State => (s.clock, s.cfg, s.store, s.claim, s.channels, s.zones, s.wRequest, s.table, s.heads, s.link, s.boiler, s.field, s.main, s.service, s.restartPending, s.acting, s.pending))
    (by intro s a; simp) vs s
  simpa [State.formAll] using h

@[simp] theorem formSinks_keeps (s : State) (b : Bool) :
    (s.formSinks b).clock = s.clock ∧ (s.formSinks b).cfg = s.cfg ∧ (s.formSinks b).store = s.store ∧
    (s.formSinks b).claim = s.claim ∧ (s.formSinks b).channels = s.channels ∧ (s.formSinks b).zones = s.zones ∧
    (s.formSinks b).wRequest = s.wRequest ∧ (s.formSinks b).table = s.table ∧ (s.formSinks b).heads = s.heads ∧
    (s.formSinks b).link = s.link ∧ (s.formSinks b).boiler = s.boiler ∧ (s.formSinks b).field = s.field ∧
    (s.formSinks b).main = s.main ∧ (s.formSinks b).service = s.service ∧
    (s.formSinks b).restartPending = s.restartPending ∧ (s.formSinks b).acting = s.acting ∧
    (s.formSinks b).pending = s.pending := by
  simp [State.formSinks]

@[simp] theorem setSinkOpen_keeps (s : State) (b : Bool) :
    (s.setSinkOpen b).clock = s.clock ∧ (s.setSinkOpen b).cfg = s.cfg ∧ (s.setSinkOpen b).store = s.store ∧
    (s.setSinkOpen b).claim = s.claim ∧ (s.setSinkOpen b).channels = s.channels ∧ (s.setSinkOpen b).zones = s.zones ∧
    (s.setSinkOpen b).wRequest = s.wRequest ∧ (s.setSinkOpen b).table = s.table ∧ (s.setSinkOpen b).heads = s.heads ∧
    (s.setSinkOpen b).link = s.link ∧ (s.setSinkOpen b).boiler = s.boiler ∧ (s.setSinkOpen b).field = s.field ∧
    (s.setSinkOpen b).main = s.main ∧ (s.setSinkOpen b).service = s.service ∧
    (s.setSinkOpen b).restartPending = s.restartPending ∧ (s.setSinkOpen b).acting = s.acting ∧
    (s.setSinkOpen b).pending = s.pending := by
  simp only [State.setSinkOpen]
  repeat' split
  all_goals simp

@[simp] theorem setHeatDump_keeps (s : State) (b : Bool) :
    (s.setHeatDump b).clock = s.clock ∧ (s.setHeatDump b).cfg = s.cfg ∧ (s.setHeatDump b).store = s.store ∧
    (s.setHeatDump b).claim = s.claim ∧ (s.setHeatDump b).channels = s.channels ∧ (s.setHeatDump b).zones = s.zones ∧
    (s.setHeatDump b).wRequest = s.wRequest ∧ (s.setHeatDump b).table = s.table ∧ (s.setHeatDump b).heads = s.heads ∧
    (s.setHeatDump b).link = s.link ∧ (s.setHeatDump b).field = s.field ∧ (s.setHeatDump b).main = s.main ∧
    (s.setHeatDump b).service = s.service ∧ (s.setHeatDump b).restartPending = s.restartPending ∧
    (s.setHeatDump b).acting = s.acting ∧ (s.setHeatDump b).pending = s.pending := by
  simp [State.setHeatDump]

@[simp] theorem remark_keeps (s : State) :
    (s.remark).clock = s.clock ∧ (s.remark).cfg = s.cfg ∧ (s.remark).store = s.store ∧ (s.remark).claim = s.claim ∧
    (s.remark).channels = s.channels ∧ (s.remark).zones = s.zones ∧ (s.remark).wRequest = s.wRequest ∧
    (s.remark).table = s.table ∧ (s.remark).heads = s.heads ∧ (s.remark).link = s.link ∧
    (s.remark).boiler = s.boiler ∧ (s.remark).field = s.field ∧ (s.remark).main = s.main ∧
    (s.remark).service = s.service ∧ (s.remark).restartPending = s.restartPending ∧ (s.remark).acting = s.acting ∧
    (s.remark).pending = s.pending := by
  simp [State.remark]

@[simp] theorem exercise_keeps (s : State) :
    (s.exercise).clock = s.clock ∧ (s.exercise).cfg = s.cfg ∧ (s.exercise).store = s.store ∧
    (s.exercise).claim = s.claim ∧ (s.exercise).channels = s.channels ∧ (s.exercise).zones = s.zones ∧
    (s.exercise).wRequest = s.wRequest ∧ (s.exercise).table = s.table ∧ (s.exercise).heads = s.heads ∧
    (s.exercise).link = s.link ∧ (s.exercise).boiler = s.boiler ∧ (s.exercise).field = s.field ∧
    (s.exercise).main = s.main ∧ (s.exercise).service = s.service ∧ (s.exercise).restartPending = s.restartPending ∧
    (s.exercise).acting = s.acting ∧ (s.exercise).pending = s.pending := by
  have h := foldl_keeps (fun s v => if s.exerciseDue v then s.newEntry v .drive 100 .exercise else s)
    (fun s : State => (s.clock, s.cfg, s.store, s.claim, s.channels, s.zones, s.wRequest, s.table, s.heads, s.link, s.boiler, s.field, s.main, s.service, s.restartPending, s.acting, s.pending))
    (by intro s a; split <;> simp) slotNumbers s
  simp only [State.exercise]
  split
  · simpa using h
  · simp

@[simp] theorem grant_keeps (s : State) (e : Entry) :
    (s.grant e).clock = s.clock ∧ (s.grant e).cfg = s.cfg ∧ (s.grant e).store = s.store ∧
    (s.grant e).claim = s.claim ∧ (s.grant e).channels = s.channels ∧ (s.grant e).zones = s.zones ∧
    (s.grant e).wRequest = s.wRequest ∧ (s.grant e).table = s.table ∧ (s.grant e).boiler = s.boiler ∧
    (s.grant e).field = s.field ∧ (s.grant e).main = s.main ∧ (s.grant e).service = s.service ∧
    (s.grant e).restartPending = s.restartPending ∧ (s.grant e).acting = s.acting ∧
    (s.grant e).pending = s.pending := by
  simp [State.grant]

@[simp] theorem grantRoundUpTo_keeps (s : State) (n : Nat) :
    (grantRoundUpTo n s).clock = s.clock ∧ (grantRoundUpTo n s).cfg = s.cfg ∧ (grantRoundUpTo n s).store = s.store ∧
    (grantRoundUpTo n s).claim = s.claim ∧ (grantRoundUpTo n s).channels = s.channels ∧
    (grantRoundUpTo n s).zones = s.zones ∧ (grantRoundUpTo n s).wRequest = s.wRequest ∧
    (grantRoundUpTo n s).table = s.table ∧ (grantRoundUpTo n s).boiler = s.boiler ∧
    (grantRoundUpTo n s).field = s.field ∧ (grantRoundUpTo n s).main = s.main ∧
    (grantRoundUpTo n s).service = s.service ∧ (grantRoundUpTo n s).restartPending = s.restartPending ∧
    (grantRoundUpTo n s).acting = s.acting ∧ (grantRoundUpTo n s).pending = s.pending := by
  induction n generalizing s with
  | zero => simp [grantRoundUpTo]
  | succ n ih =>
    simp only [grantRoundUpTo]
    split
    · simp
    · simp [ih]

@[simp] theorem grantRound_keeps (s : State) :
    (s.grantRound).clock = s.clock ∧ (s.grantRound).cfg = s.cfg ∧ (s.grantRound).store = s.store ∧
    (s.grantRound).claim = s.claim ∧ (s.grantRound).channels = s.channels ∧ (s.grantRound).zones = s.zones ∧
    (s.grantRound).wRequest = s.wRequest ∧ (s.grantRound).table = s.table ∧ (s.grantRound).boiler = s.boiler ∧
    (s.grantRound).field = s.field ∧ (s.grantRound).main = s.main ∧ (s.grantRound).service = s.service ∧
    (s.grantRound).restartPending = s.restartPending ∧ (s.grantRound).acting = s.acting ∧
    (s.grantRound).pending = s.pending := by
  simp [State.grantRound]

@[simp] theorem nextTransaction_keeps (s : State) :
    (s.nextTransaction).clock = s.clock ∧ (s.nextTransaction).cfg = s.cfg ∧ (s.nextTransaction).store = s.store ∧
    (s.nextTransaction).claim = s.claim ∧ (s.nextTransaction).channels = s.channels ∧
    (s.nextTransaction).zones = s.zones ∧ (s.nextTransaction).wRequest = s.wRequest ∧
    (s.nextTransaction).table = s.table ∧ (s.nextTransaction).heads = s.heads ∧
    (s.nextTransaction).arbiter = s.arbiter ∧ (s.nextTransaction).boiler = s.boiler ∧
    (s.nextTransaction).field = s.field ∧ (s.nextTransaction).main = s.main ∧
    (s.nextTransaction).service = s.service ∧ (s.nextTransaction).restartPending = s.restartPending ∧
    (s.nextTransaction).acting = s.acting ∧ (s.nextTransaction).pending = s.pending := by
  simp only [State.nextTransaction]
  repeat' split
  all_goals simp

@[simp] theorem setPump_keeps (s : State) :
    (s.setPump).clock = s.clock ∧ (s.setPump).cfg = s.cfg ∧ (s.setPump).store = s.store ∧
    (s.setPump).claim = s.claim ∧ (s.setPump).channels = s.channels ∧ (s.setPump).zones = s.zones ∧
    (s.setPump).wRequest = s.wRequest ∧ (s.setPump).table = s.table ∧ (s.setPump).heads = s.heads ∧
    (s.setPump).link = s.link ∧ (s.setPump).arbiter = s.arbiter ∧ (s.setPump).boiler = s.boiler ∧
    (s.setPump).main = s.main ∧ (s.setPump).service = s.service ∧ (s.setPump).restartPending = s.restartPending ∧
    (s.setPump).acting = s.acting ∧ (s.setPump).pending = s.pending := by
  simp [State.setPump]

/-! ## Consumer table and boiler -/

@[simp] theorem judgeTable_keeps (s : State) :
    (s.judgeTable).clock = s.clock ∧ (s.judgeTable).cfg = s.cfg ∧ (s.judgeTable).store = s.store ∧
    (s.judgeTable).claim = s.claim ∧ (s.judgeTable).channels = s.channels ∧ (s.judgeTable).zones = s.zones ∧
    (s.judgeTable).wRequest = s.wRequest ∧ (s.judgeTable).heads = s.heads ∧ (s.judgeTable).link = s.link ∧
    (s.judgeTable).boiler = s.boiler ∧ (s.judgeTable).field = s.field ∧ (s.judgeTable).main = s.main ∧
    (s.judgeTable).service = s.service ∧ (s.judgeTable).restartPending = s.restartPending ∧
    (s.judgeTable).acting = s.acting ∧ (s.judgeTable).pending = s.pending := by
  simp only [State.judgeTable]
  repeat' split
  all_goals simp

@[simp] theorem handRamp_keeps (s : State) (a b : Nat) :
    (s.handRamp a b).clock = s.clock ∧ (s.handRamp a b).cfg = s.cfg ∧ (s.handRamp a b).store = s.store ∧
    (s.handRamp a b).claim = s.claim ∧ (s.handRamp a b).channels = s.channels ∧ (s.handRamp a b).zones = s.zones ∧
    (s.handRamp a b).wRequest = s.wRequest ∧ (s.handRamp a b).table = s.table ∧ (s.handRamp a b).heads = s.heads ∧
    (s.handRamp a b).link = s.link ∧ (s.handRamp a b).arbiter = s.arbiter ∧ (s.handRamp a b).boiler = s.boiler ∧
    (s.handRamp a b).main = s.main ∧ (s.handRamp a b).service = s.service ∧
    (s.handRamp a b).restartPending = s.restartPending ∧ (s.handRamp a b).acting = s.acting ∧
    (s.handRamp a b).pending = s.pending := by
  simp only [State.handRamp]
  repeat' split
  all_goals simp

@[simp] theorem stopRamp_keeps (s : State) :
    (s.stopRamp).clock = s.clock ∧ (s.stopRamp).cfg = s.cfg ∧ (s.stopRamp).store = s.store ∧
    (s.stopRamp).claim = s.claim ∧ (s.stopRamp).channels = s.channels ∧ (s.stopRamp).zones = s.zones ∧
    (s.stopRamp).wRequest = s.wRequest ∧ (s.stopRamp).table = s.table ∧ (s.stopRamp).heads = s.heads ∧
    (s.stopRamp).link = s.link ∧ (s.stopRamp).arbiter = s.arbiter ∧ (s.stopRamp).boiler = s.boiler ∧
    (s.stopRamp).main = s.main ∧ (s.stopRamp).service = s.service ∧ (s.stopRamp).restartPending = s.restartPending ∧
    (s.stopRamp).acting = s.acting ∧ (s.stopRamp).pending = s.pending := by
  simp [State.stopRamp]

@[simp] theorem withFlow_keeps (s : State) :
    (s.withFlow).clock = s.clock ∧ (s.withFlow).cfg = s.cfg ∧ (s.withFlow).store = s.store ∧
    (s.withFlow).claim = s.claim ∧ (s.withFlow).channels = s.channels ∧ (s.withFlow).zones = s.zones ∧
    (s.withFlow).wRequest = s.wRequest ∧ (s.withFlow).table = s.table ∧ (s.withFlow).heads = s.heads ∧
    (s.withFlow).link = s.link ∧ (s.withFlow).arbiter = s.arbiter ∧ (s.withFlow).field = s.field ∧
    (s.withFlow).main = s.main ∧ (s.withFlow).service = s.service ∧ (s.withFlow).restartPending = s.restartPending ∧
    (s.withFlow).acting = s.acting ∧ (s.withFlow).pending = s.pending := by
  simp [State.withFlow]

@[simp] theorem recomputeFlow_keeps (s : State) :
    (s.recomputeFlow).clock = s.clock ∧ (s.recomputeFlow).cfg = s.cfg ∧ (s.recomputeFlow).store = s.store ∧
    (s.recomputeFlow).claim = s.claim ∧ (s.recomputeFlow).channels = s.channels ∧ (s.recomputeFlow).zones = s.zones ∧
    (s.recomputeFlow).wRequest = s.wRequest ∧ (s.recomputeFlow).table = s.table ∧ (s.recomputeFlow).heads = s.heads ∧
    (s.recomputeFlow).link = s.link ∧ (s.recomputeFlow).arbiter = s.arbiter ∧ (s.recomputeFlow).main = s.main ∧
    (s.recomputeFlow).service = s.service ∧ (s.recomputeFlow).restartPending = s.restartPending ∧
    (s.recomputeFlow).acting = s.acting ∧ (s.recomputeFlow).pending = s.pending := by
  simp only [State.recomputeFlow]
  repeat' split
  all_goals simp

@[simp] theorem handRequest_keeps (s : State) (c l : Nat) :
    (s.handRequest c l).clock = s.clock ∧ (s.handRequest c l).cfg = s.cfg ∧ (s.handRequest c l).store = s.store ∧
    (s.handRequest c l).claim = s.claim ∧ (s.handRequest c l).channels = s.channels ∧
    (s.handRequest c l).zones = s.zones ∧ (s.handRequest c l).wRequest = s.wRequest ∧
    (s.handRequest c l).heads = s.heads ∧ (s.handRequest c l).link = s.link ∧ (s.handRequest c l).main = s.main ∧
    (s.handRequest c l).service = s.service ∧ (s.handRequest c l).restartPending = s.restartPending ∧
    (s.handRequest c l).acting = s.acting ∧ (s.handRequest c l).pending = s.pending := by
  simp only [State.handRequest]
  repeat' split
  all_goals simp

@[simp] theorem handZoneRequest_keeps (s : State) (k : Nat) :
    (s.handZoneRequest k).clock = s.clock ∧ (s.handZoneRequest k).cfg = s.cfg ∧
    (s.handZoneRequest k).store = s.store ∧ (s.handZoneRequest k).claim = s.claim ∧
    (s.handZoneRequest k).channels = s.channels ∧ (s.handZoneRequest k).zones = s.zones ∧
    (s.handZoneRequest k).wRequest = s.wRequest ∧ (s.handZoneRequest k).heads = s.heads ∧
    (s.handZoneRequest k).link = s.link ∧ (s.handZoneRequest k).main = s.main ∧
    (s.handZoneRequest k).service = s.service ∧ (s.handZoneRequest k).restartPending = s.restartPending ∧
    (s.handZoneRequest k).acting = s.acting ∧ (s.handZoneRequest k).pending = s.pending := by
  simp [State.handZoneRequest]

@[simp] theorem handWRequest_keeps (s : State) :
    (s.handWRequest).clock = s.clock ∧ (s.handWRequest).cfg = s.cfg ∧ (s.handWRequest).store = s.store ∧
    (s.handWRequest).claim = s.claim ∧ (s.handWRequest).channels = s.channels ∧ (s.handWRequest).zones = s.zones ∧
    (s.handWRequest).wRequest = s.wRequest ∧ (s.handWRequest).heads = s.heads ∧ (s.handWRequest).link = s.link ∧
    (s.handWRequest).main = s.main ∧ (s.handWRequest).service = s.service ∧
    (s.handWRequest).restartPending = s.restartPending ∧ (s.handWRequest).acting = s.acting ∧
    (s.handWRequest).pending = s.pending := by
  simp [State.handWRequest]

@[simp] theorem enterState_keeps (s : State) (b : Boiler) :
    (s.enterState b).clock = s.clock ∧ (s.enterState b).cfg = s.cfg ∧ (s.enterState b).store = s.store ∧
    (s.enterState b).claim = s.claim ∧ (s.enterState b).channels = s.channels ∧ (s.enterState b).zones = s.zones ∧
    (s.enterState b).wRequest = s.wRequest ∧ (s.enterState b).field = s.field ∧ (s.enterState b).main = s.main ∧
    (s.enterState b).service = s.service ∧ (s.enterState b).restartPending = s.restartPending ∧
    (s.enterState b).acting = s.acting ∧ (s.enterState b).pending = s.pending := by
  simp [State.enterState]

@[simp] theorem closeSinks_keeps (s : State) :
    (s.closeSinks).clock = s.clock ∧ (s.closeSinks).cfg = s.cfg ∧ (s.closeSinks).store = s.store ∧
    (s.closeSinks).claim = s.claim ∧ (s.closeSinks).channels = s.channels ∧ (s.closeSinks).zones = s.zones ∧
    (s.closeSinks).wRequest = s.wRequest ∧ (s.closeSinks).table = s.table ∧ (s.closeSinks).heads = s.heads ∧
    (s.closeSinks).link = s.link ∧ (s.closeSinks).boiler = s.boiler ∧ (s.closeSinks).field = s.field ∧
    (s.closeSinks).main = s.main ∧ (s.closeSinks).service = s.service ∧
    (s.closeSinks).restartPending = s.restartPending ∧ (s.closeSinks).acting = s.acting ∧
    (s.closeSinks).pending = s.pending := by
  simp only [State.closeSinks]
  repeat' split
  all_goals simp

@[simp] theorem openSinksIfShort_keeps (s : State) :
    (s.openSinksIfShort).clock = s.clock ∧ (s.openSinksIfShort).cfg = s.cfg ∧ (s.openSinksIfShort).store = s.store ∧
    (s.openSinksIfShort).claim = s.claim ∧ (s.openSinksIfShort).channels = s.channels ∧
    (s.openSinksIfShort).zones = s.zones ∧ (s.openSinksIfShort).wRequest = s.wRequest ∧
    (s.openSinksIfShort).table = s.table ∧ (s.openSinksIfShort).heads = s.heads ∧ (s.openSinksIfShort).link = s.link ∧
    (s.openSinksIfShort).boiler = s.boiler ∧ (s.openSinksIfShort).field = s.field ∧
    (s.openSinksIfShort).main = s.main ∧ (s.openSinksIfShort).service = s.service ∧
    (s.openSinksIfShort).restartPending = s.restartPending ∧ (s.openSinksIfShort).acting = s.acting ∧
    (s.openSinksIfShort).pending = s.pending := by
  simp only [State.openSinksIfShort]
  repeat' split
  all_goals simp

@[simp] theorem enterIdle_keeps (s : State) :
    (s.enterIdle).clock = s.clock ∧ (s.enterIdle).cfg = s.cfg ∧ (s.enterIdle).store = s.store ∧
    (s.enterIdle).claim = s.claim ∧ (s.enterIdle).channels = s.channels ∧ (s.enterIdle).zones = s.zones ∧
    (s.enterIdle).wRequest = s.wRequest ∧ (s.enterIdle).field = s.field ∧ (s.enterIdle).main = s.main ∧
    (s.enterIdle).service = s.service ∧ (s.enterIdle).restartPending = s.restartPending ∧
    (s.enterIdle).acting = s.acting ∧ (s.enterIdle).pending = s.pending := by
  simp [State.enterIdle]

@[simp] theorem enterRest_keeps (s : State) :
    (s.enterRest).clock = s.clock ∧ (s.enterRest).cfg = s.cfg ∧ (s.enterRest).store = s.store ∧
    (s.enterRest).claim = s.claim ∧ (s.enterRest).channels = s.channels ∧ (s.enterRest).zones = s.zones ∧
    (s.enterRest).wRequest = s.wRequest ∧ (s.enterRest).field = s.field ∧ (s.enterRest).main = s.main ∧
    (s.enterRest).service = s.service ∧ (s.enterRest).restartPending = s.restartPending ∧
    (s.enterRest).acting = s.acting ∧ (s.enterRest).pending = s.pending := by
  simp [State.enterRest]

@[simp] theorem enterLead_keeps (s : State) :
    (s.enterLead).clock = s.clock ∧ (s.enterLead).cfg = s.cfg ∧ (s.enterLead).store = s.store ∧
    (s.enterLead).claim = s.claim ∧ (s.enterLead).channels = s.channels ∧ (s.enterLead).zones = s.zones ∧
    (s.enterLead).wRequest = s.wRequest ∧ (s.enterLead).field = s.field ∧ (s.enterLead).main = s.main ∧
    (s.enterLead).service = s.service ∧ (s.enterLead).restartPending = s.restartPending ∧
    (s.enterLead).acting = s.acting ∧ (s.enterLead).pending = s.pending := by
  simp [State.enterLead]

@[simp] theorem enterFiring_keeps (s : State) :
    (s.enterFiring).clock = s.clock ∧ (s.enterFiring).cfg = s.cfg ∧ (s.enterFiring).store = s.store ∧
    (s.enterFiring).claim = s.claim ∧ (s.enterFiring).channels = s.channels ∧ (s.enterFiring).zones = s.zones ∧
    (s.enterFiring).wRequest = s.wRequest ∧ (s.enterFiring).main = s.main ∧ (s.enterFiring).service = s.service ∧
    (s.enterFiring).restartPending = s.restartPending ∧ (s.enterFiring).acting = s.acting ∧
    (s.enterFiring).pending = s.pending := by
  simp [State.enterFiring]

@[simp] theorem endHold_keeps (s : State) :
    (s.endHold).clock = s.clock ∧ (s.endHold).cfg = s.cfg ∧ (s.endHold).store = s.store ∧
    (s.endHold).claim = s.claim ∧ (s.endHold).channels = s.channels ∧ (s.endHold).zones = s.zones ∧
    (s.endHold).wRequest = s.wRequest ∧ (s.endHold).table = s.table ∧ (s.endHold).heads = s.heads ∧
    (s.endHold).link = s.link ∧ (s.endHold).arbiter = s.arbiter ∧ (s.endHold).field = s.field ∧
    (s.endHold).main = s.main ∧ (s.endHold).service = s.service ∧ (s.endHold).restartPending = s.restartPending ∧
    (s.endHold).acting = s.acting ∧ (s.endHold).pending = s.pending := by
  simp only [State.endHold]
  repeat' split
  all_goals simp

@[simp] theorem burnerOut_keeps (s : State) :
    (s.burnerOut).clock = s.clock ∧ (s.burnerOut).cfg = s.cfg ∧ (s.burnerOut).store = s.store ∧
    (s.burnerOut).claim = s.claim ∧ (s.burnerOut).channels = s.channels ∧ (s.burnerOut).zones = s.zones ∧
    (s.burnerOut).wRequest = s.wRequest ∧ (s.burnerOut).table = s.table ∧ (s.burnerOut).heads = s.heads ∧
    (s.burnerOut).link = s.link ∧ (s.burnerOut).arbiter = s.arbiter ∧ (s.burnerOut).main = s.main ∧
    (s.burnerOut).service = s.service ∧ (s.burnerOut).restartPending = s.restartPending ∧
    (s.burnerOut).acting = s.acting ∧ (s.burnerOut).pending = s.pending := by
  simp [State.burnerOut]

@[simp] theorem enterOverrun_keeps (s : State) :
    (s.enterOverrun).clock = s.clock ∧ (s.enterOverrun).cfg = s.cfg ∧ (s.enterOverrun).store = s.store ∧
    (s.enterOverrun).claim = s.claim ∧ (s.enterOverrun).channels = s.channels ∧ (s.enterOverrun).zones = s.zones ∧
    (s.enterOverrun).wRequest = s.wRequest ∧ (s.enterOverrun).main = s.main ∧ (s.enterOverrun).service = s.service ∧
    (s.enterOverrun).restartPending = s.restartPending ∧ (s.enterOverrun).acting = s.acting ∧
    (s.enterOverrun).pending = s.pending := by
  simp [State.enterOverrun]

@[simp] theorem enterFaulted_keeps (s : State) :
    (s.enterFaulted).clock = s.clock ∧ (s.enterFaulted).cfg = s.cfg ∧ (s.enterFaulted).store = s.store ∧
    (s.enterFaulted).claim = s.claim ∧ (s.enterFaulted).channels = s.channels ∧ (s.enterFaulted).zones = s.zones ∧
    (s.enterFaulted).wRequest = s.wRequest ∧ (s.enterFaulted).restartPending = s.restartPending ∧
    (s.enterFaulted).acting = s.acting ∧ (s.enterFaulted).pending = s.pending := by
  simp only [State.enterFaulted]
  repeat' split
  all_goals simp

@[simp] theorem leadExpiry_keeps (s : State) :
    (s.leadExpiry).clock = s.clock ∧ (s.leadExpiry).cfg = s.cfg ∧ (s.leadExpiry).store = s.store ∧
    (s.leadExpiry).claim = s.claim ∧ (s.leadExpiry).channels = s.channels ∧ (s.leadExpiry).zones = s.zones ∧
    (s.leadExpiry).wRequest = s.wRequest ∧ (s.leadExpiry).restartPending = s.restartPending ∧
    (s.leadExpiry).acting = s.acting ∧ (s.leadExpiry).pending = s.pending := by
  simp only [State.leadExpiry]
  repeat' split
  all_goals simp

/-- A move of the boiler controller touches its record, the table, the arbiter with what it grants (heads, link), field I/O and
the ports. -/
theorem boilerMove_keeps (s t : State) (before : Nat → Nat) (cue : Cue) (h : s.boilerMove before cue = some t) :
    t.clock = s.clock ∧ t.cfg = s.cfg ∧ t.store = s.store ∧ t.claim = s.claim ∧ t.channels = s.channels ∧
    t.zones = s.zones ∧ t.wRequest = s.wRequest ∧ t.restartPending = s.restartPending ∧ t.acting = s.acting ∧
    t.pending = s.pending := by
  have hl : ∀ t, s.leadMove = some t → t.clock = s.clock ∧ t.cfg = s.cfg ∧ t.store = s.store ∧ t.claim = s.claim ∧ t.channels = s.channels ∧ t.zones = s.zones ∧ t.wRequest = s.wRequest ∧ t.restartPending = s.restartPending ∧ t.acting = s.acting ∧ t.pending = s.pending := by
    intro t h
    simp only [State.leadMove] at h
    split at h
    · simp at h; subst h; simp
    · split at h
      · simp at h; subst h; simp
      · split at h
        · simp at h; subst h; simp
        · simp at h
  have hf : ∀ t, s.firingMove before cue = some t → t.clock = s.clock ∧ t.cfg = s.cfg ∧ t.store = s.store ∧ t.claim = s.claim ∧ t.channels = s.channels ∧ t.zones = s.zones ∧ t.wRequest = s.wRequest ∧ t.restartPending = s.restartPending ∧ t.acting = s.acting ∧ t.pending = s.pending := by
    intro t h
    simp only [State.firingMove] at h
    repeat' split at h
    all_goals first | (simp at h; done) | (simp at h; subst h; simp)
  simp only [State.boilerMove] at h
  repeat' split at h
  all_goals first | (simp at h; done) | (simp at h; subst h; simp) | exact hl t h | exact hf t h

@[simp] theorem boilerMoves_keeps (s : State) (before : Nat → Nat) (n : Nat) (cue : Cue) :
    (boilerMoves before n cue s).clock = s.clock ∧ (boilerMoves before n cue s).cfg = s.cfg ∧
    (boilerMoves before n cue s).store = s.store ∧ (boilerMoves before n cue s).claim = s.claim ∧
    (boilerMoves before n cue s).channels = s.channels ∧ (boilerMoves before n cue s).zones = s.zones ∧
    (boilerMoves before n cue s).wRequest = s.wRequest ∧
    (boilerMoves before n cue s).restartPending = s.restartPending ∧ (boilerMoves before n cue s).acting = s.acting ∧
    (boilerMoves before n cue s).pending = s.pending := by
  induction n generalizing s cue with
  | zero => simp [boilerMoves]
  | succ n ih =>
    simp only [boilerMoves]
    split
    · simp
    · next t h =>
      have hk := boilerMove_keeps s t before cue h
      simp [ih, hk]

@[simp] theorem settleWith_keeps (s : State) (before : Nat → Nat) (cue : Cue) :
    (s.settleWith before cue).clock = s.clock ∧ (s.settleWith before cue).cfg = s.cfg ∧
    (s.settleWith before cue).store = s.store ∧ (s.settleWith before cue).claim = s.claim ∧
    (s.settleWith before cue).channels = s.channels ∧ (s.settleWith before cue).zones = s.zones ∧
    (s.settleWith before cue).wRequest = s.wRequest ∧ (s.settleWith before cue).restartPending = s.restartPending ∧
    (s.settleWith before cue).acting = s.acting ∧ (s.settleWith before cue).pending = s.pending := by
  simp [State.settleWith]

@[simp] theorem settle_keeps (s : State) (b : State) :
    (s.settle b).clock = s.clock ∧ (s.settle b).cfg = s.cfg ∧ (s.settle b).store = s.store ∧
    (s.settle b).claim = s.claim ∧ (s.settle b).channels = s.channels ∧ (s.settle b).zones = s.zones ∧
    (s.settle b).wRequest = s.wRequest ∧ (s.settle b).restartPending = s.restartPending ∧
    (s.settle b).acting = s.acting ∧ (s.settle b).pending = s.pending := by
  simp [State.settle]

@[simp] theorem settleJudging_keeps (s : State) (b : State) :
    (s.settleJudging b).clock = s.clock ∧ (s.settleJudging b).cfg = s.cfg ∧ (s.settleJudging b).store = s.store ∧
    (s.settleJudging b).claim = s.claim ∧ (s.settleJudging b).channels = s.channels ∧
    (s.settleJudging b).zones = s.zones ∧ (s.settleJudging b).wRequest = s.wRequest ∧
    (s.settleJudging b).restartPending = s.restartPending ∧ (s.settleJudging b).acting = s.acting ∧
    (s.settleJudging b).pending = s.pending := by
  simp [State.settleJudging]

/-! ## Schedule and regulator -/

@[simp] theorem compile_keeps (s : State) (c : Nat) :
    (s.compile c).clock = s.clock ∧ (s.compile c).cfg = s.cfg ∧ (s.compile c).store = s.store ∧
    (s.compile c).claim = s.claim ∧ (s.compile c).zones = s.zones ∧ (s.compile c).wRequest = s.wRequest ∧
    (s.compile c).table = s.table ∧ (s.compile c).heads = s.heads ∧ (s.compile c).link = s.link ∧
    (s.compile c).arbiter = s.arbiter ∧ (s.compile c).boiler = s.boiler ∧ (s.compile c).field = s.field ∧
    (s.compile c).main = s.main ∧ (s.compile c).service = s.service ∧
    (s.compile c).restartPending = s.restartPending ∧ (s.compile c).acting = s.acting ∧
    (s.compile c).pending = s.pending := by
  simp [State.compile]

@[simp] theorem compileAll_keeps (s : State) :
    (s.compileAll).clock = s.clock ∧ (s.compileAll).cfg = s.cfg ∧ (s.compileAll).store = s.store ∧
    (s.compileAll).claim = s.claim ∧ (s.compileAll).zones = s.zones ∧ (s.compileAll).wRequest = s.wRequest ∧
    (s.compileAll).table = s.table ∧ (s.compileAll).heads = s.heads ∧ (s.compileAll).link = s.link ∧
    (s.compileAll).arbiter = s.arbiter ∧ (s.compileAll).boiler = s.boiler ∧ (s.compileAll).field = s.field ∧
    (s.compileAll).main = s.main ∧ (s.compileAll).service = s.service ∧
    (s.compileAll).restartPending = s.restartPending ∧ (s.compileAll).acting = s.acting ∧
    (s.compileAll).pending = s.pending := by
  have h := foldl_keeps State.compile
    (fun s : State => (s.clock, s.cfg, s.store, s.claim, s.zones, s.wRequest, s.table, s.heads, s.link, s.arbiter, s.boiler, s.field, s.main, s.service, s.restartPending, s.acting, s.pending))
    (by intro s a; simp) channelNumbers s
  simpa [State.compileAll] using h

@[simp] theorem midnightPlan_keeps (s : State) (c : Nat) :
    (s.midnightPlan c).clock = s.clock ∧ (s.midnightPlan c).cfg = s.cfg ∧ (s.midnightPlan c).store = s.store ∧
    (s.midnightPlan c).claim = s.claim ∧ (s.midnightPlan c).zones = s.zones ∧
    (s.midnightPlan c).wRequest = s.wRequest ∧ (s.midnightPlan c).table = s.table ∧
    (s.midnightPlan c).heads = s.heads ∧ (s.midnightPlan c).link = s.link ∧ (s.midnightPlan c).arbiter = s.arbiter ∧
    (s.midnightPlan c).boiler = s.boiler ∧ (s.midnightPlan c).field = s.field ∧ (s.midnightPlan c).main = s.main ∧
    (s.midnightPlan c).service = s.service ∧ (s.midnightPlan c).restartPending = s.restartPending ∧
    (s.midnightPlan c).acting = s.acting ∧ (s.midnightPlan c).pending = s.pending := by
  simp [State.midnightPlan]

@[simp] theorem preheat_ended_idle (r : PreheatRun) : (Preheat.idle r).ended = .idle r := rfl
@[simp] theorem preheat_ended_early (r : PreheatRun) :
    (Preheat.early r).ended = .idle { r with spoiled := false, learningDone := false } := rfl
@[simp] theorem preheat_ended_watch (r : PreheatRun) (rise : Elapsed) :
    (Preheat.watch r rise).ended = .idle { r with spoiled := false, learningDone := false } := rfl

/-- A preheat abandoned twice is abandoned once. -/
@[simp] theorem preheat_ended_ended (p : Preheat) : p.ended.ended = p.ended := by cases p <;> rfl

@[simp] theorem abandonPreheat_zones (s : State) (k : Nat) :
    (s.abandonPreheat k).zones = setItem s.zones k { s.zone k with preheat := (s.zone k).preheat.ended } := rfl

@[simp] theorem abandonPreheat_keeps (s : State) (k : Nat) :
    (s.abandonPreheat k).clock = s.clock ∧ (s.abandonPreheat k).cfg = s.cfg ∧ (s.abandonPreheat k).store = s.store ∧
    (s.abandonPreheat k).claim = s.claim ∧ (s.abandonPreheat k).channels = s.channels ∧
    (s.abandonPreheat k).wRequest = s.wRequest ∧ (s.abandonPreheat k).table = s.table ∧
    (s.abandonPreheat k).heads = s.heads ∧ (s.abandonPreheat k).link = s.link ∧
    (s.abandonPreheat k).arbiter = s.arbiter ∧ (s.abandonPreheat k).boiler = s.boiler ∧
    (s.abandonPreheat k).field = s.field ∧ (s.abandonPreheat k).main = s.main ∧
    (s.abandonPreheat k).service = s.service ∧ (s.abandonPreheat k).restartPending = s.restartPending ∧
    (s.abandonPreheat k).acting = s.acting ∧ (s.abandonPreheat k).pending = s.pending := by
  simp [State.abandonPreheat]

@[simp] theorem abandonAll_keeps (s : State) :
    (s.abandonAll).clock = s.clock ∧ (s.abandonAll).cfg = s.cfg ∧ (s.abandonAll).store = s.store ∧
    (s.abandonAll).claim = s.claim ∧ (s.abandonAll).channels = s.channels ∧ (s.abandonAll).wRequest = s.wRequest ∧
    (s.abandonAll).table = s.table ∧ (s.abandonAll).heads = s.heads ∧ (s.abandonAll).link = s.link ∧
    (s.abandonAll).arbiter = s.arbiter ∧ (s.abandonAll).boiler = s.boiler ∧ (s.abandonAll).field = s.field ∧
    (s.abandonAll).main = s.main ∧ (s.abandonAll).service = s.service ∧
    (s.abandonAll).restartPending = s.restartPending ∧ (s.abandonAll).acting = s.acting ∧
    (s.abandonAll).pending = s.pending := by
  have h := foldl_keeps State.abandonPreheat
    (fun s : State => (s.clock, s.cfg, s.store, s.claim, s.channels, s.wRequest, s.table, s.heads, s.link, s.arbiter, s.boiler, s.field, s.main, s.service, s.restartPending, s.acting, s.pending))
    (by intro s a; simp) zoneNumbers s
  simpa [State.abandonAll] using h

@[simp] theorem preheatRises_keeps (s : State) :
    (s.preheatRises).clock = s.clock ∧ (s.preheatRises).cfg = s.cfg ∧ (s.preheatRises).store = s.store ∧
    (s.preheatRises).claim = s.claim ∧ (s.preheatRises).channels = s.channels ∧
    (s.preheatRises).wRequest = s.wRequest ∧ (s.preheatRises).table = s.table ∧ (s.preheatRises).heads = s.heads ∧
    (s.preheatRises).link = s.link ∧ (s.preheatRises).arbiter = s.arbiter ∧ (s.preheatRises).boiler = s.boiler ∧
    (s.preheatRises).field = s.field ∧ (s.preheatRises).main = s.main ∧ (s.preheatRises).service = s.service ∧
    (s.preheatRises).restartPending = s.restartPending ∧ (s.preheatRises).acting = s.acting ∧
    (s.preheatRises).pending = s.pending := by
  have h := foldl_keeps (fun s k => s.setPreheat k ((s.zone k).preheat.atMinute s.clock.elapsed s.clock.minuteOfWeek))
    (fun s : State => (s.clock, s.cfg, s.store, s.claim, s.channels, s.wRequest, s.table, s.heads, s.link, s.arbiter, s.boiler, s.field, s.main, s.service, s.restartPending, s.acting, s.pending))
    (by intro s a; simp) zoneNumbers s
  simpa [State.preheatRises] using h

@[simp] theorem preheatSearch_keeps (s : State) (k : Nat) :
    (s.preheatSearch k).clock = s.clock ∧ (s.preheatSearch k).cfg = s.cfg ∧ (s.preheatSearch k).store = s.store ∧
    (s.preheatSearch k).claim = s.claim ∧ (s.preheatSearch k).channels = s.channels ∧
    (s.preheatSearch k).wRequest = s.wRequest ∧ (s.preheatSearch k).table = s.table ∧
    (s.preheatSearch k).heads = s.heads ∧ (s.preheatSearch k).link = s.link ∧
    (s.preheatSearch k).arbiter = s.arbiter ∧ (s.preheatSearch k).boiler = s.boiler ∧
    (s.preheatSearch k).field = s.field ∧ (s.preheatSearch k).main = s.main ∧
    (s.preheatSearch k).service = s.service ∧ (s.preheatSearch k).restartPending = s.restartPending ∧
    (s.preheatSearch k).acting = s.acting ∧ (s.preheatSearch k).pending = s.pending := by
  simp only [State.preheatSearch]
  repeat' split
  all_goals simp

@[simp] theorem spoilCheck_keeps (s : State) (k : Nat) :
    (s.spoilCheck k).clock = s.clock ∧ (s.spoilCheck k).cfg = s.cfg ∧ (s.spoilCheck k).store = s.store ∧
    (s.spoilCheck k).claim = s.claim ∧ (s.spoilCheck k).channels = s.channels ∧
    (s.spoilCheck k).wRequest = s.wRequest ∧ (s.spoilCheck k).table = s.table ∧ (s.spoilCheck k).heads = s.heads ∧
    (s.spoilCheck k).link = s.link ∧ (s.spoilCheck k).arbiter = s.arbiter ∧ (s.spoilCheck k).boiler = s.boiler ∧
    (s.spoilCheck k).field = s.field ∧ (s.spoilCheck k).main = s.main ∧ (s.spoilCheck k).service = s.service ∧
    (s.spoilCheck k).restartPending = s.restartPending ∧ (s.spoilCheck k).acting = s.acting ∧
    (s.spoilCheck k).pending = s.pending := by
  simp [State.spoilCheck]

@[simp] theorem learnWith_keeps (s : State) (k : Nat) (r : PreheatRun) (x : Preheat) :
    (s.learnWith k r x).clock = s.clock ∧ (s.learnWith k r x).store = s.store ∧ (s.learnWith k r x).claim = s.claim ∧
    (s.learnWith k r x).channels = s.channels ∧ (s.learnWith k r x).wRequest = s.wRequest ∧
    (s.learnWith k r x).table = s.table ∧ (s.learnWith k r x).heads = s.heads ∧ (s.learnWith k r x).link = s.link ∧
    (s.learnWith k r x).arbiter = s.arbiter ∧ (s.learnWith k r x).boiler = s.boiler ∧
    (s.learnWith k r x).field = s.field ∧ (s.learnWith k r x).main = s.main ∧
    (s.learnWith k r x).service = s.service ∧ (s.learnWith k r x).restartPending = s.restartPending ∧
    (s.learnWith k r x).acting = s.acting ∧ (s.learnWith k r x).pending = s.pending := by
  simp only [State.learnWith]
  repeat' split
  all_goals simp

@[simp] theorem preheatLearn_keeps (s : State) (k : Nat) :
    (s.preheatLearn k).clock = s.clock ∧ (s.preheatLearn k).store = s.store ∧ (s.preheatLearn k).claim = s.claim ∧
    (s.preheatLearn k).channels = s.channels ∧ (s.preheatLearn k).wRequest = s.wRequest ∧
    (s.preheatLearn k).table = s.table ∧ (s.preheatLearn k).heads = s.heads ∧ (s.preheatLearn k).link = s.link ∧
    (s.preheatLearn k).arbiter = s.arbiter ∧ (s.preheatLearn k).boiler = s.boiler ∧
    (s.preheatLearn k).field = s.field ∧ (s.preheatLearn k).main = s.main ∧ (s.preheatLearn k).service = s.service ∧
    (s.preheatLearn k).restartPending = s.restartPending ∧ (s.preheatLearn k).acting = s.acting ∧
    (s.preheatLearn k).pending = s.pending := by
  simp only [State.preheatLearn]
  repeat' split
  all_goals simp

@[simp] theorem optimumStart_keeps (s : State) (k : Nat) :
    (s.optimumStart k).clock = s.clock ∧ (s.optimumStart k).store = s.store ∧ (s.optimumStart k).claim = s.claim ∧
    (s.optimumStart k).channels = s.channels ∧ (s.optimumStart k).wRequest = s.wRequest ∧
    (s.optimumStart k).table = s.table ∧ (s.optimumStart k).heads = s.heads ∧ (s.optimumStart k).link = s.link ∧
    (s.optimumStart k).arbiter = s.arbiter ∧ (s.optimumStart k).boiler = s.boiler ∧
    (s.optimumStart k).field = s.field ∧ (s.optimumStart k).main = s.main ∧ (s.optimumStart k).service = s.service ∧
    (s.optimumStart k).restartPending = s.restartPending ∧ (s.optimumStart k).acting = s.acting ∧
    (s.optimumStart k).pending = s.pending := by
  simp [State.optimumStart]

@[simp] theorem takeReading_keeps (s : State) (k : Nat) (t : Temp) :
    (s.takeReading k t).clock = s.clock ∧ (s.takeReading k t).cfg = s.cfg ∧ (s.takeReading k t).store = s.store ∧
    (s.takeReading k t).claim = s.claim ∧ (s.takeReading k t).channels = s.channels ∧
    (s.takeReading k t).wRequest = s.wRequest ∧ (s.takeReading k t).table = s.table ∧
    (s.takeReading k t).heads = s.heads ∧ (s.takeReading k t).link = s.link ∧
    (s.takeReading k t).arbiter = s.arbiter ∧ (s.takeReading k t).boiler = s.boiler ∧
    (s.takeReading k t).field = s.field ∧ (s.takeReading k t).restartPending = s.restartPending ∧
    (s.takeReading k t).acting = s.acting ∧ (s.takeReading k t).pending = s.pending := by
  simp only [State.takeReading]
  repeat' split
  all_goals simp

@[simp] theorem takeHeadReading_keeps (s : State) (v : Nat) (t : Temp) :
    (s.takeHeadReading v t).clock = s.clock ∧ (s.takeHeadReading v t).cfg = s.cfg ∧
    (s.takeHeadReading v t).store = s.store ∧ (s.takeHeadReading v t).claim = s.claim ∧
    (s.takeHeadReading v t).channels = s.channels ∧ (s.takeHeadReading v t).wRequest = s.wRequest ∧
    (s.takeHeadReading v t).table = s.table ∧ (s.takeHeadReading v t).heads = s.heads ∧
    (s.takeHeadReading v t).link = s.link ∧ (s.takeHeadReading v t).arbiter = s.arbiter ∧
    (s.takeHeadReading v t).boiler = s.boiler ∧ (s.takeHeadReading v t).field = s.field ∧
    (s.takeHeadReading v t).restartPending = s.restartPending ∧ (s.takeHeadReading v t).acting = s.acting ∧
    (s.takeHeadReading v t).pending = s.pending := by
  have h := foldl_keeps (fun s k => if (s.zoneCfg k).source = some v then s.takeReading k t else s)
    (fun s : State => (s.clock, s.cfg, s.store, s.claim, s.channels, s.wRequest, s.table, s.heads, s.link, s.arbiter, s.boiler, s.field, s.restartPending, s.acting, s.pending))
    (by intro s a; split <;> simp) zoneNumbers s
  simp only [State.takeHeadReading]
  simpa using h

@[simp] theorem windowDetection_keeps (s : State) (k : Nat) :
    (s.windowDetection k).clock = s.clock ∧ (s.windowDetection k).cfg = s.cfg ∧
    (s.windowDetection k).store = s.store ∧ (s.windowDetection k).claim = s.claim ∧
    (s.windowDetection k).wRequest = s.wRequest ∧ (s.windowDetection k).table = s.table ∧
    (s.windowDetection k).heads = s.heads ∧ (s.windowDetection k).link = s.link ∧
    (s.windowDetection k).arbiter = s.arbiter ∧ (s.windowDetection k).boiler = s.boiler ∧
    (s.windowDetection k).field = s.field ∧ (s.windowDetection k).restartPending = s.restartPending ∧
    (s.windowDetection k).acting = s.acting ∧ (s.windowDetection k).pending = s.pending := by
  simp only [State.windowDetection]
  repeat' split
  all_goals simp

@[simp] theorem regulate_keeps (s : State) (k : Nat) (t : Temp) :
    (s.regulate k t).clock = s.clock ∧ (s.regulate k t).cfg = s.cfg ∧ (s.regulate k t).store = s.store ∧
    (s.regulate k t).claim = s.claim ∧ (s.regulate k t).channels = s.channels ∧
    (s.regulate k t).wRequest = s.wRequest ∧ (s.regulate k t).table = s.table ∧ (s.regulate k t).heads = s.heads ∧
    (s.regulate k t).link = s.link ∧ (s.regulate k t).arbiter = s.arbiter ∧ (s.regulate k t).boiler = s.boiler ∧
    (s.regulate k t).field = s.field ∧ (s.regulate k t).main = s.main ∧ (s.regulate k t).service = s.service ∧
    (s.regulate k t).restartPending = s.restartPending ∧ (s.regulate k t).acting = s.acting ∧
    (s.regulate k t).pending = s.pending := by
  simp [State.regulate]

@[simp] theorem sensorlessStage_keeps (s : State) (k : Nat) :
    (s.sensorlessStage k).clock = s.clock ∧ (s.sensorlessStage k).cfg = s.cfg ∧
    (s.sensorlessStage k).store = s.store ∧ (s.sensorlessStage k).claim = s.claim ∧
    (s.sensorlessStage k).channels = s.channels ∧ (s.sensorlessStage k).wRequest = s.wRequest ∧
    (s.sensorlessStage k).table = s.table ∧ (s.sensorlessStage k).heads = s.heads ∧
    (s.sensorlessStage k).link = s.link ∧ (s.sensorlessStage k).arbiter = s.arbiter ∧
    (s.sensorlessStage k).boiler = s.boiler ∧ (s.sensorlessStage k).field = s.field ∧
    (s.sensorlessStage k).restartPending = s.restartPending ∧ (s.sensorlessStage k).acting = s.acting ∧
    (s.sensorlessStage k).pending = s.pending := by
  simp only [State.sensorlessStage]
  repeat' split
  all_goals simp

@[simp] theorem demandStage_keeps (s : State) (k : Nat) :
    (s.demandStage k).clock = s.clock ∧ (s.demandStage k).cfg = s.cfg ∧ (s.demandStage k).store = s.store ∧
    (s.demandStage k).claim = s.claim ∧ (s.demandStage k).channels = s.channels ∧
    (s.demandStage k).wRequest = s.wRequest ∧ (s.demandStage k).table = s.table ∧ (s.demandStage k).heads = s.heads ∧
    (s.demandStage k).link = s.link ∧ (s.demandStage k).arbiter = s.arbiter ∧ (s.demandStage k).boiler = s.boiler ∧
    (s.demandStage k).field = s.field ∧ (s.demandStage k).restartPending = s.restartPending ∧
    (s.demandStage k).acting = s.acting ∧ (s.demandStage k).pending = s.pending := by
  simp only [State.demandStage]
  repeat' split
  all_goals simp

@[simp] theorem callStage_keeps (s : State) (k : Nat) :
    (s.callStage k).clock = s.clock ∧ (s.callStage k).cfg = s.cfg ∧ (s.callStage k).store = s.store ∧
    (s.callStage k).claim = s.claim ∧ (s.callStage k).channels = s.channels ∧ (s.callStage k).wRequest = s.wRequest ∧
    (s.callStage k).table = s.table ∧ (s.callStage k).heads = s.heads ∧ (s.callStage k).link = s.link ∧
    (s.callStage k).arbiter = s.arbiter ∧ (s.callStage k).boiler = s.boiler ∧ (s.callStage k).field = s.field ∧
    (s.callStage k).main = s.main ∧ (s.callStage k).service = s.service ∧
    (s.callStage k).restartPending = s.restartPending ∧ (s.callStage k).acting = s.acting ∧
    (s.callStage k).pending = s.pending := by
  simp [State.callStage]

@[simp] theorem handOn_keeps (s : State) (k n : Nat) :
    (s.handOn k n).clock = s.clock ∧ (s.handOn k n).cfg = s.cfg ∧ (s.handOn k n).store = s.store ∧
    (s.handOn k n).claim = s.claim ∧ (s.handOn k n).channels = s.channels ∧ (s.handOn k n).zones = s.zones ∧
    (s.handOn k n).wRequest = s.wRequest ∧ (s.handOn k n).heads = s.heads ∧ (s.handOn k n).link = s.link ∧
    (s.handOn k n).main = s.main ∧ (s.handOn k n).service = s.service ∧
    (s.handOn k n).restartPending = s.restartPending ∧ (s.handOn k n).acting = s.acting ∧
    (s.handOn k n).pending = s.pending := by
  simp only [State.handOn]
  repeat' split
  all_goals simp

@[simp] theorem pass_keeps (s : State) (k : Nat) :
    (s.pass k).clock = s.clock ∧ (s.pass k).store = s.store ∧ (s.pass k).claim = s.claim ∧
    (s.pass k).wRequest = s.wRequest ∧ (s.pass k).heads = s.heads ∧ (s.pass k).link = s.link ∧
    (s.pass k).restartPending = s.restartPending ∧ (s.pass k).acting = s.acting ∧ (s.pass k).pending = s.pending := by
  simp [State.pass]

@[simp] theorem cylinderSample_keeps (s : State) :
    (s.cylinderSample).clock = s.clock ∧ (s.cylinderSample).cfg = s.cfg ∧ (s.cylinderSample).store = s.store ∧
    (s.cylinderSample).claim = s.claim ∧ (s.cylinderSample).channels = s.channels ∧
    (s.cylinderSample).zones = s.zones ∧ (s.cylinderSample).heads = s.heads ∧ (s.cylinderSample).link = s.link ∧
    (s.cylinderSample).main = s.main ∧ (s.cylinderSample).service = s.service ∧
    (s.cylinderSample).restartPending = s.restartPending ∧ (s.cylinderSample).acting = s.acting ∧
    (s.cylinderSample).pending = s.pending := by
  simp [State.cylinderSample]

/-! ## Valve link -/

@[simp] theorem enterStalled_keeps (s : State) (v : Nat) :
    (s.enterStalled v).clock = s.clock ∧ (s.enterStalled v).cfg = s.cfg ∧ (s.enterStalled v).store = s.store ∧
    (s.enterStalled v).claim = s.claim ∧ (s.enterStalled v).channels = s.channels ∧
    (s.enterStalled v).zones = s.zones ∧ (s.enterStalled v).wRequest = s.wRequest ∧
    (s.enterStalled v).table = s.table ∧ (s.enterStalled v).link = s.link ∧ (s.enterStalled v).arbiter = s.arbiter ∧
    (s.enterStalled v).boiler = s.boiler ∧ (s.enterStalled v).field = s.field ∧
    (s.enterStalled v).restartPending = s.restartPending ∧ (s.enterStalled v).acting = s.acting ∧
    (s.enterStalled v).pending = s.pending := by
  simp [State.enterStalled]

@[simp] theorem endMove_keeps (s : State) (v : Nat) (st : HeadState) :
    (s.endMove v st).clock = s.clock ∧ (s.endMove v st).cfg = s.cfg ∧ (s.endMove v st).store = s.store ∧
    (s.endMove v st).claim = s.claim ∧ (s.endMove v st).channels = s.channels ∧ (s.endMove v st).zones = s.zones ∧
    (s.endMove v st).wRequest = s.wRequest ∧ (s.endMove v st).table = s.table ∧ (s.endMove v st).link = s.link ∧
    (s.endMove v st).arbiter = s.arbiter ∧ (s.endMove v st).boiler = s.boiler ∧ (s.endMove v st).field = s.field ∧
    (s.endMove v st).main = s.main ∧ (s.endMove v st).service = s.service ∧
    (s.endMove v st).restartPending = s.restartPending ∧ (s.endMove v st).acting = s.acting ∧
    (s.endMove v st).pending = s.pending := by
  simp [State.endMove]

@[simp] theorem becomeReady_keeps (s : State) (v : Nat) :
    (s.becomeReady v).clock = s.clock ∧ (s.becomeReady v).cfg = s.cfg ∧ (s.becomeReady v).store = s.store ∧
    (s.becomeReady v).claim = s.claim ∧ (s.becomeReady v).channels = s.channels ∧ (s.becomeReady v).zones = s.zones ∧
    (s.becomeReady v).wRequest = s.wRequest ∧ (s.becomeReady v).table = s.table ∧ (s.becomeReady v).link = s.link ∧
    (s.becomeReady v).boiler = s.boiler ∧ (s.becomeReady v).field = s.field ∧ (s.becomeReady v).main = s.main ∧
    (s.becomeReady v).service = s.service ∧ (s.becomeReady v).restartPending = s.restartPending ∧
    (s.becomeReady v).acting = s.acting ∧ (s.becomeReady v).pending = s.pending := by
  simp [State.becomeReady]

@[simp] theorem completeMove_keeps (s : State) (v : Nat) :
    (s.completeMove v).clock = s.clock ∧ (s.completeMove v).cfg = s.cfg ∧ (s.completeMove v).store = s.store ∧
    (s.completeMove v).claim = s.claim ∧ (s.completeMove v).channels = s.channels ∧
    (s.completeMove v).zones = s.zones ∧ (s.completeMove v).wRequest = s.wRequest ∧
    (s.completeMove v).table = s.table ∧ (s.completeMove v).link = s.link ∧ (s.completeMove v).boiler = s.boiler ∧
    (s.completeMove v).field = s.field ∧ (s.completeMove v).main = s.main ∧ (s.completeMove v).service = s.service ∧
    (s.completeMove v).restartPending = s.restartPending ∧ (s.completeMove v).acting = s.acting ∧
    (s.completeMove v).pending = s.pending := by
  simp [State.completeMove]

@[simp] theorem unknownReply_keeps (s : State) (v : Nat) (x : ReplyKind) :
    (s.unknownReply v x).clock = s.clock ∧ (s.unknownReply v x).cfg = s.cfg ∧ (s.unknownReply v x).store = s.store ∧
    (s.unknownReply v x).claim = s.claim ∧ (s.unknownReply v x).channels = s.channels ∧
    (s.unknownReply v x).zones = s.zones ∧ (s.unknownReply v x).wRequest = s.wRequest ∧
    (s.unknownReply v x).table = s.table ∧ (s.unknownReply v x).boiler = s.boiler ∧
    (s.unknownReply v x).field = s.field ∧ (s.unknownReply v x).restartPending = s.restartPending ∧
    (s.unknownReply v x).acting = s.acting ∧ (s.unknownReply v x).pending = s.pending := by
  cases x <;> simp [State.unknownReply]

@[simp] theorem readyReply_keeps (s : State) (v : Nat) (x : ReplyKind) :
    (s.readyReply v x).clock = s.clock ∧ (s.readyReply v x).cfg = s.cfg ∧ (s.readyReply v x).store = s.store ∧
    (s.readyReply v x).claim = s.claim ∧ (s.readyReply v x).channels = s.channels ∧
    (s.readyReply v x).zones = s.zones ∧ (s.readyReply v x).wRequest = s.wRequest ∧
    (s.readyReply v x).table = s.table ∧ (s.readyReply v x).boiler = s.boiler ∧ (s.readyReply v x).field = s.field ∧
    (s.readyReply v x).restartPending = s.restartPending ∧ (s.readyReply v x).acting = s.acting ∧
    (s.readyReply v x).pending = s.pending := by
  cases x <;> simp [State.readyReply]

@[simp] theorem movingReply_keeps (s : State) (v : Nat) (x : ReplyKind) :
    (s.movingReply v x).clock = s.clock ∧ (s.movingReply v x).cfg = s.cfg ∧ (s.movingReply v x).store = s.store ∧
    (s.movingReply v x).claim = s.claim ∧ (s.movingReply v x).channels = s.channels ∧
    (s.movingReply v x).zones = s.zones ∧ (s.movingReply v x).wRequest = s.wRequest ∧
    (s.movingReply v x).table = s.table ∧ (s.movingReply v x).boiler = s.boiler ∧
    (s.movingReply v x).field = s.field ∧ (s.movingReply v x).restartPending = s.restartPending ∧
    (s.movingReply v x).acting = s.acting ∧ (s.movingReply v x).pending = s.pending := by
  cases x <;> simp only [State.movingReply] <;> try (split) <;> simp
  all_goals simp

@[simp] theorem ownReply_keeps (s : State) (v : Nat) (x : ReplyKind) :
    (s.ownReply v x).clock = s.clock ∧ (s.ownReply v x).cfg = s.cfg ∧ (s.ownReply v x).store = s.store ∧
    (s.ownReply v x).claim = s.claim ∧ (s.ownReply v x).channels = s.channels ∧ (s.ownReply v x).zones = s.zones ∧
    (s.ownReply v x).wRequest = s.wRequest ∧ (s.ownReply v x).table = s.table ∧ (s.ownReply v x).boiler = s.boiler ∧
    (s.ownReply v x).field = s.field ∧ (s.ownReply v x).restartPending = s.restartPending ∧
    (s.ownReply v x).acting = s.acting ∧ (s.ownReply v x).pending = s.pending := by
  cases x <;> simp [State.ownReply]

@[simp] theorem stalledReply_keeps (s : State) (v : Nat) (x : ReplyKind) :
    (s.stalledReply v x).clock = s.clock ∧ (s.stalledReply v x).cfg = s.cfg ∧ (s.stalledReply v x).store = s.store ∧
    (s.stalledReply v x).claim = s.claim ∧ (s.stalledReply v x).channels = s.channels ∧
    (s.stalledReply v x).zones = s.zones ∧ (s.stalledReply v x).wRequest = s.wRequest ∧
    (s.stalledReply v x).table = s.table ∧ (s.stalledReply v x).boiler = s.boiler ∧
    (s.stalledReply v x).field = s.field ∧ (s.stalledReply v x).restartPending = s.restartPending ∧
    (s.stalledReply v x).acting = s.acting ∧ (s.stalledReply v x).pending = s.pending := by
  cases x <;> simp [State.stalledReply]

@[simp] theorem replyByState_keeps (s : State) (v : Nat) (o : Bool) (x : ReplyKind) :
    (s.replyByState v o x).clock = s.clock ∧ (s.replyByState v o x).cfg = s.cfg ∧
    (s.replyByState v o x).store = s.store ∧ (s.replyByState v o x).claim = s.claim ∧
    (s.replyByState v o x).channels = s.channels ∧ (s.replyByState v o x).zones = s.zones ∧
    (s.replyByState v o x).wRequest = s.wRequest ∧ (s.replyByState v o x).table = s.table ∧
    (s.replyByState v o x).boiler = s.boiler ∧ (s.replyByState v o x).field = s.field ∧
    (s.replyByState v o x).restartPending = s.restartPending ∧ (s.replyByState v o x).acting = s.acting ∧
    (s.replyByState v o x).pending = s.pending := by
  simp only [State.replyByState]
  repeat' split
  all_goals simp

@[simp] theorem goodReply_keeps (s : State) (t : Transaction) (r : StatusReply) :
    (s.goodReply t r).clock = s.clock ∧ (s.goodReply t r).cfg = s.cfg ∧ (s.goodReply t r).store = s.store ∧
    (s.goodReply t r).claim = s.claim ∧ (s.goodReply t r).channels = s.channels ∧
    (s.goodReply t r).wRequest = s.wRequest ∧ (s.goodReply t r).table = s.table ∧
    (s.goodReply t r).boiler = s.boiler ∧ (s.goodReply t r).field = s.field ∧
    (s.goodReply t r).restartPending = s.restartPending ∧ (s.goodReply t r).acting = s.acting ∧
    (s.goodReply t r).pending = s.pending := by
  simp only [State.goodReply]
  repeat' split
  all_goals simp

@[simp] theorem becomeAbsent_keeps (s : State) (v : Nat) :
    (s.becomeAbsent v).clock = s.clock ∧ (s.becomeAbsent v).cfg = s.cfg ∧ (s.becomeAbsent v).store = s.store ∧
    (s.becomeAbsent v).claim = s.claim ∧ (s.becomeAbsent v).channels = s.channels ∧
    (s.becomeAbsent v).zones = s.zones ∧ (s.becomeAbsent v).wRequest = s.wRequest ∧
    (s.becomeAbsent v).table = s.table ∧ (s.becomeAbsent v).boiler = s.boiler ∧ (s.becomeAbsent v).field = s.field ∧
    (s.becomeAbsent v).restartPending = s.restartPending ∧ (s.becomeAbsent v).acting = s.acting ∧
    (s.becomeAbsent v).pending = s.pending := by
  simp [State.becomeAbsent]

@[simp] theorem missed_keeps (s : State) (t : Transaction) :
    (s.missed t).clock = s.clock ∧ (s.missed t).cfg = s.cfg ∧ (s.missed t).store = s.store ∧
    (s.missed t).claim = s.claim ∧ (s.missed t).channels = s.channels ∧ (s.missed t).zones = s.zones ∧
    (s.missed t).wRequest = s.wRequest ∧ (s.missed t).table = s.table ∧ (s.missed t).boiler = s.boiler ∧
    (s.missed t).field = s.field ∧ (s.missed t).restartPending = s.restartPending ∧ (s.missed t).acting = s.acting ∧
    (s.missed t).pending = s.pending := by
  simp only [State.missed]
  repeat' split
  all_goals simp

@[simp] theorem timeOut_keeps (s : State) (v : Nat) :
    (s.timeOut v).clock = s.clock ∧ (s.timeOut v).cfg = s.cfg ∧ (s.timeOut v).store = s.store ∧
    (s.timeOut v).claim = s.claim ∧ (s.timeOut v).channels = s.channels ∧ (s.timeOut v).zones = s.zones ∧
    (s.timeOut v).wRequest = s.wRequest ∧ (s.timeOut v).table = s.table ∧ (s.timeOut v).boiler = s.boiler ∧
    (s.timeOut v).field = s.field ∧ (s.timeOut v).restartPending = s.restartPending ∧
    (s.timeOut v).acting = s.acting ∧ (s.timeOut v).pending = s.pending := by
  simp [State.timeOut]

@[simp] theorem endMoves_keeps (s : State) (vs : List Nat) :
    (s.endMoves vs).clock = s.clock ∧ (s.endMoves vs).cfg = s.cfg ∧ (s.endMoves vs).store = s.store ∧
    (s.endMoves vs).claim = s.claim ∧ (s.endMoves vs).channels = s.channels ∧ (s.endMoves vs).zones = s.zones ∧
    (s.endMoves vs).wRequest = s.wRequest ∧ (s.endMoves vs).table = s.table ∧ (s.endMoves vs).link = s.link ∧
    (s.endMoves vs).arbiter = s.arbiter ∧ (s.endMoves vs).boiler = s.boiler ∧ (s.endMoves vs).field = s.field ∧
    (s.endMoves vs).main = s.main ∧ (s.endMoves vs).service = s.service ∧
    (s.endMoves vs).restartPending = s.restartPending ∧ (s.endMoves vs).acting = s.acting ∧
    (s.endMoves vs).pending = s.pending := by
  have h := foldl_keeps (fun s v => s.endMove v .unknown)
    (fun s : State => (s.clock, s.cfg, s.store, s.claim, s.channels, s.zones, s.wRequest, s.table, s.link, s.arbiter, s.boiler, s.field, s.main, s.service, s.restartPending, s.acting, s.pending))
    (by intro s a; simp) vs s
  simpa [State.endMoves] using h

@[simp] theorem enterLinkFault_keeps (s : State) :
    (s.enterLinkFault).clock = s.clock ∧ (s.enterLinkFault).cfg = s.cfg ∧ (s.enterLinkFault).store = s.store ∧
    (s.enterLinkFault).claim = s.claim ∧ (s.enterLinkFault).channels = s.channels ∧
    (s.enterLinkFault).zones = s.zones ∧ (s.enterLinkFault).wRequest = s.wRequest ∧
    (s.enterLinkFault).table = s.table ∧ (s.enterLinkFault).arbiter = s.arbiter ∧
    (s.enterLinkFault).boiler = s.boiler ∧ (s.enterLinkFault).field = s.field ∧
    (s.enterLinkFault).restartPending = s.restartPending ∧ (s.enterLinkFault).acting = s.acting ∧
    (s.enterLinkFault).pending = s.pending := by
  simp [State.enterLinkFault]

@[simp] theorem stallRetry_keeps (s : State) (v : Nat) :
    (s.stallRetry v).clock = s.clock ∧ (s.stallRetry v).cfg = s.cfg ∧ (s.stallRetry v).store = s.store ∧
    (s.stallRetry v).claim = s.claim ∧ (s.stallRetry v).channels = s.channels ∧ (s.stallRetry v).zones = s.zones ∧
    (s.stallRetry v).wRequest = s.wRequest ∧ (s.stallRetry v).table = s.table ∧ (s.stallRetry v).link = s.link ∧
    (s.stallRetry v).boiler = s.boiler ∧ (s.stallRetry v).field = s.field ∧ (s.stallRetry v).main = s.main ∧
    (s.stallRetry v).service = s.service ∧ (s.stallRetry v).restartPending = s.restartPending ∧
    (s.stallRetry v).acting = s.acting ∧ (s.stallRetry v).pending = s.pending := by
  simp [State.stallRetry]

@[simp] theorem stopAll_keeps (s : State) (vs : List Nat) :
    (vs.foldl (fun s v => (s.endMove v .unknown).addCommand v .stop) s).clock = s.clock ∧
    (vs.foldl (fun s v => (s.endMove v .unknown).addCommand v .stop) s).cfg = s.cfg ∧
    (vs.foldl (fun s v => (s.endMove v .unknown).addCommand v .stop) s).store = s.store ∧
    (vs.foldl (fun s v => (s.endMove v .unknown).addCommand v .stop) s).claim = s.claim ∧
    (vs.foldl (fun s v => (s.endMove v .unknown).addCommand v .stop) s).channels = s.channels ∧
    (vs.foldl (fun s v => (s.endMove v .unknown).addCommand v .stop) s).zones = s.zones ∧
    (vs.foldl (fun s v => (s.endMove v .unknown).addCommand v .stop) s).wRequest = s.wRequest ∧
    (vs.foldl (fun s v => (s.endMove v .unknown).addCommand v .stop) s).table = s.table ∧
    (vs.foldl (fun s v => (s.endMove v .unknown).addCommand v .stop) s).arbiter = s.arbiter ∧
    (vs.foldl (fun s v => (s.endMove v .unknown).addCommand v .stop) s).boiler = s.boiler ∧
    (vs.foldl (fun s v => (s.endMove v .unknown).addCommand v .stop) s).field = s.field ∧
    (vs.foldl (fun s v => (s.endMove v .unknown).addCommand v .stop) s).main = s.main ∧
    (vs.foldl (fun s v => (s.endMove v .unknown).addCommand v .stop) s).service = s.service ∧
    (vs.foldl (fun s v => (s.endMove v .unknown).addCommand v .stop) s).restartPending = s.restartPending ∧
    (vs.foldl (fun s v => (s.endMove v .unknown).addCommand v .stop) s).acting = s.acting ∧
    (vs.foldl (fun s v => (s.endMove v .unknown).addCommand v .stop) s).pending = s.pending := by
  have h := foldl_keeps (fun s v => (s.endMove v .unknown).addCommand v .stop)
    (fun s : State => (s.clock, s.cfg, s.store, s.claim, s.channels, s.zones, s.wRequest, s.table, s.arbiter, s.boiler, s.field, s.main, s.service, s.restartPending, s.acting, s.pending))
    (by intro s a; simp) vs s
  simpa using h

@[simp] theorem supplyStop_keeps (s : State) :
    (s.supplyStop).clock = s.clock ∧ (s.supplyStop).cfg = s.cfg ∧ (s.supplyStop).store = s.store ∧
    (s.supplyStop).claim = s.claim ∧ (s.supplyStop).channels = s.channels ∧ (s.supplyStop).zones = s.zones ∧
    (s.supplyStop).wRequest = s.wRequest ∧ (s.supplyStop).table = s.table ∧ (s.supplyStop).arbiter = s.arbiter ∧
    (s.supplyStop).boiler = s.boiler ∧ (s.supplyStop).restartPending = s.restartPending ∧
    (s.supplyStop).acting = s.acting ∧ (s.supplyStop).pending = s.pending := by
  simp [State.supplyStop]

@[simp] theorem measureSupply_keeps (s : State) (n : Nat) :
    (s.measureSupply n).clock = s.clock ∧ (s.measureSupply n).cfg = s.cfg ∧ (s.measureSupply n).store = s.store ∧
    (s.measureSupply n).claim = s.claim ∧ (s.measureSupply n).channels = s.channels ∧
    (s.measureSupply n).zones = s.zones ∧ (s.measureSupply n).wRequest = s.wRequest ∧
    (s.measureSupply n).table = s.table ∧ (s.measureSupply n).arbiter = s.arbiter ∧
    (s.measureSupply n).boiler = s.boiler ∧ (s.measureSupply n).restartPending = s.restartPending ∧
    (s.measureSupply n).acting = s.acting ∧ (s.measureSupply n).pending = s.pending := by
  simp only [State.measureSupply]
  repeat' split
  all_goals simp

/-! ## Setpoint unit and field -/

@[simp] theorem contactOpens_keeps (s : State) (k : Nat) :
    (s.contactOpens k).clock = s.clock ∧ (s.contactOpens k).cfg = s.cfg ∧ (s.contactOpens k).store = s.store ∧
    (s.contactOpens k).claim = s.claim ∧ (s.contactOpens k).zones = s.zones ∧
    (s.contactOpens k).wRequest = s.wRequest ∧ (s.contactOpens k).table = s.table ∧
    (s.contactOpens k).heads = s.heads ∧ (s.contactOpens k).link = s.link ∧ (s.contactOpens k).arbiter = s.arbiter ∧
    (s.contactOpens k).boiler = s.boiler ∧ (s.contactOpens k).field = s.field ∧
    (s.contactOpens k).restartPending = s.restartPending ∧ (s.contactOpens k).acting = s.acting ∧
    (s.contactOpens k).pending = s.pending := by
  simp only [State.contactOpens]
  repeat' split
  all_goals simp

@[simp] theorem contactCloses_keeps (s : State) (k : Nat) :
    (s.contactCloses k).clock = s.clock ∧ (s.contactCloses k).cfg = s.cfg ∧ (s.contactCloses k).store = s.store ∧
    (s.contactCloses k).claim = s.claim ∧ (s.contactCloses k).zones = s.zones ∧
    (s.contactCloses k).wRequest = s.wRequest ∧ (s.contactCloses k).table = s.table ∧
    (s.contactCloses k).heads = s.heads ∧ (s.contactCloses k).link = s.link ∧
    (s.contactCloses k).arbiter = s.arbiter ∧ (s.contactCloses k).boiler = s.boiler ∧
    (s.contactCloses k).field = s.field ∧ (s.contactCloses k).main = s.main ∧
    (s.contactCloses k).service = s.service ∧ (s.contactCloses k).restartPending = s.restartPending ∧
    (s.contactCloses k).acting = s.acting ∧ (s.contactCloses k).pending = s.pending := by
  simp only [State.contactCloses]
  repeat' split
  all_goals simp

@[simp] theorem boost_keeps (s : State) (k : Nat) (t : Temp) (n : Nat) :
    (s.boost k t n).clock = s.clock ∧ (s.boost k t n).cfg = s.cfg ∧ (s.boost k t n).store = s.store ∧
    (s.boost k t n).claim = s.claim ∧ (s.boost k t n).zones = s.zones ∧ (s.boost k t n).wRequest = s.wRequest ∧
    (s.boost k t n).table = s.table ∧ (s.boost k t n).heads = s.heads ∧ (s.boost k t n).link = s.link ∧
    (s.boost k t n).arbiter = s.arbiter ∧ (s.boost k t n).boiler = s.boiler ∧ (s.boost k t n).field = s.field ∧
    (s.boost k t n).restartPending = s.restartPending ∧ (s.boost k t n).acting = s.acting ∧
    (s.boost k t n).pending = s.pending := by
  simp only [State.boost]
  repeat' split
  all_goals simp

@[simp] theorem clearStack_keeps (s : State) (c : Nat) :
    (s.clearStack c).clock = s.clock ∧ (s.clearStack c).cfg = s.cfg ∧ (s.clearStack c).store = s.store ∧
    (s.clearStack c).claim = s.claim ∧ (s.clearStack c).zones = s.zones ∧ (s.clearStack c).wRequest = s.wRequest ∧
    (s.clearStack c).table = s.table ∧ (s.clearStack c).heads = s.heads ∧ (s.clearStack c).link = s.link ∧
    (s.clearStack c).arbiter = s.arbiter ∧ (s.clearStack c).boiler = s.boiler ∧ (s.clearStack c).field = s.field ∧
    (s.clearStack c).main = s.main ∧ (s.clearStack c).service = s.service ∧
    (s.clearStack c).restartPending = s.restartPending ∧ (s.clearStack c).acting = s.acting ∧
    (s.clearStack c).pending = s.pending := by
  simp [State.clearStack]

@[simp] theorem parkIn_keeps (s : State) (k n : Nat) :
    (s.parkIn k n).clock = s.clock ∧ (s.parkIn k n).store = s.store ∧ (s.parkIn k n).claim = s.claim ∧
    (s.parkIn k n).wRequest = s.wRequest ∧ (s.parkIn k n).table = s.table ∧ (s.parkIn k n).heads = s.heads ∧
    (s.parkIn k n).link = s.link ∧ (s.parkIn k n).arbiter = s.arbiter ∧ (s.parkIn k n).boiler = s.boiler ∧
    (s.parkIn k n).field = s.field ∧ (s.parkIn k n).main = s.main ∧ (s.parkIn k n).service = s.service ∧
    (s.parkIn k n).restartPending = s.restartPending ∧ (s.parkIn k n).acting = s.acting ∧
    (s.parkIn k n).pending = s.pending := by
  simp [State.parkIn]

@[simp] theorem unparkFrom_keeps (s : State) (k n : Nat) (x : Park) :
    (s.unparkFrom k n x).clock = s.clock ∧ (s.unparkFrom k n x).store = s.store ∧
    (s.unparkFrom k n x).claim = s.claim ∧ (s.unparkFrom k n x).wRequest = s.wRequest ∧
    (s.unparkFrom k n x).table = s.table ∧ (s.unparkFrom k n x).heads = s.heads ∧ (s.unparkFrom k n x).link = s.link ∧
    (s.unparkFrom k n x).arbiter = s.arbiter ∧ (s.unparkFrom k n x).boiler = s.boiler ∧
    (s.unparkFrom k n x).field = s.field ∧ (s.unparkFrom k n x).restartPending = s.restartPending ∧
    (s.unparkFrom k n x).acting = s.acting ∧ (s.unparkFrom k n x).pending = s.pending := by
  simp only [State.unparkFrom]
  split <;> simp

@[simp] theorem judgeSample_keeps (s : State) (y : Sensor) (t : Temp) :
    (s.judgeSample y t).clock = s.clock ∧ (s.judgeSample y t).cfg = s.cfg ∧ (s.judgeSample y t).store = s.store ∧
    (s.judgeSample y t).claim = s.claim ∧ (s.judgeSample y t).channels = s.channels ∧
    (s.judgeSample y t).zones = s.zones ∧ (s.judgeSample y t).wRequest = s.wRequest ∧
    (s.judgeSample y t).table = s.table ∧ (s.judgeSample y t).heads = s.heads ∧ (s.judgeSample y t).link = s.link ∧
    (s.judgeSample y t).arbiter = s.arbiter ∧ (s.judgeSample y t).boiler = s.boiler ∧
    (s.judgeSample y t).restartPending = s.restartPending ∧ (s.judgeSample y t).acting = s.acting ∧
    (s.judgeSample y t).pending = s.pending := by
  simp only [State.judgeSample]
  repeat' split
  all_goals simp

@[simp] theorem overheat_keeps (s : State) :
    (s.overheat).clock = s.clock ∧ (s.overheat).cfg = s.cfg ∧ (s.overheat).store = s.store ∧
    (s.overheat).claim = s.claim ∧ (s.overheat).channels = s.channels ∧ (s.overheat).zones = s.zones ∧
    (s.overheat).wRequest = s.wRequest ∧ (s.overheat).restartPending = s.restartPending ∧
    (s.overheat).acting = s.acting ∧ (s.overheat).pending = s.pending := by
  simp only [State.overheat]
  repeat' split
  all_goals simp

@[simp] theorem clearDump_keeps (s : State) :
    (s.clearDump).clock = s.clock ∧ (s.clearDump).cfg = s.cfg ∧ (s.clearDump).store = s.store ∧
    (s.clearDump).claim = s.claim ∧ (s.clearDump).channels = s.channels ∧ (s.clearDump).zones = s.zones ∧
    (s.clearDump).wRequest = s.wRequest ∧ (s.clearDump).table = s.table ∧ (s.clearDump).heads = s.heads ∧
    (s.clearDump).link = s.link ∧ (s.clearDump).field = s.field ∧ (s.clearDump).main = s.main ∧
    (s.clearDump).service = s.service ∧ (s.clearDump).restartPending = s.restartPending ∧
    (s.clearDump).acting = s.acting ∧ (s.clearDump).pending = s.pending := by
  simp only [State.clearDump]
  repeat' split
  all_goals simp

@[simp] theorem endDump_keeps (s : State) :
    (s.endDump).clock = s.clock ∧ (s.endDump).cfg = s.cfg ∧ (s.endDump).store = s.store ∧
    (s.endDump).claim = s.claim ∧ (s.endDump).channels = s.channels ∧ (s.endDump).zones = s.zones ∧
    (s.endDump).wRequest = s.wRequest ∧ (s.endDump).restartPending = s.restartPending ∧
    (s.endDump).acting = s.acting ∧ (s.endDump).pending = s.pending := by
  simp only [State.endDump]
  repeat' split
  all_goals simp

@[simp] theorem flowSample_keeps (s : State) :
    (s.flowSample).clock = s.clock ∧ (s.flowSample).cfg = s.cfg ∧ (s.flowSample).store = s.store ∧
    (s.flowSample).claim = s.claim ∧ (s.flowSample).channels = s.channels ∧ (s.flowSample).zones = s.zones ∧
    (s.flowSample).wRequest = s.wRequest ∧ (s.flowSample).restartPending = s.restartPending ∧
    (s.flowSample).acting = s.acting ∧ (s.flowSample).pending = s.pending := by
  simp only [State.flowSample]
  repeat' split
  all_goals simp

@[simp] theorem handSample_keeps (s : State) (y : Sensor) :
    (s.handSample y).clock = s.clock ∧ (s.handSample y).cfg = s.cfg ∧ (s.handSample y).store = s.store ∧
    (s.handSample y).claim = s.claim ∧ (s.handSample y).channels = s.channels ∧ (s.handSample y).zones = s.zones ∧
    (s.handSample y).restartPending = s.restartPending ∧ (s.handSample y).acting = s.acting ∧
    (s.handSample y).pending = s.pending := by
  cases y <;> simp [State.handSample]

@[simp] theorem becomesActive_keeps (s : State) (f : InputFunction) :
    (s.becomesActive f).clock = s.clock ∧ (s.becomesActive f).cfg = s.cfg ∧ (s.becomesActive f).store = s.store ∧
    (s.becomesActive f).claim = s.claim ∧ (s.becomesActive f).zones = s.zones ∧
    (s.becomesActive f).wRequest = s.wRequest ∧ (s.becomesActive f).table = s.table ∧
    (s.becomesActive f).heads = s.heads ∧ (s.becomesActive f).link = s.link ∧
    (s.becomesActive f).arbiter = s.arbiter ∧ (s.becomesActive f).boiler = s.boiler ∧
    (s.becomesActive f).field = s.field ∧ (s.becomesActive f).restartPending = s.restartPending ∧
    (s.becomesActive f).acting = s.acting ∧ (s.becomesActive f).pending = s.pending := by
  cases f <;> simp [State.becomesActive]

@[simp] theorem becomesInactive_keeps (s : State) (f : InputFunction) :
    (s.becomesInactive f).clock = s.clock ∧ (s.becomesInactive f).cfg = s.cfg ∧
    (s.becomesInactive f).store = s.store ∧ (s.becomesInactive f).claim = s.claim ∧
    (s.becomesInactive f).zones = s.zones ∧ (s.becomesInactive f).wRequest = s.wRequest ∧
    (s.becomesInactive f).table = s.table ∧ (s.becomesInactive f).heads = s.heads ∧
    (s.becomesInactive f).link = s.link ∧ (s.becomesInactive f).arbiter = s.arbiter ∧
    (s.becomesInactive f).boiler = s.boiler ∧ (s.becomesInactive f).field = s.field ∧
    (s.becomesInactive f).main = s.main ∧ (s.becomesInactive f).service = s.service ∧
    (s.becomesInactive f).restartPending = s.restartPending ∧ (s.becomesInactive f).acting = s.acting ∧
    (s.becomesInactive f).pending = s.pending := by
  cases f <;> simp [State.becomesInactive]

@[simp] theorem edge_keeps (s : State) (n : Nat) (f : InputFunction) :
    (s.edge n f).clock = s.clock ∧ (s.edge n f).cfg = s.cfg ∧ (s.edge n f).store = s.store ∧
    (s.edge n f).claim = s.claim ∧ (s.edge n f).zones = s.zones ∧ (s.edge n f).wRequest = s.wRequest ∧
    (s.edge n f).table = s.table ∧ (s.edge n f).heads = s.heads ∧ (s.edge n f).link = s.link ∧
    (s.edge n f).arbiter = s.arbiter ∧ (s.edge n f).boiler = s.boiler ∧ (s.edge n f).field = s.field ∧
    (s.edge n f).restartPending = s.restartPending ∧ (s.edge n f).acting = s.acting ∧
    (s.edge n f).pending = s.pending := by
  cases f <;> simp [State.edge]

@[simp] theorem changeInput_keeps (s : State) (n : Nat) (b : Bool) :
    (s.changeInput n b).clock = s.clock ∧ (s.changeInput n b).cfg = s.cfg ∧ (s.changeInput n b).store = s.store ∧
    (s.changeInput n b).claim = s.claim ∧ (s.changeInput n b).zones = s.zones ∧
    (s.changeInput n b).wRequest = s.wRequest ∧ (s.changeInput n b).table = s.table ∧
    (s.changeInput n b).heads = s.heads ∧ (s.changeInput n b).link = s.link ∧
    (s.changeInput n b).arbiter = s.arbiter ∧ (s.changeInput n b).boiler = s.boiler ∧
    (s.changeInput n b).restartPending = s.restartPending ∧ (s.changeInput n b).acting = s.acting ∧
    (s.changeInput n b).pending = s.pending := by
  simp only [State.changeInput]
  repeat' split
  all_goals simp

@[simp] theorem establishInput_keeps (s : State) (n : Nat) (b : Bool) :
    (s.establishInput n b).clock = s.clock ∧ (s.establishInput n b).cfg = s.cfg ∧
    (s.establishInput n b).store = s.store ∧ (s.establishInput n b).claim = s.claim ∧
    (s.establishInput n b).zones = s.zones ∧ (s.establishInput n b).wRequest = s.wRequest ∧
    (s.establishInput n b).table = s.table ∧ (s.establishInput n b).heads = s.heads ∧
    (s.establishInput n b).link = s.link ∧ (s.establishInput n b).arbiter = s.arbiter ∧
    (s.establishInput n b).boiler = s.boiler ∧ (s.establishInput n b).restartPending = s.restartPending ∧
    (s.establishInput n b).acting = s.acting ∧ (s.establishInput n b).pending = s.pending := by
  simp only [State.establishInput]
  repeat' split
  all_goals simp

@[simp] theorem sampleInput_keeps (s : State) (n : Nat) (b : Bool) :
    (s.sampleInput n b).clock = s.clock ∧ (s.sampleInput n b).cfg = s.cfg ∧ (s.sampleInput n b).store = s.store ∧
    (s.sampleInput n b).claim = s.claim ∧ (s.sampleInput n b).zones = s.zones ∧
    (s.sampleInput n b).wRequest = s.wRequest ∧ (s.sampleInput n b).table = s.table ∧
    (s.sampleInput n b).heads = s.heads ∧ (s.sampleInput n b).link = s.link ∧
    (s.sampleInput n b).arbiter = s.arbiter ∧ (s.sampleInput n b).boiler = s.boiler ∧
    (s.sampleInput n b).restartPending = s.restartPending ∧ (s.sampleInput n b).acting = s.acting ∧
    (s.sampleInput n b).pending = s.pending := by
  simp only [State.sampleInput]
  repeat' split
  all_goals simp

@[simp] theorem reconfigureInput_keeps (s : State) (n : Nat) (x : InputCfg) :
    (s.reconfigureInput n x).clock = s.clock ∧ (s.reconfigureInput n x).store = s.store ∧
    (s.reconfigureInput n x).claim = s.claim ∧ (s.reconfigureInput n x).zones = s.zones ∧
    (s.reconfigureInput n x).wRequest = s.wRequest ∧ (s.reconfigureInput n x).table = s.table ∧
    (s.reconfigureInput n x).heads = s.heads ∧ (s.reconfigureInput n x).link = s.link ∧
    (s.reconfigureInput n x).arbiter = s.arbiter ∧ (s.reconfigureInput n x).boiler = s.boiler ∧
    (s.reconfigureInput n x).field = s.field ∧ (s.reconfigureInput n x).restartPending = s.restartPending ∧
    (s.reconfigureInput n x).acting = s.acting ∧ (s.reconfigureInput n x).pending = s.pending := by
  simp only [State.reconfigureInput]
  repeat' split
  all_goals simp

@[simp] theorem clearEdges_keeps (s : State) (n : Nat) :
    (s.clearEdges n).clock = s.clock ∧ (s.clearEdges n).cfg = s.cfg ∧ (s.clearEdges n).store = s.store ∧
    (s.clearEdges n).claim = s.claim ∧ (s.clearEdges n).channels = s.channels ∧ (s.clearEdges n).zones = s.zones ∧
    (s.clearEdges n).wRequest = s.wRequest ∧ (s.clearEdges n).table = s.table ∧ (s.clearEdges n).heads = s.heads ∧
    (s.clearEdges n).link = s.link ∧ (s.clearEdges n).arbiter = s.arbiter ∧ (s.clearEdges n).boiler = s.boiler ∧
    (s.clearEdges n).main = s.main ∧ (s.clearEdges n).service = s.service ∧
    (s.clearEdges n).restartPending = s.restartPending ∧ (s.clearEdges n).acting = s.acting ∧
    (s.clearEdges n).pending = s.pending := by
  simp [State.clearEdges]

@[simp] theorem rampStep_keeps (s : State) :
    (s.rampStep).clock = s.clock ∧ (s.rampStep).cfg = s.cfg ∧ (s.rampStep).store = s.store ∧
    (s.rampStep).claim = s.claim ∧ (s.rampStep).channels = s.channels ∧ (s.rampStep).zones = s.zones ∧
    (s.rampStep).wRequest = s.wRequest ∧ (s.rampStep).table = s.table ∧ (s.rampStep).heads = s.heads ∧
    (s.rampStep).link = s.link ∧ (s.rampStep).arbiter = s.arbiter ∧ (s.rampStep).boiler = s.boiler ∧
    (s.rampStep).main = s.main ∧ (s.rampStep).service = s.service ∧ (s.rampStep).restartPending = s.restartPending ∧
    (s.rampStep).acting = s.acting ∧ (s.rampStep).pending = s.pending := by
  simp only [State.rampStep]
  repeat' split
  all_goals simp

/-! ## Time base, ports, settings -/

@[simp] theorem endUntilNextOf_keeps (s : State) (o : Nat → Level) (c : Nat) :
    (s.endUntilNextOf o c).clock = s.clock ∧ (s.endUntilNextOf o c).cfg = s.cfg ∧
    (s.endUntilNextOf o c).store = s.store ∧ (s.endUntilNextOf o c).claim = s.claim ∧
    (s.endUntilNextOf o c).zones = s.zones ∧ (s.endUntilNextOf o c).wRequest = s.wRequest ∧
    (s.endUntilNextOf o c).table = s.table ∧ (s.endUntilNextOf o c).heads = s.heads ∧
    (s.endUntilNextOf o c).link = s.link ∧ (s.endUntilNextOf o c).arbiter = s.arbiter ∧
    (s.endUntilNextOf o c).boiler = s.boiler ∧ (s.endUntilNextOf o c).field = s.field ∧
    (s.endUntilNextOf o c).main = s.main ∧ (s.endUntilNextOf o c).service = s.service ∧
    (s.endUntilNextOf o c).restartPending = s.restartPending ∧ (s.endUntilNextOf o c).acting = s.acting ∧
    (s.endUntilNextOf o c).pending = s.pending := by
  simp only [State.endUntilNextOf]
  repeat' split
  all_goals simp

@[simp] theorem slotBoundary_keeps (s : State) (o : Nat → Level) :
    (s.slotBoundary o).clock = s.clock ∧ (s.slotBoundary o).cfg = s.cfg ∧ (s.slotBoundary o).store = s.store ∧
    (s.slotBoundary o).claim = s.claim ∧ (s.slotBoundary o).wRequest = s.wRequest ∧
    (s.slotBoundary o).table = s.table ∧ (s.slotBoundary o).heads = s.heads ∧ (s.slotBoundary o).link = s.link ∧
    (s.slotBoundary o).arbiter = s.arbiter ∧ (s.slotBoundary o).boiler = s.boiler ∧
    (s.slotBoundary o).field = s.field ∧ (s.slotBoundary o).main = s.main ∧ (s.slotBoundary o).service = s.service ∧
    (s.slotBoundary o).restartPending = s.restartPending ∧ (s.slotBoundary o).acting = s.acting ∧
    (s.slotBoundary o).pending = s.pending := by
  have h1 := fun s : State => foldl_keeps State.midnightPlan (fun s : State => (s.clock, s.cfg, s.store, s.claim, s.wRequest, s.table, s.heads, s.link, s.arbiter, s.boiler, s.field, s.main, s.service, s.restartPending, s.acting, s.pending))
    (by intro s a; simp) channelNumbers s
  have h2 := fun s : State => foldl_keeps (fun s c => s.endUntilNextOf o c) (fun s : State => (s.clock, s.cfg, s.store, s.claim, s.wRequest, s.table, s.heads, s.link, s.arbiter, s.boiler, s.field, s.main, s.service, s.restartPending, s.acting, s.pending))
    (by intro s a; simp) channelNumbers s
  simp only [Prod.mk.injEq] at h1 h2
  simp only [State.slotBoundary]
  split <;> simp [h1, h2]

@[simp] theorem wallMinute_keeps (s : State) :
    (s.wallMinute).cfg = s.cfg ∧ (s.wallMinute).store = s.store ∧ (s.wallMinute).claim = s.claim ∧
    (s.wallMinute).wRequest = s.wRequest ∧ (s.wallMinute).restartPending = s.restartPending ∧
    (s.wallMinute).acting = s.acting ∧ (s.wallMinute).pending = s.pending := by
  simp only [State.wallMinute]
  repeat' split
  all_goals simp

@[simp] theorem duePass_keeps (s : State) (k : Nat) :
    (s.duePass k).clock = s.clock ∧ (s.duePass k).cfg = s.cfg ∧ (s.duePass k).store = s.store ∧
    (s.duePass k).claim = s.claim ∧ (s.duePass k).channels = s.channels ∧ (s.duePass k).wRequest = s.wRequest ∧
    (s.duePass k).table = s.table ∧ (s.duePass k).heads = s.heads ∧ (s.duePass k).link = s.link ∧
    (s.duePass k).arbiter = s.arbiter ∧ (s.duePass k).boiler = s.boiler ∧ (s.duePass k).field = s.field ∧
    (s.duePass k).main = s.main ∧ (s.duePass k).service = s.service ∧
    (s.duePass k).restartPending = s.restartPending ∧ (s.duePass k).acting = s.acting ∧
    (s.duePass k).pending = s.pending := by
  simp only [State.duePass]
  repeat' split
  all_goals simp

@[simp] theorem elapsedMinute_keeps (s : State) :
    (s.elapsedMinute).cfg = s.cfg ∧ (s.elapsedMinute).store = s.store ∧ (s.elapsedMinute).claim = s.claim ∧
    (s.elapsedMinute).wRequest = s.wRequest ∧ (s.elapsedMinute).table = s.table ∧ (s.elapsedMinute).heads = s.heads ∧
    (s.elapsedMinute).link = s.link ∧ (s.elapsedMinute).arbiter = s.arbiter ∧ (s.elapsedMinute).boiler = s.boiler ∧
    (s.elapsedMinute).field = s.field ∧ (s.elapsedMinute).main = s.main ∧ (s.elapsedMinute).service = s.service ∧
    (s.elapsedMinute).restartPending = s.restartPending ∧ (s.elapsedMinute).acting = s.acting ∧
    (s.elapsedMinute).pending = s.pending := by
  have h1 := fun s : State => foldl_keeps State.duePass (fun s : State => (s.cfg, s.store, s.claim, s.wRequest, s.table, s.heads, s.link, s.arbiter, s.boiler, s.field, s.main, s.service, s.restartPending, s.acting, s.pending))
    (by intro s a; simp) zoneNumbers s
  simp only [Prod.mk.injEq] at h1
  simp [State.elapsedMinute, h1]

@[simp] theorem refreshLapse_keeps (s : State) (p : Port) :
    (s.refreshLapse p).clock = s.clock ∧ (s.refreshLapse p).cfg = s.cfg ∧ (s.refreshLapse p).store = s.store ∧
    (s.refreshLapse p).channels = s.channels ∧ (s.refreshLapse p).zones = s.zones ∧
    (s.refreshLapse p).wRequest = s.wRequest ∧ (s.refreshLapse p).table = s.table ∧
    (s.refreshLapse p).heads = s.heads ∧ (s.refreshLapse p).link = s.link ∧ (s.refreshLapse p).arbiter = s.arbiter ∧
    (s.refreshLapse p).boiler = s.boiler ∧ (s.refreshLapse p).field = s.field ∧ (s.refreshLapse p).main = s.main ∧
    (s.refreshLapse p).service = s.service ∧ (s.refreshLapse p).restartPending = s.restartPending ∧
    (s.refreshLapse p).acting = s.acting ∧ (s.refreshLapse p).pending = s.pending := by
  simp [State.refreshLapse]

@[simp] theorem writeDraft_keeps (s : State) (c : Nat) (d : ChannelDraft) :
    (s.writeDraft c d).clock = s.clock ∧ (s.writeDraft c d).store = s.store ∧ (s.writeDraft c d).claim = s.claim ∧
    (s.writeDraft c d).channels = s.channels ∧ (s.writeDraft c d).zones = s.zones ∧
    (s.writeDraft c d).wRequest = s.wRequest ∧ (s.writeDraft c d).table = s.table ∧
    (s.writeDraft c d).heads = s.heads ∧ (s.writeDraft c d).link = s.link ∧ (s.writeDraft c d).arbiter = s.arbiter ∧
    (s.writeDraft c d).boiler = s.boiler ∧ (s.writeDraft c d).field = s.field ∧ (s.writeDraft c d).main = s.main ∧
    (s.writeDraft c d).service = s.service ∧ (s.writeDraft c d).restartPending = s.restartPending ∧
    (s.writeDraft c d).acting = s.acting ∧ (s.writeDraft c d).pending = s.pending := by
  simp only [State.writeDraft]
  repeat' split
  all_goals simp

@[simp] theorem draftEffects_keeps (s : State) (c : Nat) (x y : ChannelDraft) :
    (s.draftEffects c x y).clock = s.clock ∧ (s.draftEffects c x y).cfg = s.cfg ∧
    (s.draftEffects c x y).store = s.store ∧ (s.draftEffects c x y).claim = s.claim ∧
    (s.draftEffects c x y).wRequest = s.wRequest ∧ (s.draftEffects c x y).table = s.table ∧
    (s.draftEffects c x y).heads = s.heads ∧ (s.draftEffects c x y).link = s.link ∧
    (s.draftEffects c x y).arbiter = s.arbiter ∧ (s.draftEffects c x y).boiler = s.boiler ∧
    (s.draftEffects c x y).field = s.field ∧ (s.draftEffects c x y).main = s.main ∧
    (s.draftEffects c x y).service = s.service ∧ (s.draftEffects c x y).restartPending = s.restartPending ∧
    (s.draftEffects c x y).acting = s.acting ∧ (s.draftEffects c x y).pending = s.pending := by
  simp only [State.draftEffects]
  repeat' split
  all_goals simp

@[simp] theorem handRequestOf_keeps (s : State) (c : Nat) :
    (s.handRequestOf c).clock = s.clock ∧ (s.handRequestOf c).cfg = s.cfg ∧ (s.handRequestOf c).store = s.store ∧
    (s.handRequestOf c).claim = s.claim ∧ (s.handRequestOf c).channels = s.channels ∧
    (s.handRequestOf c).zones = s.zones ∧ (s.handRequestOf c).wRequest = s.wRequest ∧
    (s.handRequestOf c).heads = s.heads ∧ (s.handRequestOf c).link = s.link ∧ (s.handRequestOf c).main = s.main ∧
    (s.handRequestOf c).service = s.service ∧ (s.handRequestOf c).restartPending = s.restartPending ∧
    (s.handRequestOf c).acting = s.acting ∧ (s.handRequestOf c).pending = s.pending := by
  simp only [State.handRequestOf]
  repeat' split
  all_goals simp

@[simp] theorem reassignEntry_keeps (s : State) (v : Nat) :
    (s.reassignEntry v).clock = s.clock ∧ (s.reassignEntry v).cfg = s.cfg ∧ (s.reassignEntry v).store = s.store ∧
    (s.reassignEntry v).claim = s.claim ∧ (s.reassignEntry v).channels = s.channels ∧
    (s.reassignEntry v).zones = s.zones ∧ (s.reassignEntry v).wRequest = s.wRequest ∧
    (s.reassignEntry v).table = s.table ∧ (s.reassignEntry v).heads = s.heads ∧ (s.reassignEntry v).link = s.link ∧
    (s.reassignEntry v).boiler = s.boiler ∧ (s.reassignEntry v).field = s.field ∧ (s.reassignEntry v).main = s.main ∧
    (s.reassignEntry v).service = s.service ∧ (s.reassignEntry v).restartPending = s.restartPending ∧
    (s.reassignEntry v).acting = s.acting ∧ (s.reassignEntry v).pending = s.pending := by
  simp only [State.reassignEntry]
  repeat' split
  all_goals simp

@[simp] theorem roleEffects_keeps (s : State) (v : Nat) (x y : Role) :
    (s.roleEffects v x y).clock = s.clock ∧ (s.roleEffects v x y).cfg = s.cfg ∧
    (s.roleEffects v x y).store = s.store ∧ (s.roleEffects v x y).claim = s.claim ∧
    (s.roleEffects v x y).channels = s.channels ∧ (s.roleEffects v x y).zones = s.zones ∧
    (s.roleEffects v x y).wRequest = s.wRequest ∧ (s.roleEffects v x y).table = s.table ∧
    (s.roleEffects v x y).link = s.link ∧ (s.roleEffects v x y).boiler = s.boiler ∧
    (s.roleEffects v x y).field = s.field ∧ (s.roleEffects v x y).main = s.main ∧
    (s.roleEffects v x y).service = s.service ∧ (s.roleEffects v x y).restartPending = s.restartPending ∧
    (s.roleEffects v x y).acting = s.acting ∧ (s.roleEffects v x y).pending = s.pending := by
  simp only [State.roleEffects]
  repeat' split
  all_goals simp

@[simp] theorem commit_keeps (s : State) (c : EditClaim) :
    (s.commit c).clock = s.clock ∧ (s.commit c).store = s.store ∧ (s.commit c).wRequest = s.wRequest ∧
    (s.commit c).table = s.table ∧ (s.commit c).heads = s.heads ∧ (s.commit c).link = s.link ∧
    (s.commit c).arbiter = s.arbiter ∧ (s.commit c).boiler = s.boiler ∧ (s.commit c).field = s.field ∧
    (s.commit c).main = s.main ∧ (s.commit c).service = s.service ∧ (s.commit c).restartPending = s.restartPending ∧
    (s.commit c).acting = s.acting ∧ (s.commit c).pending = s.pending := by
  simp [State.commit]

@[simp] theorem discardFrame_keeps (s : State) (p : Port) :
    (s.discardFrame p).clock = s.clock ∧ (s.discardFrame p).cfg = s.cfg ∧ (s.discardFrame p).store = s.store ∧
    (s.discardFrame p).claim = s.claim ∧ (s.discardFrame p).channels = s.channels ∧
    (s.discardFrame p).zones = s.zones ∧ (s.discardFrame p).wRequest = s.wRequest ∧
    (s.discardFrame p).table = s.table ∧ (s.discardFrame p).heads = s.heads ∧ (s.discardFrame p).link = s.link ∧
    (s.discardFrame p).arbiter = s.arbiter ∧ (s.discardFrame p).boiler = s.boiler ∧
    (s.discardFrame p).field = s.field ∧ (s.discardFrame p).restartPending = s.restartPending ∧
    (s.discardFrame p).acting = s.acting ∧ (s.discardFrame p).pending = s.pending := by
  simp [State.discardFrame]

@[simp] theorem frameDone_keeps (s : State) (p : Port) :
    (s.frameDone p).clock = s.clock ∧ (s.frameDone p).cfg = s.cfg ∧ (s.frameDone p).store = s.store ∧
    (s.frameDone p).claim = s.claim ∧ (s.frameDone p).channels = s.channels ∧ (s.frameDone p).zones = s.zones ∧
    (s.frameDone p).wRequest = s.wRequest ∧ (s.frameDone p).table = s.table ∧ (s.frameDone p).heads = s.heads ∧
    (s.frameDone p).link = s.link ∧ (s.frameDone p).arbiter = s.arbiter ∧ (s.frameDone p).boiler = s.boiler ∧
    (s.frameDone p).field = s.field ∧ (s.frameDone p).restartPending = s.restartPending ∧
    (s.frameDone p).acting = s.acting ∧ (s.frameDone p).pending = s.pending := by
  simp [State.frameDone]

end Sys2Proof.Machine
end

