-- ==== Sys2Proof/Laws/Ports.lean ====
section
/-! SUPPORT. What the operations on the ports do: raises, frames that join and start, and a request that is served; each
lemma says once what a port's receiver, cursor, attention set and frames are afterwards. -/

namespace Sys2Proof.Machine

/-! ## Starting the next frame -/

@[simp] theorem startNext_rx (ps : PortState) : ps.startNext.rx = ps.rx := by
  unfold PortState.startNext; split <;> rfl

@[simp] theorem startNext_attn (ps : PortState) : ps.startNext.attn = ps.attn := by
  unfold PortState.startNext; split <;> rfl

@[simp] theorem startNext_cursor (ps : PortState) : ps.startNext.cursor = ps.cursor := by
  unfold PortState.startNext; split <;> rfl

/-- With a frame being sent, or none waiting, no frame starts. -/
theorem startNext_idle (ps : PortState) (h : ps.tx.sending = none → ps.tx.queue = []) : ps.startNext = ps := by
  unfold PortState.startNext
  split
  · next f rest h1 h2 => simp [h h1] at h2
  · rfl

/-- A reply that stands among the frames still does when the next frame has started. -/
theorem served_startNext (ps : PortState) (r : Reply) (h : TxFrame.served r ∈ ps.frames) :
    TxFrame.served r ∈ ps.startNext.frames := by
  unfold PortState.startNext
  split
  · next f rest h1 h2 =>
    simp only [PortState.frames, h1, h2, Option.toList, List.nil_append, List.mem_cons] at h ⊢
    rcases h with h | h
    · subst h; simp [firstByteOut]
    · simp [h]
  · exact h

theorem busy_startNext (ps : PortState) (r : Reply) (h : TxFrame.busy r ∈ ps.frames) :
    TxFrame.busy r ∈ ps.startNext.frames := by
  unfold PortState.startNext
  split
  · next f rest h1 h2 =>
    simp only [PortState.frames, h1, h2, Option.toList, List.nil_append, List.mem_cons] at h ⊢
    rcases h with h | h
    · subst h; simp [firstByteOut]
    · simp [h]
  · exact h

@[simp] theorem endEvent_main (s : State) : s.endEvent.main = s.main.startNext := rfl

@[simp] theorem endEvent_service (s : State) : s.endEvent.service = s.service.startNext := rfl

@[simp] theorem endEvent_port (s : State) (p : Port) : s.endEvent.port p = (s.port p).startNext := by cases p <;> rfl

@[simp] theorem pushTx_port (s : State) (p q : Port) (f : TxFrame) :
    (s.pushTx p f).port q =
      if q = p then { s.port p with tx := { (s.port p).tx with queue := (s.port p).tx.queue ++ [f] } } else s.port q := by
  cases p <;> cases q <;> rfl

/-! ## Raises -/

@[simp] theorem raise_rx (ps : PortState) (m : Mask) (c : Category) (o : ObjectSet) (k : Byte) :
    (ps.raise m c o k).rx = ps.rx := by unfold PortState.raise; dsimp only; split <;> rfl

@[simp] theorem raise_cursor (ps : PortState) (m : Mask) (c : Category) (o : ObjectSet) (k : Byte) :
    (ps.raise m c o k).cursor = ps.cursor := by unfold PortState.raise; dsimp only; split <;> rfl

@[simp] theorem raise_sending (ps : PortState) (m : Mask) (c : Category) (o : ObjectSet) (k : Byte) :
    (ps.raise m c o k).tx.sending = ps.tx.sending := by unfold PortState.raise; dsimp only; split <;> rfl

theorem raise_attn (ps : PortState) (m : Mask) (c : Category) (o : ObjectSet) (k : Byte) :
    (ps.raise m c o k).attn =
      ps.attn.set c.number (some (joinAttention (ps.attn.getD c.number none) o k (!raiseMasked m o))) := by
  unfold PortState.raise; dsimp only; split <;> rfl

@[simp] theorem raise_attn_length (ps : PortState) (m : Mask) (c : Category) (o : ObjectSet) (k : Byte) :
    (ps.raise m c o k).attn.length = ps.attn.length := by simp [raise_attn]

/-- A raise leaves the other categories. -/
theorem raise_attn_other (ps : PortState) (m : Mask) (c : Category) (o : ObjectSet) (k : Byte) (n : Nat)
    (h : n ≠ c.number) : (ps.raise m c o k).attn.getD n none = ps.attn.getD n none := by
  simp [raise_attn, List.getD, Ne.symm h]

theorem number_lt (c : Category) : c.number < 16 := by cases c <;> decide

/-- A raise's own category afterwards. -/
theorem raise_attn_same (ps : PortState) (m : Mask) (c : Category) (o : ObjectSet) (k : Byte) (h : ps.attn.length = 16) :
    (ps.raise m c o k).attn.getD c.number none =
      some (joinAttention (ps.attn.getD c.number none) o k (!raiseMasked m o)) := by
  have := number_lt c
  simp [raise_attn, List.getD, h, this]

@[simp] theorem raiseAt_port (s : State) (p q : Port) (c : Category) (o : ObjectSet) (k : Byte) :
    (s.raiseAt p c o k).port q =
      if q = p then (s.port p).raise ((s.masks p).getD c.number ⟨false, 0⟩) c o k else s.port q := by
  cases p <;> cases q <;> rfl

@[simp] theorem raiseAt_masks (s : State) (p q : Port) (c : Category) (o : ObjectSet) (k : Byte) :
    (s.raiseAt p c o k).masks q = s.masks q := by cases q <;> simp [State.masks]

@[simp] theorem raise_port (s : State) (q : Port) (c : Category) (o : ObjectSet) :
    (s.raise c o).port q = (s.port q).raise ((s.masks q).getD c.number ⟨false, 0⟩) c o 0 := by
  cases q <;> simp [State.raise]

@[simp] theorem raiseStore_port (s : State) (q : Port) (k : Byte) :
    (s.raiseStore k).port q = (s.port q).raise ((s.masks q).getD 14 ⟨false, 0⟩) .store 0 k := by
  cases q <;> simp [State.raiseStore, Category.number]

/-- Objects that a category's entry holds. -/
def holdsObjects (a : Option Attention) (o : ObjectSet) : Bool := a.any fun x => (o &&& ~~~x.objects) == 0

theorem andNot_or (o x y : ObjectSet) (h : o &&& ~~~x = 0) : o &&& ~~~(x ||| y) = 0 := by
  have : o &&& ~~~(x ||| y) = (o &&& ~~~x) &&& ~~~y := by
    rw [BitVec.not_or, BitVec.and_assoc]
  rw [this, h]; simp

theorem join_holds (old : Option Attention) (o p : ObjectSet) (k : Byte) (u : Bool) (h : o &&& ~~~p = 0) :
    holdsObjects (some (joinAttention old p k u)) o = true := by
  cases old with
  | none => simpa [holdsObjects, joinAttention] using h
  | some a =>
    have := andNot_or o p a.objects h
    rw [BitVec.or_comm] at this
    simpa [holdsObjects, joinAttention] using this

theorem join_keeps_objects (a : Option Attention) (o p : ObjectSet) (k : Byte) (u : Bool)
    (h : holdsObjects a o = true) : holdsObjects (some (joinAttention a p k u)) o = true := by
  cases a with
  | none => simp [holdsObjects] at h
  | some a => simpa [holdsObjects, joinAttention] using andNot_or o a.objects p (by simpa [holdsObjects] using h)

/-- What a set held before a raise it holds after it. -/
theorem raise_holds (ps : PortState) (m : Mask) (c : Category) (o p : ObjectSet) (k : Byte) (n : Nat)
    (h : holdsObjects (ps.attn.getD n none) o = true) :
    holdsObjects ((ps.raise m c p k).attn.getD n none) o = true := by
  by_cases hn : n = c.number
  · subst hn
    by_cases hl : c.number < ps.attn.length
    · have : (ps.raise m c p k).attn.getD c.number none =
          some (joinAttention (ps.attn.getD c.number none) p k (!raiseMasked m p)) := by
        simp [raise_attn, List.getD, hl]
      rw [this]; exact join_keeps_objects _ _ _ _ _ h
    · simp [List.getD, List.getElem?_eq_none (Nat.le_of_not_lt hl), holdsObjects] at h
  · rw [raise_attn_other _ _ _ _ _ _ hn]; exact h

/-- A raise puts its objects into its category. -/
theorem raise_raises (ps : PortState) (m : Mask) (c : Category) (o p : ObjectSet) (k : Byte) (hl : ps.attn.length = 16)
    (h : o &&& ~~~p = 0) : holdsObjects ((ps.raise m c p k).attn.getD c.number none) o = true := by
  rw [raise_attn_same _ _ _ _ _ hl]; exact join_holds _ _ _ _ _ h

theorem raised_iff (t : State) (p : Port) (c : Category) (o : ObjectSet) :
    t.raised p c o ↔ holdsObjects ((t.port p).attn.getD c.number none) o = true := Iff.rfl

end Sys2Proof.Machine
end

