-- ==== Sys2Proof/Laws/Requests.lean ====
section
/-! SUPPORT. What a complete request does, by the transmit list it meets (R168, R169): served, refused BUSY, or
discarded; a refusal's whole effect; and the form of a count on the wire (R171). -/

namespace Sys2Proof.Machine

/-- Setting the lapse timer back changes the claim alone. -/
theorem refreshLapse_eq (s : State) (p : Port) : s.refreshLapse p = { s with claim := s.keptAlive p } := rfl

/-- The state a request's work meets: the receiver idle, the holder's lapse timer set back (R166, R184). -/
def State.met (s : State) (p : Port) : State := (s.setRx p .idle).refreshLapse p

@[simp] theorem met_port (s : State) (p q : Port) :
    (s.met p).port q = if q = p then { s.port p with rx := .idle } else s.port q := by
  cases p <;> cases q <;> rfl

@[simp] theorem met_keeps (s : State) (p : Port) :
    (s.met p).clock = s.clock ∧ (s.met p).cfg = s.cfg ∧ (s.met p).store = s.store ∧
    (s.met p).claim = s.keptAlive p ∧ (s.met p).channels = s.channels ∧ (s.met p).zones = s.zones ∧
    (s.met p).wRequest = s.wRequest ∧ (s.met p).table = s.table ∧ (s.met p).heads = s.heads ∧
    (s.met p).link = s.link ∧ (s.met p).arbiter = s.arbiter ∧ (s.met p).boiler = s.boiler ∧
    (s.met p).field = s.field ∧ (s.met p).restartPending = s.restartPending ∧ (s.met p).acting = s.acting ∧
    (s.met p).pending = s.pending := by
  cases p <;> simp [State.met, State.setRx, State.setPort, State.refreshLapse, State.setClaim, State.keptAlive,
    lapseSeconds]

theorem complete_met (s : State) (p : Port) (kind : Byte) (f : Form) :
    s.complete p kind f = (s.met p).meet p kind f := rfl

/-! ## The checks of R168 in their order -/

/-- While a RESTART is pending every request is refused BUSY (R168 step 2). -/
theorem serve_pending (r : Request) (s : State) (h : s.restartPending = true) :
    (Form.fits r).serve s = (s, .refused .busy) := by simp [Form.serve, h, refuse]

/-- A field code that the kind does not know is refused RANGE, whatever the store does (R168 step 3). -/
theorem serve_unknownCode (r : Request) (s : State) (hr : s.restartPending = false) (h : r.known = false) :
    (Form.fits r).serve s = (s, .refused .range) := by simp [Form.serve, hr, h, refuse]

/-- A request that would change the stored set is refused BUSY while a store write is in progress (R168 step 4). -/
theorem serve_busy (r : Request) (s : State) (hr : s.restartPending = false) (hk : r.known = true)
    (h : r.stored = true ∧ s.storeWriting = true) : (Form.fits r).serve s = (s, .refused .busy) := by
  simp [Form.serve, hr, hk, h.1, h.2, refuse]

/-- A request that no check holds up does its kind's work (R168 step 5). -/
theorem serve_work (r : Request) (s : State) (hr : s.restartPending = false) (hk : r.known = true)
    (h : r.stored = true → s.storeWriting = false) : (Form.fits r).serve s = r.work s := by
  have h' : ¬ (r.stored = true ∧ s.storeWriting = true) := fun ⟨a, b⟩ => by simp [h a] at b
  simp [Form.serve, hr, hk, h']

/-- A request that the port serves, and that no check holds up, does its work and is answered (R168). -/
theorem requestEvent_served (p : Port) (r : Request) (s : State) (h : s.takes p) (hk : r.known = true)
    (hw : r.stored = true → s.storeWriting = false) :
    requestEvent p r s = ((r.work (s.met p)).1.pushTx p (.served ⟨r.kind, (r.work (s.met p)).2⟩)).endEvent := by
  obtain ⟨ha, hr, ht⟩ := h
  rw [requestEvent, State.event, if_neg (by simp [ha]), complete_met]
  have := serve_work r (s.met p) (by simp [hr]) hk (by simpa [State.storeWriting] using hw)
  simp [State.meet, ht, this]

/-- A served reply stands among its port's frames at the end of the event (R169). -/
theorem reply_stands (t : State) (p : Port) (r : Reply) :
    TxFrame.served r ∈ ((t.pushTx p (.served r)).endEvent.port p).frames := by
  rw [endEvent_port]; apply served_startNext; simp [PortState.frames]

/-- A request that is served and whose work leaves the receivers, the cursors, and the attention but for `cs`, is
answered so. -/
theorem requestEvent_replied (p : Port) (r : Request) (s : State) (cs : List Category) (h : s.takes p)
    (hn : r.known = true) (hw : r.stored = true → s.storeWriting = false)
    (hk : ∀ q, ((r.work (s.met p)).1.port q).rx = ((s.met p).port q).rx ∧
      ((r.work (s.met p)).1.port q).cursor = ((s.met p).port q).cursor ∧
      ∀ n, n ∉ cs.map Category.number →
        ((r.work (s.met p)).1.port q).attn.getD n none = ((s.met p).port q).attn.getD n none) :
    s.replied (requestEvent p r s) p r.kind (r.work (s.met p)).2 cs := by
  rw [requestEvent_served p r s h hn hw]
  refine ⟨⟨reply_stands _ _ _, fun q => ⟨?_, fun n hn => ?_⟩⟩, fun q => ?_⟩ <;> have hq := hk q <;>
    by_cases e : q = p <;> simp_all

/-- A request whose work refuses it is answered with the refusal, and nothing else changes (R168). -/
theorem requestEvent_refused (p : Port) (r : Request) (s : State) (body : ReplyBody) (h : s.takes p)
    (hn : r.known = true) (hw : r.stored = true → s.storeWriting = false) (hr : r.work (s.met p) = (s.met p, body)) :
    s.replied (requestEvent p r s) p r.kind body [] ∧ s.onlyReplied (requestEvent p r s) p := by
  have h1 := requestEvent_replied p r s [] h hn hw (fun q => by simp [hr])
  rw [hr] at h1
  refine ⟨h1, ?_⟩
  rw [requestEvent_served p r s h hn hw, hr]
  cases p <;> rfl

/-- With a served reply unsent and no BUSY reply waiting, a request is answered BUSY unserved (R169). -/
theorem meet_busy (s : State) (p : Port) (kind : Byte) (f : Form) (h : (s.port p).tx.servedUnsent = true)
    (hb : (s.port p).tx.busyWaiting = false) : s.meet p kind f = s.pushTx p (.busy ⟨kind, .refused .busy⟩) := by
  simp [State.meet, h, hb]

/-- With both waiting, it is discarded with FRAME attention (R169). -/
theorem meet_discarded (s : State) (p : Port) (kind : Byte) (f : Form) (h : (s.port p).tx.servedUnsent = true)
    (hb : (s.port p).tx.busyWaiting = true) : s.meet p kind f = s.raiseAt p .frame 0 0 := by
  simp [State.meet, h, hb]

/-! ## Values on the wire (R171) -/

/-- A count in the form of a 16-bit value is its two low bytes. -/
theorem wordOf_natCast (n : Nat) : wordOf (n : Int) = natWord n := by
  simp only [wordOf, natWord, bytesLow, BitVec.ofInt_natCast, BitVec.toNat_ofNat, List.cons.injEq, and_true]
  constructor <;> (apply BitVec.eq_of_toNat_eq; simp only [BitVec.toNat_ofNat]; omega)

end Sys2Proof.Machine
end

