-- ==== Sys2Proof/Laws/Events.lean ====
section
/-! SUPPORT. Induction over what an event is made of: folds over numbered parts, the boiler's moves (R139), a grant
round (R118), and the settling that ends an event of the plant; what a grant needs (R117, R118); what a recomputation of the
flow setpoint does (R149, R163); and the store at a reset (R189). -/

namespace Sys2Proof.Machine

/-- What every step of a fold keeps, the fold keeps. -/
theorem foldl_induct {α : Type} (P : State → Prop) (f : State → α → State) (l : List α)
    (h : ∀ s a, a ∈ l → P s → P (f s a)) (s : State) (hs : P s) : P (l.foldl f s) := by
  induction l generalizing s with
  | nil => exact hs
  | cons a l ih =>
    exact ih (fun s b hb => h s b (List.mem_cons_of_mem a hb)) _ (h s a (List.mem_cons_self ..) hs)

/-- What every move of the boiler controller keeps, its moves within an event keep. -/
theorem boilerMoves_induct (P : State → Prop) (before : Nat → Nat)
    (h : ∀ s cue t, P s → s.boilerMove before cue = some t → P t) (fuel : Nat) (cue : Cue) (s : State) (hs : P s) :
    P (boilerMoves before fuel cue s) := by
  induction fuel generalizing cue s with
  | zero => exact hs
  | succ n ih =>
    simp only [boilerMoves]
    split
    · exact hs
    · next t ht => exact ih _ _ (h s cue t hs ht)

/-- What every grant keeps, a grant round keeps. -/
theorem grantRound_induct (P : State → Prop) (h : ∀ s e, P s → s.nextGrant = some e → P (s.grant e)) (s : State)
    (hs : P s) : P s.grantRound := by
  have : ∀ n (s : State), P s → P (grantRoundUpTo n s) := by
    intro n
    induction n with
    | zero => intro s hs; exact hs
    | succ n ih =>
      intro s hs
      simp only [grantRoundUpTo]
      split
      · exact hs
      · next e he => exact ih _ (h s e hs he)
  exact this _ s hs

/-- A grant is of an eligible entry of the queue, with a unit free (R117, R118). -/
theorem nextGrant_some (s : State) (e : Entry) (h : s.nextGrant = some e) :
    s.unitsInUse < s.cfg.boiler.motorAllowance ∧ e ∈ s.arbiter.queue ∧ s.eligible e = true := by
  unfold State.nextGrant at h
  split at h
  · next hu =>
    refine ⟨hu, ?_, List.find?_some h⟩
    have := List.mem_of_find?_eq_some h
    simp only [grantOrder, List.mem_append, List.mem_filter] at this
    rcases this with ((h | h) | h) | h <;> exact h.1
  · exact absurd h (by simp)

/-- An eligible entry's head takes its operation, with the link OK and the supply OK (R117). -/
theorem eligible_spec (s : State) (e : Entry) (h : s.eligible e = true) :
    s.link.fault = false ∧ s.field.supplyOk = true ∧ headTakes (s.head e.slot).state e.op = true ∧
      e.deferred = false ∧ s.gatedClosing e = false := by
  simp only [State.eligible, Bool.and_eq_true, Bool.not_eq_true'] at h
  exact ⟨h.1.1.1.1, h.1.1.1.2, h.1.1.2, h.1.2, h.2⟩

/-- What a table judged, the marks and every grant keep, entering a boiler state keeps, once it holds of the new record
(R118). -/
theorem enterState_induct (P : State → Prop) (b : Boiler) (s : State) (hj : ∀ s, P s → P s.judgeTable)
    (hr : ∀ s, P s → P s.remark) (hg : ∀ s e, P s → s.nextGrant = some e → P (s.grant e)) (hs : P (s.setBoiler b)) :
    P (s.enterState b) :=
  grantRound_induct P hg _ (hr _ (hj _ hs))

/-- What the moves of the boiler, the marks, every grant, the next transaction and the pump keep, settling keeps. -/
theorem settleWith_induct (P : State → Prop) (before : Nat → Nat) (cue : Cue) (s : State)
    (hb : ∀ s cue t, P s → s.boilerMove before cue = some t → P t) (hr : ∀ s, P s → P s.remark)
    (hg : ∀ s e, P s → s.nextGrant = some e → P (s.grant e)) (hn : ∀ s, P s → P s.nextTransaction)
    (hp : ∀ s, P s → P s.setPump) (hs : P s) : P (s.settleWith before cue) :=
  hp _ (hn _ (grantRound_induct P hg _ (hr _ (boilerMoves_induct P before hb _ _ _ hs))))

/-- An event of the plant outside an acting reset: its effect, then the settling, then the transmit lists. -/
theorem plantEvent_free (s : State) (f : State → State) (h : s.acting = none) :
    s.plantEvent f = ((f s).settle s).endEvent := by simp [State.plantEvent, h]

/-- While a WARM reset acts no event of the plant does anything (R104). -/
theorem plantEvent_acting (s : State) (f : State → State) (h : s.acting ≠ none) : s.plantEvent f = s := by
  have : s.acting.isSome = true := by simpa [Option.isSome_iff_ne_none] using h
  simp [State.plantEvent, this]

theorem event_free (s : State) (f : State → State) (h : s.acting = none) : s.event f = (f s).endEvent := by
  simp [State.event, h]

theorem event_acting (s : State) (f : State → State) (h : s.acting ≠ none) : s.event f = s := by
  have : s.acting.isSome = true := by simpa [Option.isSome_iff_ne_none] using h
  simp [State.event, this]

/-! ## Flow setpoint and ramp (R149, R163) -/

/-- A ramp handed over from the present output leaves the output; it runs unless the target is the output (R163). -/
theorem handRamp_present (s : State) (target : Nat) :
    s.handRamp s.field.output target = s.setField { s.field with
      ramp := if target = s.field.output then none
        else some { start := s.field.output, target, next := 1, timer := s.cfg.boiler.rampStep } } := by
  unfold State.handRamp
  split <;> simp_all

/-- All that a recomputation does: the record has the flow setpoint of the served set as it stands, and in FIRING a
changed modulation target hands over a ramp from the present output (R130, R149). -/
theorem recomputeFlow_eq (s : State) :
    s.recomputeFlow = s.withFlow.setField { s.field with
      ramp := if s.boiler.state = .firing ∧ s.withFlow.boiler.modulationTarget ≠ s.boiler.modulationTarget then
          if s.withFlow.boiler.modulationTarget = s.field.output then none
          else some { start := s.field.output, target := s.withFlow.boiler.modulationTarget, next := 1
                      timer := s.cfg.boiler.rampStep }
        else s.field.ramp } := by
  by_cases h : s.boiler.state = .firing ∧ s.withFlow.boiler.modulationTarget ≠ s.boiler.modulationTarget
  · rw [if_pos h]
    exact (if_pos h).trans (handRamp_present s.withFlow _)
  · rw [if_neg h]
    exact if_neg h

/-! ## The store at a reset (R189) -/

/-- A failing check value is not the right one. -/
theorem failingCheck_ne (right free : Nat) : failingCheck right free ≠ right := by
  unfold failingCheck
  split <;> omega

/-- Every value but the right one is a failing check value. -/
theorem failingCheck_surjective (right n : Nat) (h : n ≠ right) : ∃ free, failingCheck right free = n := by
  by_cases hlt : n < right
  · exact ⟨n, by simp [failingCheck, hlt]⟩
  · exact ⟨n - 1, by unfold failingCheck; split <;> omega⟩

@[simp] theorem cut_imageValid (x : Store) : x.cut.imageValid = false := rfl
@[simp] theorem cut_writing (x : Store) : x.cut.writing = none := rfl

/-- The check value of an image left part written fails. -/
theorem cut_check_ne (x : Store) : x.cut.check ≠ Config.checkValue x.cut.image := failingCheck_ne _ _

/-- A reset with no write in progress leaves the store as it is. -/
@[simp] theorem afterReset_idle (x : Store) (h : x.writing = none) : x.afterReset = x := by simp [Store.afterReset, h]

/-- A reset with a write in progress cuts it short. -/
@[simp] theorem afterReset_writing (x : Store) (h : x.writing ≠ none) : x.afterReset = x.cut := by
  simp [Store.afterReset, Option.isSome_iff_ne_none.mpr h]

@[simp] theorem afterReset_none (x : Store) : x.afterReset.writing = none := by
  by_cases h : x.writing = none <;> simp [h]

end Sys2Proof.Machine
end

