-- ==== Sys2Proof/Tests/Slice0.lean ====
section
/-! SUPPORT. Tests of the model's own: the checks of `Instr.wf`, the numbers of the manual's worked examples, one step of
the commands on small states, and for each statement states and operands that meet its hypotheses. -/

namespace Sys2Proof.Tests

open Sys2Proof Sys2Proof.Machine

section OneAfterTheOther

-- Kernel evaluations one at a time: many at once take a thread and its stack each.
set_option Elab.async false

/-! ## Well-formedness: each check refuses an ill-formed term -/

theorem test_wf_layerExpiry : (Instr.layerExpiry 0).wf = false ∧ (Instr.layerExpiry 18).wf = false := by decide
theorem test_wf_watchEnd : (Instr.watchEnd 0).wf = false ∧ (Instr.watchEnd 17).wf = false := by decide
theorem test_wf_stallRetry : (Instr.stallRetry 0).wf = false ∧ (Instr.stallRetry 33).wf = false := by decide
theorem test_wf_regulationPass : (Instr.regulationPass 0).wf = false ∧ (Instr.regulationPass 17).wf = false := by decide
theorem test_wf_goodReply :
    (Instr.goodReply 0 50 false false true none).wf = false ∧ (Instr.goodReply 33 50 false false true none).wf = false ∧
    (Instr.goodReply 1 101 false false true none).wf = false ∧
    (Instr.goodReply 1 50 false false true (some 32768)).wf = false := by decide
theorem test_wf_discardedReply :
    (Instr.discardedReply true 256 0).wf = false ∧ (Instr.discardedReply true 0 256).wf = false := by decide
theorem test_wf_moveTimeout : (Instr.moveTimeout 0).wf = false ∧ (Instr.moveTimeout 33).wf = false := by decide
theorem test_wf_inputs :
    (Instr.inputChange 5 true).wf = false ∧ (Instr.inputEstablished 0 true).wf = false ∧
    (Instr.inputSample 5 true).wf = false := by decide
theorem test_wf_frameDiscard :
    (Instr.frameDiscard .main (.badLength 1)).wf = false ∧ (Instr.frameDiscard .main (.badLength 200)).wf = false := by
  decide
theorem test_wf_clockSet :
    (Instr.clockSet .main 65536 0 0).wf = false ∧ (Instr.clockSet .main 0 256 0).wf = false ∧
    (Instr.clockSet .main 0 0 256).wf = false := by decide
theorem test_wf_channelSet :
    (Instr.channelSet .main 256 []).wf = false ∧ (Instr.channelSet .main 1 [(256, 0)]).wf = false ∧
    (Instr.channelSet .main 1 [(1, 65536)]).wf = false ∧ (Instr.channelSet .main 1 [(1, -32769)]).wf = false := by decide
theorem test_wf_channelGet : (Instr.channelGet .main 256).wf = false := by decide
theorem test_wf_roomTemp :
    (Instr.roomTemp .main 256 0).wf = false ∧ (Instr.roomTemp .main 1 32768).wf = false ∧
    (Instr.roomTemp .main 1 (-32769)).wf = false := by decide
theorem test_wf_layerPush :
    (Instr.layerPush .main 1 256 0 0).wf = false ∧ (Instr.layerPush .main 1 0 32768 0).wf = false ∧
    (Instr.layerPush .main 1 0 0 65536).wf = false := by decide
theorem test_wf_layerPop : (Instr.layerPop .main 256).wf = false := by decide
theorem test_wf_holdRelease :
    (Instr.holdRelease .main 256 0).wf = false ∧ (Instr.holdRelease .main 1 65536).wf = false := by decide
theorem test_wf_parking : (Instr.zonePark .main 256).wf = false ∧ (Instr.zoneUnpark .main 256).wf = false := by decide
theorem test_wf_valveSet :
    (Instr.valveSet .main 256 []).wf = false ∧ (Instr.valveSet .main 1 [(256, 0)]).wf = false := by decide
theorem test_wf_valves : (Instr.valveGet .main 256).wf = false ∧ (Instr.valveHome .main 256).wf = false := by decide
theorem test_wf_boilerSet : (Instr.boilerSet .main [(1, 65536)]).wf = false := by decide
theorem test_wf_inputSet :
    (Instr.inputSet .main 256 0 0 none none none).wf = false ∧ (Instr.inputSet .main 1 256 0 none none none).wf = false ∧
    (Instr.inputSet .main 1 0 256 none none none).wf = false ∧
    (Instr.inputSet .main 1 0 1 (some 256) none none).wf = false ∧
    (Instr.inputSet .main 1 2 4 (some 1) (some 32768) (some 1)).wf = false ∧
    (Instr.inputSet .main 1 2 4 (some 1) (some 0) (some 65536)).wf = false := by decide
theorem test_wf_inputGet :
    (Instr.inputGet .main (some 0) false).wf = false ∧ (Instr.inputGet .main (some 256) false).wf = false := by decide
theorem test_wf_attnMask : (Instr.attnMask .main [⟨256, false, 0⟩]).wf = false := by decide
theorem test_wf_tableRead : (Instr.tableRead .main 256).wf = false := by decide
theorem test_wf_tableWrite :
    (Instr.tableWrite .main 256 0 []).wf = false ∧ (Instr.tableWrite .main 1 256 []).wf = false ∧
    (Instr.tableWrite .main 1 0 [.point 256 0 0 0]).wf = false ∧
    (Instr.tableWrite .main 1 0 [.point 0 256 0 0]).wf = false ∧
    (Instr.tableWrite .main 1 0 [.point 0 0 256 0]).wf = false ∧
    (Instr.tableWrite .main 1 0 [.point 0 0 0 256]).wf = false ∧
    (Instr.tableWrite .main 2 0 [.entry 256 0]).wf = false ∧
    (Instr.tableWrite .main 2 0 [.entry 0 256]).wf = false := by decide

/-! ## The numbers of the manual's worked examples -/

/-- 01, a week's plan from a shared program: the run of program 3. -/
def upstairs : List SwitchPoint :=
  [⟨0x1F, .ab, 39, .comfort⟩, ⟨0x1F, .ab, 51, .setback⟩, ⟨0x1F, .a, 102, .comfort⟩, ⟨0x1F, .b, 111, .comfort⟩,
    ⟨0x7F, .ab, 135, .setback⟩, ⟨0x60, .ab, 48, .comfort⟩]

/-- Friday in parity B: SETBACK to slot 38, COMFORT 39 to 50, SETBACK 51 to 110, COMFORT 111 to 134, SETBACK from 135. -/
theorem test_plan_friday :
    (List.range 144).map (compileEntry upstairs .setback 4 .b) =
      List.replicate 39 .setback ++ List.replicate 12 .comfort ++ List.replicate 60 .setback
        ++ List.replicate 24 .comfort ++ List.replicate 9 .setback := by decide +kernel

/-- Saturday in parity B: SETBACK to plan slot 191, COMFORT 192 to 278, SETBACK from 279. -/
theorem test_plan_saturday :
    (List.range 144).map (compileEntry upstairs .setback 5 .b) =
      List.replicate 48 .setback ++ List.replicate 87 .comfort ++ List.replicate 9 .setback := by decide +kernel

/-- 01, a preheat and its learning: a lead of 120; the new rate 19; the next lead capped at 120. -/
theorem test_preheat : preheatLead 40 20 120 = 120 ∧ learnedRate 20 41 135 = 19 ∧ preheatLead 40 19 120 = 120 := by decide

/-- R54: the three proportional terms. R55: the two increments. R57: the clamp of an integrator at 30. -/
theorem test_pi_rules :
    piProportional (piError 210 60) 20 = 5000 ∧ piProportional (piError 210 213) 8 = -375 ∧
    piProportional (piError 210 213) 40 = -75 ∧ piIncrement 14 5 20 60 = 58 ∧ piIncrement (-1) 1 20 100 = -1 ∧
    piIntegrate 400 30 (-45) = 0 := by decide

/-- 03, two regulation passes and what follows: 208 and 908; at the limit 150 and 1000; deferred 208 and 558. -/
theorem test_pi_passes :
    piCompute .initial 210 196 150 false = (208, 908) ∧ piCompute .initial 210 180 150 false = (150, 1000) ∧
    piCompute .initial 210 203 208 true = (208, 558) := by decide

/-- 06, demand to position. -/
theorem test_demand_to_position :
    [908, 900, 880, 1000, 5, 0].map (regulatedTarget { ValveCfg.initial with liftMin := 10, liftMax := 90 }) =
      [83, 82, 80, 90, 10, 0] ∧
    [985, 1000].map (regulatedTarget .initial) = [99, 100] ∧
    needsMove 3 83 20 = true ∧ needsMove 3 82 83 = false ∧ needsMove 3 80 83 = true ∧ needsMove 3 10 12 = false ∧
    needsMove 3 0 12 = true ∧ needsMove 5 99 96 = false ∧ needsMove 5 100 96 = true := by decide

/-- 05, a move and a retarget: timers of 124 s and 48 s. -/
theorem test_move_timers :
    Move.seconds ⟨20, 83, true, none, 120⟩ .moving = 124 ∧ Move.seconds ⟨83, 62, true, none, 120⟩ .moving = 48 ∧
    Move.seconds ⟨50, 0, true, none, 120⟩ .homing = 190 := by decide

/-- 08, a ramp from 300 to 451. -/
theorem test_ramp :
    (numbers 16).map (rampValue 300 451) =
      [301, 305, 312, 322, 333, 346, 360, 375, 390, 404, 417, 428, 438, 445, 449, 451] := by decide

/-- R183's tables in 10.5: program 5 fails against program 3 grown to length 7; moved to 100 both pass. -/
theorem test_validation :
    invalidProgram (List.replicate 256 ⟨0x7F, .ab, 0, .eco⟩) [⟨0, 0⟩, ⟨0, 0⟩, ⟨40, 1⟩, ⟨0, 0⟩, ⟨40, 1⟩] = some 5 ∧
    invalidProgram (List.replicate 256 ⟨0x7F, .ab, 0, .eco⟩) [⟨0, 0⟩, ⟨0, 0⟩, ⟨40, 1⟩, ⟨0, 0⟩, ⟨41, 1⟩] = none ∧
    invalidProgram (List.replicate 256 ⟨0x7F, .ab, 0, .eco⟩) [⟨0, 2⟩] = some 1 ∧
    invalidProgram (List.replicate 256 .initial) [⟨0, 1⟩] = some 1 ∧
    invalidProgram (List.replicate 256 ⟨0x7F, .ab, 0, .eco⟩) [⟨255, 2⟩] = some 1 := by decide +kernel

/-! ## One step of the commands -/

/-- The state a command answers. -/
def after (c : Instr) (s : State) : State :=
  match exec c s with
  | .next t => t
  | .fault _ => s
  | .refused _ => s

/-- What port `p` has answered. -/
def answer (t : State) (p : Port) : Option ReplyBody :=
  (t.port p).frames.findSome? fun
    | .served r => some r.body
    | _ => none

/-- A port that has answered a request this way, with nothing to report. -/
def doneNothing : Option ReplyBody := some (.done {} [])

/-- The state after reset with a setting of its own in slot `v`. -/
def withValve (v : Nat) (role : Role) (h : Head) : State :=
  (State.reset.setValveCfg v { ValveCfg.initial with role, weight := 40 }).setHead v h

/-- A calibrated head that stands READY at 83. -/
def readyHead : Head := { Head.initial with state := .ready, position := 83, calibrated := true }

/-- The same head on a move to 0 that it has accepted, its timer run out. -/
def movingHead : Head := { readyHead with state := .moving, move := some ⟨83, 0, true, some 0, 120⟩ }

/-- Supply OK and one consumer's slot READY. -/
def plant : State :=
  (withValve 1 (.zone 1 true) readyHead).setField { FieldIO.initial with supplyOk := true, supplyLast := some 240 }

/-- The boiler in FIRING with Z1 served and the flow sensor valid. -/
def firing : State :=
  let s := plant
  let s := s.setZone 1 { s.zone 1 with demandCall := true, demand := 1000 }
  let s := s.setBoiler { s.boiler with state := .firing }
  let s := s.setField { s.field with
    burner := true, pump := true, output := 71, flow := { value := some 500, valid := true, sampled := true, due := false } }
  let s := s.setTable
    { s.table with entries := setItem s.table.entries 1 { requesting := true, level := 2, deferred := false, heatAvailable := true },
                   servedLevel := 2 }
  s.setArbiter { s.arbiter with wanted := setItem s.arbiter.wanted 1 (some ⟨83, .normal⟩) }

/-- Zone 1 with a fresh reading of 150 and its pass due. -/
def passing : State :=
  let s := State.reset
  s.setZone 1 { s.zone 1 with reading := some ⟨150, 0⟩, integrator := 150, passDue := true }

/-- Zone 4 with a stack, bottom first. -/
def stacked (ls : List Layer) : State := State.reset.setStack 4 ls

/-- The state after reset with a claim of the main port. -/
def claimed : State :=
  { State.reset with claim := some ⟨.main, 60, State.reset.cfg.pool, State.reset.cfg.programs⟩ }

/-- The samples of the three sensors are due. -/
def sampled (s : State) : State := after .secondTick s

theorem test_coldReset : after .coldReset State.reset = State.reset := by decide +kernel
theorem test_warmResetComplete :
    (after .warmResetComplete { State.reset with acting := some [], clock := { State.reset.clock with minuteOfWeek := 77 } }).clock
      = { State.reset.clock with minuteOfWeek := 77 } := by decide +kernel
theorem test_warmResetStopEnd :
    (after .warmResetStopEnd { State.reset with acting := some [3], link := { State.reset.link with transaction := some ⟨1, .stop⟩ } }).link.transaction
      = some ⟨3, .stop⟩ := by decide +kernel
theorem test_secondTick : (after .secondTick State.reset).clock.tickCount = 1 ∧
    (after .secondTick State.reset).field.flow.due = true := by decide +kernel
theorem test_wallMinute_rollover :
    (after .wallMinute { State.reset with clock := { State.reset.clock with minuteOfWeek := 10079, wallDue := true } }).clock
      = { State.reset.clock with parity := .b } := by decide +kernel
theorem test_elapsedMinute_wraps :
    (after .elapsedMinute { State.reset with clock := { State.reset.clock with elapsed := 0xFFFFFFFF, elapsedDue := true } }).clock
      = State.reset.clock := by decide +kernel
theorem test_layerExpiry :
    ((after (.layerExpiry 4) (stacked [⟨.timed, some 240, some 0, .input⟩, ⟨.hold, some 280, none, .service⟩])).channel 4).stack
      = [⟨.hold, some 280, none, .service⟩] := by decide +kernel
theorem test_regulationPass :
    ((after (.regulationPass 1) passing).zone 1).demandCall = true ∧
    ((after (.regulationPass 1) passing).zone 1).demand = 692 ∧
    (after (.regulationPass 1) passing).boiler.state = .rest := by decide +kernel
theorem test_goodReply_completes :
    (((after (.goodReply 1 0 false false true (some 210))
        (plant.setHead 1 movingHead |>.setLink { plant.link with transaction := some ⟨1, .poll⟩ })).head 1).state
      = .ready) ∧
    (after (.goodReply 1 0 false false true (some 210))
        (plant.setHead 1 movingHead |>.setLink { plant.link with transaction := some ⟨1, .poll⟩ })).link.cursor = 1 := by
  decide +kernel
theorem test_discardedReply : exec (.discardedReply false 1 50) plant = .next plant := rfl
theorem test_miss_third :
    ((after .miss (plant.setHead 1 { readyHead with misses := 2 } |>.setLink { plant.link with transaction := some ⟨1, .poll⟩ })).head 1)
      = { readyHead with state := .absent } := by decide +kernel
theorem test_moveTimeout :
    ((after (.moveTimeout 1) (plant.setHead 1 movingHead)).head 1) =
      { readyHead with state := .stalled, retryDue := some 60 } ∧
    (after (.moveTimeout 1) (plant.setHead 1 movingHead)).link.transaction = some ⟨1, .stop⟩ := by decide +kernel
theorem test_stallRetry :
    ((after (.stallRetry 1) (plant.setHead 1 { readyHead with state := .stalled, retryDue := some 0 })).head 1).retries = 1 ∧
    ((after (.stallRetry 1) (plant.setHead 1 { readyHead with state := .stalled, retryDue := some 0 })).head 1).state
      = .homing := by decide +kernel
theorem test_linkFault :
    (after .linkFault (plant.setHead 1 movingHead)).link.fault = true ∧
    ((after .linkFault (plant.setHead 1 movingHead)).head 1).state = .unknown := by decide +kernel
theorem test_supply :
    (after (.supplyMeasurement 189) plant).field.supplyOk = false ∧
    (after (.supplyMeasurement 190) plant).field.supplyOk = true ∧
    (after (.supplyQualified 206) (plant.setField { plant.field with supplyOk := false, supplyQual := 99 })).field.supplyOk
      = true := by decide +kernel
theorem test_sensorSample :
    (after (.sensorSample .outdoor 1250) (after .secondTick State.reset)).field.outdoor =
      { value := some 1250, valid := true, sampled := true, due := false } ∧
    (after (.sensorSample .outdoor 1251) (after .secondTick State.reset)).field.outdoor =
      { value := none, valid := false, sampled := true, due := false } := by decide +kernel
theorem test_overheat_opens_sinks :
    ((after (.sensorSample .flow 850)
        (sampled ((withValve 1 .sink { readyHead with position := 97 }).setArbiter { plant.arbiter with sinkOpen := true }))).queued 1)
      = [⟨1, .drive, 100, .safety, 1, false⟩] := by decide +kernel
theorem test_overheat :
    (after (.sensorSample .flow 850) (firing.setField { firing.field with flow := { firing.field.flow with due := true } })).boiler.state
      = .overrun ∧
    (after (.sensorSample .flow 849) (firing.setField { firing.field with flow := { firing.field.flow with due := true } })).boiler.state
      = .firing := by decide +kernel
theorem test_inputSample_bounce :
    (after (.inputSample 2 true) (after (.inputSample 2 true) State.reset)).inputRec 2 = ⟨some true, some true, 0⟩ := by
  decide +kernel
theorem test_rampStep :
    (after .rampStep (firing.setField { firing.field with ramp := some ⟨300, 451, 16, 0⟩ })).field.output = 451 ∧
    (after .rampStep (firing.setField { firing.field with ramp := some ⟨300, 451, 16, 0⟩ })).field.ramp = none := by
  decide +kernel
theorem test_storeWriteEnd :
    (after .storeWriteEnd { State.reset with store := { State.reset.store with writing := some .defaults } }).store =
      ⟨.defaults, Config.checkValue .defaults, true, none, 0⟩ := by rfl
theorem test_editClaimLapse :
    (after .editClaimLapse { claimed with claim := claimed.claim.map fun c => { c with lapse := 0 } }).claim = none := by
  decide +kernel
theorem test_frameBytes_ident :
    answer (((frameBytes 0x63 []).map (Instr.byteArrival .main)).foldl (fun s c => after c s) State.reset) .main =
      answer (after (.ident .main) State.reset) .main := by rfl
theorem test_frame_wrong_check :
    ((([0xC3, 0x01, 0x63, 0x00] : List Byte).map (Instr.byteArrival .main)).foldl (fun s c => after c s) State.reset).main.attn.getD 15 none
      = some ⟨0, 0, true⟩ := by decide +kernel
theorem test_unknownKind : answer (after (.unknownKind .main 0x7E) State.reset) .main = some (.refused .unknownKind) := by
  decide +kernel
theorem test_clockSet :
    (after (.clockSet .main 6565 30 1) State.reset).clock =
      { State.reset.clock with minuteOfWeek := 6565, wallSeconds := 30, parity := .b, clockSet := true } ∧
    answer (after (.clockSet .main 10080 0 0) State.reset) .main = some (.refused .range) := by decide +kernel
theorem test_clockGet :
    answer (after (.clockGet .service) State.reset) .service = some (.done {} [0, 0, 0, 0, 0, 0, 0, 0, 0]) := by decide +kernel
theorem test_channelSet :
    ((after (.channelSet .main 4 [(9, 220), (22, 3)]) State.reset).channelCfg 4) =
      { ChannelCfg.zoneDefault with comfort := 220, priority := 3 } ∧
    answer (after (.channelSet .main 4 [(9, 220), (9, 221)]) State.reset) .main = some (.refused .range) := by decide +kernel
theorem test_roomTemp :
    ((after (.roomTemp .main 1 196) State.reset).zone 1).reading = some ⟨196, 0⟩ ∧
    answer (after (.roomTemp .main 1 1251) State.reset) .main = some (.done { rejected := true } []) := by decide +kernel
theorem test_layerPush :
    ((after (.layerPush .service 8 2 300 0) (stacked [⟨.timed, some 230, some 80, .main⟩])).channel 4).stack =
      [⟨.timed, some 230, some 80, .main⟩, ⟨.hold, some 280, none, .service⟩] ∧
    ((after (.layerPush .main 8 1 200 0) (stacked [⟨.window, none, some 15, .detect⟩])).channel 4).stack =
      [⟨.untilNext, some 200, none, .main⟩, ⟨.window, none, some 15, .detect⟩] := by decide +kernel
theorem test_layerPop :
    answer (after (.layerPop .main 4) (stacked [⟨.hold, some 280, none, .service⟩])) .main =
      some (.done {} [2, 1, 24, 1, 0, 1]) ∧
    answer (after (.layerPop .main 4) State.reset) .main = some (.refused .state) := by decide +kernel
theorem test_layerClear :
    ((after (.layerClear .main 8) (stacked [⟨.hold, some 280, none, .service⟩])).channel 4).stack = [] := by decide +kernel
theorem test_holdRelease :
    ((after (.holdRelease .main 4 10) (stacked [⟨.hold, some 280, none, .service⟩, ⟨.untilNext, some 200, none, .main⟩])).channel 4).stack
      = [⟨.timed, some 280, some 10, .service⟩, ⟨.untilNext, some 200, none, .main⟩] := by decide +kernel
theorem test_park_and_unpark :
    answer (after (.zonePark .main 4) State.reset) .main = some (.done {} [1]) ∧
    ((after (.zonePark .main 4) State.reset).channelCfg 4).priority = 1 ∧
    (after (.zoneUnpark .service 4) (after (.zonePark .main 4) State.reset)).cfg = State.reset.cfg := by decide +kernel
theorem test_valveSet :
    (after (.valveSet .main 1 [(1, 1), (2, 3), (4, 40)]) State.reset).valveCfg 1 =
      { ValveCfg.initial with role := .zone 3 false, weight := 40 } ∧
    answer (after (.valveSet .main 1 [(1, 1)]) State.reset) .main = some (.refused .range) := by decide +kernel
theorem test_valveHome :
    ((after (.valveHome .main 1) plant).head 1).state = .homing ∧
    answer (after (.valveHome .main 2) plant) .main = some (.refused .state) := by decide +kernel
theorem test_linkClear :
    (after (.linkClear .main) (after .linkFault plant)).link.fault = false ∧
    answer (after (.linkClear .main) plant) .main = some (.refused .state) := by decide +kernel
theorem test_boilerSet :
    (after (.boilerSet .main [(14, 100)]) firing).boiler.state = .overrun ∧
    answer (after (.boilerSet .main [(12, 400), (13, 399)]) firing) .main = some (.refused .range) := by decide +kernel
theorem test_boilerGet :
    BoilerCfg.initial.bytes.drop 20 = [30, 2, 18, 8] ∧ BoilerCfg.initial.bytes <:+ State.reset.boilerRecordBytes ∧
    answer (after (.boilerGet .main) State.reset) .main = some (.done {}
      (State.reset.boilerRecordBytes ++ State.reset.capacityBytes ++ State.reset.arbiterBytes)) := by decide +kernel
theorem test_inputSet :
    (after (.inputSet .main 2 0 1 (some 4) none none) State.reset).inputCfg 2 = ⟨.high, .window 4⟩ ∧
    answer (after (.inputSet .main 2 2 1 (some 4) none none) State.reset) .main = some (.refused .range) := by decide +kernel
theorem test_attnGet :
    answer (after (.attnGet .main) State.reset) .main = some (.done {} [0, 1, 1, 1, 14, 1, 2]) ∧
    (after (.attnGet .main) State.reset).main.attn = List.replicate 16 none := by decide +kernel
theorem test_attnMask :
    (after (.attnMask .main [⟨15, true, 0⟩]) State.reset).cfg.masksMain = List.replicate 15 ⟨false, 0⟩ ++ [⟨true, 0⟩] := by
  decide +kernel
theorem test_edit :
    ((after (.editClaim .service) State.reset).claim.map (·.holder)) = some .service ∧
    answer (after (.editClaim .service) claimed) .service = some (.refused .claimed) ∧
    (after (.editDrop .main) claimed).claim = none ∧ (after (.editCommit .main) claimed).claim = none := by decide +kernel
theorem test_tableRead :
    (after (.tableRead .main 2) State.reset).main.cursor = some ⟨2, 16⟩ ∧
    answer (after (.tableRead .main 66) { State.reset with main := { State.reset.main with cursor := some ⟨2, 16⟩ } }) .main =
      some (.done { ended := true } ((List.range 8).flatMap fun i => [BitVec.ofNat 8 (16 + i), 0, 0])) := by decide +kernel
theorem test_tableWrite :
    ((after (.tableWrite .main 2 23 [.entry 100 7]) claimed).claim.map (·.programs)) =
      some (List.replicate 23 .initial ++ [⟨100, 7⟩]) ∧
    answer (after (.tableWrite .main 2 24 [.entry 100 7]) claimed) .main = some (.refused .range) := by decide +kernel
theorem test_store :
    (after (.storeSave .main) State.reset).store.writing = some .defaults ∧
    (after (.storeErase .main) State.reset).store.imageValid = false := by decide +kernel
/-- Zone 3 in EARLY a second tick before its rise at 06:30 on a Monday, the elapsed counter at 1389 (01, a preheat and its
learning). -/
def morning59 : State :=
  let s := State.reset.setPreheat 3 (.early ⟨.comfort, 390, 1270, 170, false, false⟩)
  { s with clock := { s.clock with minuteOfWeek := 389, wallSeconds := 59, elapsed := 1389 } }

theorem test_unknownCode_before_busy :
    answer (after (.valveSet .main 1 [(9, 0)]) (after (.storeSave .service) State.reset)) .main = some (.refused .range) ∧
    answer (after (.valveSet .main 1 [(4, 0)]) (after (.storeSave .service) State.reset)) .main = some (.refused .busy) := by
  decide +kernel
theorem test_minutes_in_order :
    ((after .secondTick { morning59 with clock := { morning59.clock with wallDue := true, elapsedDue := true } }).zone 3).preheat
      = .watch ⟨.comfort, 390, 1270, 170, false, false⟩ 1390 := by decide +kernel
theorem test_restart :
    (after (.restart .main) State.reset).restartPending = true ∧
    answer (after (.clockGet .service) (after (.restart .main) State.reset)) .service = some (.refused .busy) := by
  decide +kernel
theorem test_minOn_and_minOff :
    (after .minOnElapsed (firing.setBoiler { firing.boiler with minOnHold := true, fireMark := 0xFFFFFFFD })).boiler.state
      = .overrun ∧
    (after .minOffElapsed (State.reset.setBoiler { State.reset.boiler with restMark := 0xFFFFFFFB })).boiler.state = .idle := by
  decide +kernel

/-! ## States and operands that meet the statements' hypotheses, clause by clause -/

/-- `State.shaped`, computed. -/
def shapedB (s : State) : Bool :=
  s.cfg.shaped && (!s.store.imageValid || s.store.image.shaped) && s.store.writing.all Stored.shaped
    && s.claim.all (fun c => c.pool.length == 256 && c.programs.length == 24)
    && s.channels.length == 17 && s.channels.all (·.plan.length == 288)
    && s.zones.length == 16 && s.table.entries.length == 17 && s.heads.length == 32 && s.arbiter.wanted.length == 32
    && s.field.inputs.length == 4 && s.main.attn.length == 16 && s.service.attn.length == 16

theorem shaped_of (s : State) (h : shapedB s = true) : s.shaped := by
  simp only [shapedB, Bool.and_eq_true, beq_iff_eq, List.all_eq_true] at h
  obtain ⟨⟨⟨⟨⟨⟨⟨⟨⟨⟨⟨⟨h1, h2⟩, h3⟩, h4⟩, h5⟩, h6⟩, h7⟩, h8⟩, h9⟩, h10⟩, h11⟩, h12⟩, h13⟩ := h
  refine ⟨h1, fun hv => by simpa [hv] using h2, h3, ?_, h5, h6, h7, h8, h9, h10, h11, fun p => by cases p <;> assumption⟩
  cases hc : s.claim with
  | none => rfl
  | some c => rw [hc] at h4; exact h4

/-- `State.queueOk`, computed. -/
def queueB (s : State) : Bool :=
  decide (s.arbiter.queue.map (·.slot)).Nodup
    && s.arbiter.queue.all (fun e => s.used e.slot && (s.head e.slot).state != .absent && (e.op != .home || e.target == 0))
    && s.arbiter.wanted.length == 32 && (List.range 33).all fun v => s.used v || (s.wantedOf v).isNone

theorem item_beyond {α : Type} (l : List α) (v : Nat) (d : α) (h : l.length < v) : item l v d = d := by
  cases v with
  | zero => rfl
  | succ k =>
    show l.getD k d = d
    rw [List.getD_eq_getElem?_getD, List.getElem?_eq_none (by omega)]
    rfl

theorem queueOk_of (s : State) (h : queueB s = true) : s.queueOk := by
  simp only [queueB, Bool.and_eq_true, decide_eq_true_eq, beq_iff_eq, List.all_eq_true, List.mem_range] at h
  obtain ⟨⟨⟨h1, h2⟩, h3⟩, h4⟩ := h
  refine ⟨h1, fun e he => ?_, fun v hv => ?_⟩
  · have := h2 e he
    simp only [bne_iff_ne, ne_eq, Bool.or_eq_true, beq_iff_eq] at this
    exact ⟨this.1.1, this.1.2, fun ho => this.2.resolve_left (fun hn => hn ho)⟩
  · by_cases hlt : v < 33
    · have := h4 v hlt
      simpa [hv] using this
    · exact item_beyond _ _ _ (by rw [h3]; omega)

/-- The state after reset serves requests on both ports, with no store write in progress. -/
theorem witness_request (p : Port) : State.reset.takes p ∧ State.reset.storeWriting = false ∧ State.reset.shaped := by
  refine ⟨?_, by decide +kernel, shaped_of _ (by decide +kernel)⟩
  cases p <;> decide +kernel

theorem witness_StepTakesTheFrontCommand : State.reset.pending = [] := by decide +kernel

/-- A WARM reset acts. -/
def acting (slots : List Nat) (t : Option Transaction) : State :=
  { State.reset with acting := some slots, link := { State.reset.link with transaction := t } }

theorem witness_CommandsAnswerAndAnActingResetHoldsThem :
    (acting [] none).acting ≠ none ∧ Instr.wallMinute ≠ .coldReset ∧ Instr.wallMinute ≠ .warmResetComplete ∧
    Instr.wallMinute ≠ .warmResetStopEnd ∧ Instr.wallMinute ≠ .secondTick := by decide +kernel

theorem witness_WarmResetCompletesKeepingTheClock :
    ((acting [] none).acting = some [] ∧ (acting [] none).link.transaction = none) ∧
    ((acting [3] none).acting ≠ some [] ∨ (acting [3] none).link.transaction ≠ none) ∧
    ((acting [] (some ⟨3, .stop⟩)).acting ≠ some [] ∨ (acting [] (some ⟨3, .stop⟩)).link.transaction ≠ none) := by
  decide +kernel

/-- The last byte of the RESTART's reply is about to go out. -/
def restarting (fault : Bool) : State :=
  { plant with
    restartPending := true
    main := { plant.main with tx := { sending := some (.served ⟨0x62, .done {} []⟩), queue := [.notice none] } }
    link := { plant.link with fault } }

theorem witness_WarmResetActsAndSendsItsStops :
    (∀ b, ((restarting b).port .main).tx.sending = some (.served ⟨0x62, .done {} []⟩) ∧
      (TxFrame.served ⟨0x62, .done {} []⟩).isRestartDone = true ∧ (restarting b).restartPending = true ∧
      (restarting b).acting = none ∧ (restarting b).link.fault = b) ∧
    ((acting [5] (some ⟨2, .stop⟩)).link.transaction ≠ none ∧ (acting [5] (some ⟨2, .stop⟩)).acting = some (5 :: [])) ∧
    (acting [] (some ⟨2, .stop⟩)).link.transaction ≠ none ∧ (acting [] (some ⟨2, .stop⟩)).acting = some [] := by
  decide +kernel

/-- A reset that finds a write in progress, and one that finds none. -/
theorem witness_ColdResetStartsEveryBlock :
    { plant with store := { plant.store with writing := some .defaults } }.store.writing ≠ none ∧
    plant.store.writing = none := by decide +kernel

/-- A write cut by a COLD reset leaves the image INVALID, with no write in progress. -/
theorem test_coldReset_cuts_the_write :
    let t := after .coldReset { plant with store := ⟨.defaults, 0, true, some .defaults, 0⟩ }
    t.store.imageValid = false ∧ t.store.writing = none ∧ t.store.cuts = 1 ∧ t.cfg = .defaults := by decide +kernel

theorem witness_SecondTickCountsEveryTimer :
    (State.reset.acting = none ∧ State.reset.clock.wallDue = false ∧ State.reset.clock.elapsedDue = false) ∧
    (acting [] none).acting ≠ none := by decide +kernel

/-- A wall minute is due at this minute of the week. -/
def minuteDue (minute : Nat) : State :=
  { State.reset with clock := { State.reset.clock with minuteOfWeek := minute, wallSeconds := 59, wallDue := true,
                                                       elapsedDue := true } }

/-- Off a slot boundary; at one; at the midnight of the Monday rollover; at the exercise slot's begin. -/
theorem witness_WallMinuteMovesTheWeek :
    (∀ m ∈ [0, 9, 10079, 179], (minuteDue m).acting = none ∧ (minuteDue m).clock.wallDue = true ∧
      shapedB (minuteDue m) = true) ∧
    (minuteDue 0).clock.wallMinute.minuteOfDay % 10 ≠ 0 ∧ (minuteDue 9).clock.wallMinute.minuteOfDay % 10 = 0 ∧
    (minuteDue 10079).clock.wallMinute.minuteOfDay = 0 ∧
    (minuteDue 179).clock.wallMinute.slot = (minuteDue 179).cfg.boiler.exerciseSlot := by decide +kernel

/-- A head READY that has not moved for 10 080 minutes, and the wall minute that begins the exercise slot. -/
def exercising : State :=
  { plant with clock := { plant.clock with minuteOfWeek := 179, wallSeconds := 59, wallDue := true, elapsed := 10080 } }

theorem witness_WallMinuteMovesTheWeek_exercise :
    (exercising.acting = none ∧ exercising.clock.wallDue = true ∧ shapedB exercising = true ∧ exercising.boilerStays) ∧
    exercising.clock.wallMinute.minuteOfDay = 10 * exercising.cfg.boiler.exerciseSlot ∧
    exercising.arbiter.arrivals ≤ 4294967295 ∧
    (slotNumbers.filter fun v => exercising.used v && (exercising.head v).state == .ready && (exercising.queued v).isEmpty &&
      decide (10080 ≤ (exercising.clock.elapsed - (exercising.head v).lastMoved).toNat)) = [1] := by decide +kernel

theorem witness_ElapsedMinuteCountsLayersAndPasses :
    (minuteDue 0).acting = none ∧ (minuteDue 0).clock.elapsedDue = true ∧ (minuteDue 0).shaped :=
  ⟨by decide +kernel, by decide +kernel, shaped_of _ (by decide +kernel)⟩

/-- A preheat with target COMFORT begun at minute 0 with reading 170. -/
def run : PreheatRun := ⟨.comfort, 390, 0, 170, false, false⟩

/-- A WATCH of zone 3 whose rise was at minute 0, now that the counter stands at `now`. -/
def watching (now : Elapsed) : State :=
  { State.reset.setPreheat 3 (.watch run 0) with clock := { State.reset.clock with elapsed := now } }

/-- A WATCH that ends leaves target, rise and start in the record, both flags clear (R16, R20, log 35). -/
theorem test_watch_end :
    ((after (.watchEnd 3) (watching 60)).zone 3).preheat = .idle run := by decide +kernel

theorem witness_ExpiredLayersAndWatchesEnd :
    (stacked [⟨.timed, some 240, some 0, .input⟩]).acting = none ∧
    (watching 60).acting = none ∧ ((watching 60).zone 3).preheat = .watch run 0 ∧
    60 ≤ ((watching 60).clock.elapsed - 0).toNat := by decide +kernel

/-- A Monday point at slot 36: at slot 36 it acts, at slot 35 the Monday a week before does. -/
theorem witness_PlanEntryTakesTheLatestPoint :
    (∃ p ∈ [(⟨1, .ab, 36, .comfort⟩ : SwitchPoint)], p.acts 0 .a = true ∧ p.slot ≤ 36) ∧
    (∀ p ∈ [(⟨1, .ab, 36, .comfort⟩ : SwitchPoint)], p.slot ≤ 143) ∧
    (∀ p ∈ [(⟨1, .ab, 36, .comfort⟩ : SwitchPoint)], p.acts 0 .a = true → 35 < p.slot) ∧
    (∀ j < 6, ∀ p ∈ [(⟨1, .ab, 36, .comfort⟩ : SwitchPoint)],
      p.acts (daysBack (j + 1) 0 .a).1 (daysBack (j + 1) 0 .a).2 = false) ∧
    (⟨1, .ab, 36, .comfort⟩ : SwitchPoint).acts (daysBack 7 0 .a).1 (daysBack 7 0 .a).2 = true ∧
    (∀ j < 14, ∀ p ∈ [(⟨0, .ab, 36, .comfort⟩ : SwitchPoint)],
      p.acts (daysBack (j + 1) 0 .a).1 (daysBack (j + 1) 0 .a).2 = false) ∧
    (∃ p ∈ [(⟨1, .ab, 36, .comfort⟩ : SwitchPoint)], p.days ≠ 0) ∧ 6 < 7 := by decide +kernel

/-- The last minute and second, parity B; and each value one above its range. Beside `witness_request`. -/
theorem witness_ClockSetRecompilesAndAbandons :
    (10079 ≤ 10079 ∧ 59 ≤ 59 ∧ Parity.ofCode 1 = some .b) ∧ 10079 < 10080 ∧ 59 < 60 ∧ 1 < 2 := by decide

/-- Zones 1 to 4 parked, as far as `n`. -/
def parkedTo (n : Nat) : State :=
  State.reset.setParks ((numbers n).map (fun k => some ⟨k, [⟨.hold, some 200, none, .main⟩], 400, 25, 2⟩)
    ++ List.replicate (4 - n) none)

/-- A zone's fields at the ends of their ranges, W's differential, and a parked zone whose rate stays. -/
theorem witness_ChannelSetWritesTheDraft :
    ((State.reset.channelDraft 16 [(4, 60), (22, 3), (14, 32), (1, 24)]).isSome = true ∧ State.reset.parked 16 = false) ∧
    ((State.reset.channelDraft 17 [(23, 20)]).isSome = true ∧ State.reset.parked 17 = false) ∧
    (after (.zonePark .main 1) State.reset).parked 1 = true ∧
    ((after (.zonePark .main 1) State.reset).channelDraft 1 [(9, 215)]).all
      (fun d => d.zone.rate == 20 && d.channel.priority == 1) = true := by decide +kernel

/-- Settings listed at both ends of their ranges, levels at frost and at limit, of a zone and of W; a parked zone. -/
theorem witness_ChannelSetWritesTheDraft_accepted :
    (∀ fields ∈ [[(4, 60), (22, 3), (14, 32), (1, 24), (18, 10), (6, 120), (10, 150), (7, 120), (8, 150), (9, 150)],
        [((18 : Nat), (0 : Int)), (20, 0), (21, 0), (2, 0), (3, 0)]],
      (fields.map (·.1)).Nodup ∧ (∀ f ∈ fields, f.1 = 18 → f.2 = 0 ∨ 10 ≤ f.2) ∧ State.reset.parked 16 = false ∧
      listsInRange (channelRanges false ++
        [7, 8, 9].map (·, listed fields 6 (State.reset.channelCfg 16).frost, listed fields 10 (State.reset.channelCfg 16).limit))
        fields ∧
      (∀ x ∈ [listed fields 7 (State.reset.channelCfg 16).setback, listed fields 8 (State.reset.channelCfg 16).eco,
          listed fields 9 (State.reset.channelCfg 16).comfort],
        listed fields 6 (State.reset.channelCfg 16).frost ≤ x ∧ x ≤ listed fields 10 (State.reset.channelCfg 16).limit) ∧
      listed fields 21 (State.reset.zoneCfg 16).releaseAt ≤ listed fields 20 (State.reset.zoneCfg 16).requestAt) ∧
    (∀ f ∈ [((23 : Nat), (200 : Int)), (22, 0), (6, 50)], ∃ r ∈ channelRanges true, r.1 = f.1 ∧ r.2.1 ≤ f.2 ∧ f.2 ≤ r.2.2) ∧
    ((parkedTo 1).parked 1 = true ∧ listed [(9, 215)] 4 ((parkedTo 1).zoneCfg 1).rate = ((parkedTo 1).zoneCfg 1).rate) ∧
    State.reset.table = State.reset.table.judged State.reset.boiler.state.warm := by decide +kernel

/-- One value above and one below its range, for each of the four lists. Beside `witness_request`. -/
theorem witness_ValuesOutsideTheirRangesAreRefused :
    ((4, 61) ∈ ([(4, 61)] : List (Nat × Int)) ∧ ((61 : Int) < 5 ∨ (60 : Int) < 61) ∧ (3, -1) ∈ ([(3, -1)] : List (Nat × Int)) ∧
      ((-1 : Int) < 0 ∨ (1 : Int) < -1)) ∧
    ((23, 19) ∈ ([(23, 19)] : List (Nat × Int)) ∧ ((19 : Int) < 20 ∨ (200 : Int) < 19)) ∧
    ((8, 301) ∈ ([(8, 301)] : List (Nat × Int)) ∧ ((301 : Int) < 30 ∨ (300 : Int) < 301)) ∧
    (15, 5) ∈ ([(15, 5)] : List (Nat × Int)) ∧ ((5 : Int) < 1 ∨ (4 : Int) < 5) := by decide

/-- Each relation one step beyond its edge, by a listed value against one that is held; codes beside the kinds' own. Beside
`witness_request`. -/
theorem witness_ValuesOutsideTheirRangesAreRefused_relations :
    (listed [(7, 69)] 7 160 < listed [(7, 69)] 6 70 ∧ listed [(10, 209)] 10 280 < listed [(10, 209)] 9 210) ∧
    ¬ (([(9, 210), (9, 211)] : List (Nat × Int)).map (·.1)).Nodup ∧
    ((after (.zonePark .service 1) State.reset).parked 1 = true ∧ (after (.zonePark .service 1) State.reset).takes .main ∧
      ((after (.zonePark .service 1) State.reset).channelDraft 1 [(4, 21)]).any (·.zone.rate != 20) = true) ∧
    listed [(21, 51)] 20 50 < listed [(21, 51)] 21 20 ∧ (∃ f ∈ ([(18, 9)] : List (Nat × Int)), f.1 = 18 ∧ 1 ≤ f.2 ∧ f.2 ≤ 9) ∧
    listed [(5, 100)] 6 100 ≤ listed [(5, 100)] 5 0 ∧
    (listed [(3, 1)] 1 0 ≠ 1 ∧ ∃ f ∈ ([(3, 1)] : List (Nat × Int)), f.1 = 2 ∨ f.1 = 3) ∧
    (listed [(1, 1)] 1 0 = 1 ∧ ∀ f ∈ ([(1, 1)] : List (Nat × Int)), f.1 ≠ 2) ∧
    listed [(9, 300), (7, 300)] 7 700 ≤ listed [(9, 300), (7, 300)] 9 250 ∧
    listed [(13, 400)] 13 750 < listed [(12, 401)] 12 250 ∧ 17 < 18 ∧ 32 < 33 ∧ 23 < 24 ∧ 8 < 9 := by decide +kernel

/-- Zone 1 takes its readings from head 1. -/
def headRead : State := plant.setZoneCfg 1 { ZoneCfg.initial with source := some 1 }

theorem witness_RoomTempHoldsOrRejects :
    (State.reset.zoneCfg 16).source = none ∧ ((-400 : Int) ≤ -400 ∧ (1250 : Int) ≤ 1250) ∧
    ((-401 : Int) < -400 ∧ (1250 : Int) < 1251) ∧ headRead.takes .main ∧ headRead.shaped ∧ (headRead.zoneCfg 1).source ≠ none ∧
    16 < 17 :=
  ⟨by decide +kernel, by decide, by decide, by decide +kernel, shaped_of _ (by decide +kernel), by decide +kernel, by decide⟩

/-- The lowest and the highest channel of the mask; the first mask above it; a mask of parked zones alone. -/
theorem witness_LayerPushPlacesOnOpenChannels :
    (LayerKind.ofCode 2 = some .hold ∧ (1 : BitVec 24) ≠ 0 ∧ (131071 : BitVec 24).toNat < 2 ^ 17 ∧
      ∃ c ∈ maskChannels 65536, State.reset.parked c = false) ∧
    (2 < 3 ∧ 2 ^ 17 ≤ (131072 : BitVec 24).toNat) ∧
    (∀ c ∈ maskChannels 1, (after (.zonePark .service 1) State.reset).parked c = true) ∧
    (after (.zonePark .service 1) State.reset).takes .main := by decide +kernel

/-- A window contact of zone 4 that is active holds the WINDOW on top. -/
def contactOpen : State :=
  ((stacked [⟨.hold, some 280, none, .main⟩, ⟨.window, none, none, .input⟩]).setInputCfg 2 ⟨.high, .window 4⟩).setInputRec 2
    ⟨some true, some true, 0⟩

theorem witness_LayersArePoppedClearedAndReleased :
    (((stacked [⟨.hold, some 280, none, .main⟩]).takes .main ∧
      ((stacked [⟨.hold, some 280, none, .main⟩]).channel 4).stack = [] ++ [⟨.hold, some 280, none, .main⟩]) ∧
      ((State.reset.channel 4).stack = [] ∧ contactOpen.takes .main ∧ contactOpen.windowContact 4 = true ∧
        (contactOpen.channel 4).stack = [⟨.hold, some 280, none, .main⟩] ++ [⟨.window, none, none, .input⟩])) ∧
    ((65536 : BitVec 24) ≠ 0 ∧ (131071 : BitVec 24).toNat < 2 ^ 17 ∧ 2 ^ 17 ≤ (131072 : BitVec 24).toNat) ∧
    ((contactOpen.channel 4).stack = [] ++ ⟨.hold, some 280, none, .main⟩ :: [⟨.window, none, none, .input⟩] ∧
      (∀ x ∈ [(⟨.window, none, none, .input⟩ : Layer)], x.kind ≠ .hold) ∧ contactOpen.parked 4 = false) ∧
    (after (.zonePark .service 1) State.reset).parked 1 = true ∧ ∀ l ∈ (State.reset.channel 17).stack, l.kind ≠ .hold := by
  decide +kernel

/-- The first and the last park slot free; a zone parked already; none free. -/
theorem witness_ParkingSavesAndRestoresTheContext :
    ((parkedTo 0).parked 16 = false ∧ (parkedTo 0).cfg.parks[0]? = some none ∧ (parkedTo 0).takes .main ∧
      (parkedTo 3).parked 16 = false ∧ (parkedTo 3).cfg.parks[3]? = some none ∧ shapedB (parkedTo 3) = true) ∧
    ((parkedTo 4).parked 4 = true ∧ (parkedTo 4).takes .main) ∧
    ((parkedTo 4).parked 5 = false ∧ (∀ x ∈ (parkedTo 4).cfg.parks, x ≠ none) ∧ shapedB (parkedTo 4) = true) ∧
    ((parkedTo 4).cfg.parks[3]? = some (some ⟨4, [⟨.hold, some 200, none, .main⟩], 400, 25, 2⟩) ∧
      (⟨4, [⟨.hold, some 200, none, .main⟩], 400, 25, 2⟩ : Park).layersOk = true) ∧
    16 < 17 := by decide +kernel

theorem witness_EffectiveSetpointStaysWithinFrostAndLimit :
    State.reset.cfg.inRange = true ∧ State.reset.parked 17 = false ∧ (State.reset.channel 17).stack = [] ∧
    (parkedTo 1).cfg.inRange = true ∧ (parkedTo 1).parked 1 = true ∧ contactOpen.cfg.inRange = true ∧
    contactOpen.parked 4 = false ∧ (stacked [⟨.hold, some 300, none, .main⟩]).cfg.inRange = true ∧
    ((stacked [⟨.hold, some 300, none, .main⟩]).channelCfg 4).limit < 300 := by decide +kernel

theorem witness_RegulationPassComputesDemandAndCalls :
    passing.acting = none ∧ passing.shaped ∧ (passing.zone 1).passDue = true ∧ passing.freshReading 1 = some 150 ∧
    ((State.reset.setZone 16 { ZoneRun.initial with passDue := true }).zone 16).passDue = true ∧
    (State.reset.setZone 16 { ZoneRun.initial with passDue := true }).freshReading 16 = none :=
  ⟨by decide +kernel, shaped_of _ (by decide +kernel), by decide +kernel, by decide +kernel, by decide +kernel,
    by decide +kernel⟩

/-- Zone 1's reading has fallen by exactly the drop threshold since its last pass. -/
def fallen : State := passing.setZone 1 { passing.zone 1 with previous := some 160 }

theorem witness_RegulationPassComputesDemandAndCalls_window :
    (fallen.acting = none ∧ shapedB fallen = true ∧ (fallen.zone 1).passDue = true ∧ fallen.freshReading 1 = some 150 ∧
      (fallen.zone 1).previous = some 160 ∧ fallen.parked 1 = false ∧ (fallen.zoneCfg 1).detectEnable = true ∧
      ((fallen.zoneCfg 1).dropThreshold : Int) ≤ 160 - 150) ∧
    (passing.zone 1).previous = none ∧
    (passing.field.supplyOk = false ∧ passing.boiler.state = .rest ∧ passing.faultInput = false) ∧
    (ValveCfg.initial.liftMin < ValveCfg.initial.liftMax ∧ 1000 ≤ 1000) := by decide +kernel

/-- A pass of zone 1 with a slot of its own, the supply LOW and the boiler in REST. -/
def passingSlot : State :=
  let s := plant.setField FieldIO.initial
  s.setZone 1 { s.zone 1 with reading := some ⟨150, 0⟩, integrator := 150, passDue := true }

theorem witness_RegulationPassComputesDemandAndCalls_offer :
    passingSlot.acting = none ∧ shapedB passingSlot = true ∧ queueB passingSlot = true ∧
    (passingSlot.zone 1).passDue = true ∧ passingSlot.field.supplyOk = false ∧ passingSlot.boiler.state = .rest ∧
    passingSlot.faultInput = false ∧ (passingSlot.valveCfg 1).role = .zone 1 true ∧
    ((after (.regulationPass 1) passingSlot).wantedOf 1).isSome = true := by decide +kernel

/-- Zone 1 at a pass in FIRING, served, the table as R70 and R71 judge it. -/
def passingFiring : State :=
  firing.setZone 1 { firing.zone 1 with reading := some ⟨150, 0⟩, integrator := 0, passDue := true }

theorem witness_RegulationPassComputesDemandAndCalls_flow :
    passingFiring.acting = none ∧ shapedB passingFiring = true ∧ passingFiring.tableFollows ∧
    (passingFiring.zone 1).passDue = true ∧ (passingFiring.boiler.state = .firing ∧
      (after (.regulationPass 1) passingFiring).boiler.state = .firing) ∧
    ((after (.regulationPass 1) passingFiring).consumer 1).served = true ∧
    ((after (.regulationPass 1) passingFiring).zone 1).demand ≠ (passingFiring.zone 1).demand ∧
    (after (.regulationPass 1) passingFiring).boiler.modulationTarget ≠ passingFiring.boiler.modulationTarget :=
  ⟨by decide +kernel, by decide +kernel, fun _ => by decide +kernel, by decide +kernel, by decide +kernel,
    by decide +kernel, by decide +kernel, by decide +kernel⟩

theorem witness_PiStagesComputeIntegratorAndDemand :
    ((-100 : Int) ≤ -100 ∧ (100 : Int) ≤ 100 ∧ 1 ≤ 10 ∧ 10 ≤ 10 ∧ 5 ≤ 5) ∧
    ((1000 : Int) < 1500 + (150 + 125) ∧ (0 : Int) < 125) ∧ ¬ ((1000 : Int) < 400 + (30 + -45)) ∧ 1000 ≤ 1000 := by decide

theorem witness_ProportionalTermFollowsTheClampedError :
    1 ≤ 5 ∧ (160 - 261 : Int) < -100 ∧ (100 : Int) < 261 - 160 ∧ ((-100 : Int) ≤ 160 - 260 ∧ (160 - 60 : Int) ≤ 100) := by decide

/-- Zone 3 at 04:33 on a Monday, a rise to COMFORT at plan slot 39 ahead, its reading 170. -/
def morning : State :=
  let s := State.reset
  let s := s.setPlan 3 (List.replicate 39 .setback ++ List.replicate 249 .comfort)
  let s := s.setZone 3 { s.zone 3 with reading := some ⟨170, 1273⟩, passDue := true }
  { s with clock := { s.clock with minuteOfWeek := 273, elapsed := 1273, clockSet := true } }

/-- The same zone after its rise's preheat has met its target. -/
def learning : State :=
  let s := morning.setPreheat 3 (.early { run with startElapsed := 1138 })
  s.setZone 3 { s.zone 3 with reading := some ⟨211, 1273⟩ }

theorem witness_PreheatStartsAheadAndLearnsOnce :
    (morning.acting = none ∧ (morning.zone 3).passDue = true ∧ morning.clock.minuteOfWeek ≤ 10079 ∧
      morning.clock.clockSet = true ∧ (morning.zoneCfg 3).preheatEnable = true ∧ morning.parked 3 = false ∧
      (morning.zone 3).preheat = .idle .initial ∧ morning.freshReading 3 = some 170 ∧ morning.clock.minuteOfDay / 10 < 39 ∧
      (morning.channelCfg 3).temperature (morning.baseLevel 3) < (morning.channelCfg 3).temperature (morning.planLevel 3 39) ∧
      (∀ j < 39, morning.clock.minuteOfDay / 10 < j →
        (morning.channelCfg 3).temperature (morning.planLevel 3 j) ≤ (morning.channelCfg 3).temperature (morning.baseLevel 3)) ∧
      10 * 39 - morning.clock.minuteOfDay ≤ (morning.zoneCfg 3).preheatLimit ∧
      170 < (morning.channelCfg 3).temperature (morning.planLevel 3 39) ∧
      (((10 * 39 - morning.clock.minuteOfDay : Nat) : Int) - 1) * (morning.zoneCfg 3).rate <
        ((morning.channelCfg 3).temperature (morning.planLevel 3 39) - 170) * 60) ∧
    shapedB morning = true ∧
    (learning.acting = none ∧ (learning.zone 3).passDue = true ∧
      (learning.zone 3).preheat = .early { run with startElapsed := 1138 } ∧ learning.freshReading 3 = some 211 ∧
      (learning.channelCfg 3).temperature .comfort ≤ 211 ∧ shapedB learning = true) := by decide +kernel

/-- The same zone in WATCH, with no rise ahead of the present slot. -/
def learningLate (r : Temp) : State :=
  let s := (learning.setPreheat 3 (.watch { run with startElapsed := 1138 } 1270)).setPlan 3 (List.replicate 288 .setback)
  s.setZone 3 { s.zone 3 with reading := some ⟨r, 1273⟩ }

theorem witness_PreheatStartsAheadAndLearnsOnce_watch :
    ∀ r ∈ [(209 : Temp), 210], (learningLate r).acting = none ∧ shapedB (learningLate r) = true ∧
      ((learningLate r).zone 3).passDue = true ∧
      ((learningLate r).zone 3).preheat = .watch { run with startElapsed := 1138 } 1270 ∧
      (learningLate r).freshReading 3 = some r ∧
      ∀ i < 288, (learningLate r).clock.minuteOfDay / 10 < i →
        ((learningLate r).channelCfg 3).temperature ((learningLate r).planLevel 3 i) ≤
          ((learningLate r).channelCfg 3).temperature ((learningLate r).baseLevel 3) := by decide +kernel

theorem witness_SensorSampleJudgesTheRecord :
    (∀ x ∈ [Sensor.flow, .outdoor, .cylinder], ((sampled State.reset).sensor x).due = true) ∧
    (sampled State.reset).acting = none ∧ shapedB (sampled State.reset) = true ∧ (-401 : Int) < -400 ∧
    (1250 : Int) < 1251 := by decide +kernel

/-- The plant in this state of the boiler with no zone requesting, the fire mark `mark`, W's request as given; the samples
are due and no blocker is present. -/
def warming (st : BoilerState) (mark : Elapsed) (w : Bool) : State :=
  let s := firing.setBoiler { firing.boiler with state := st, fireMark := mark }
  let level := if w then 3 else 0
  let s := s.setTable
    { entries := List.replicate 16 .initial ++ [{ requesting := w, level, deferred := false, heatAvailable := false }]
      servedLevel := level }
  let s := s.setField { s.field with flow := { s.field.flow with due := true }
                                     cylinder := { s.field.cylinder with due := true } }
  { s with wRequest := w }

/-- W's sample at the last value that asks for heat, and at the first that does not; min-on at its first minute and
before it. -/
theorem witness_SensorSampleJudgesTheRecord_boiler :
    ((warming .idle 0 false).acting = none ∧ shapedB (warming .idle 0 false) = true ∧
      (warming .idle 0 false).faultInput = false ∧ (warming .idle 0 false).held = false ∧
      (warming .idle 0 false).field.cylinder.due = true ∧ (warming .idle 0 false).boiler.state = .idle ∧
      (warming .idle 0 false).anyRequest = false ∧
      399 < (warming .idle 0 false).effectiveSetpoint 17 - (warming .idle 0 false).cfg.differential ∧
      1 ≤ ((warming .idle 0 false).channelCfg 17).priority ∧ 1 ≤ (warming .idle 0 false).cfg.boiler.leadTime) ∧
    (∀ st ∈ [BoilerState.lead, .firing], (warming st 0 true).faultInput = false ∧
      (warming st 0 true).held = false ∧ (warming st 0 true).boiler.state = st ∧ (warming st 0 true).acting = none ∧
      (warming st 0 true).field.cylinder.due = true ∧ (warming st 0 true).field.flow.due = true ∧
      shapedB (warming st 0 true) = true ∧
      (∀ c ∈ zoneNumbers, ((warming st 0 true).consumer c).requesting = false) ∧
      (warming st 0 true).effectiveSetpoint 17 ≤ 450 ∧ (warming st 0 true).boiler.minOnHold = false ∧
      (warming st 0 true).sinkMinimum ≤ (warming st 0 true).capacity) ∧
    ((warming .firing 0 true).minOnElapsed = false ∧ (warming .firing 0xFFFFFFFD true).minOnElapsed = true) ∧
    1 ≤ firing.cfg.boiler.overrunTime := by decide +kernel

/-- An outdoor sample in FIRING that changes the modulation target. -/
theorem witness_SensorSampleJudgesTheRecord_flow :
    (sampled firing).acting = none ∧ shapedB (sampled firing) = true ∧ (sampled firing).tableFollows ∧
    (sampled firing).burnerFollows ∧ ((sampled firing).sensor .outdoor).due = true ∧
    (after (.sensorSample .outdoor 0) (sampled firing)).boiler.state = .firing ∧
    (after (.sensorSample .outdoor 0) (sampled firing)).boiler.modulationTarget ≠ firing.boiler.modulationTarget :=
  ⟨by decide +kernel, by decide +kernel, fun _ => by decide +kernel, by decide +kernel, by decide +kernel,
    by decide +kernel, by decide +kernel⟩

/-- The same plant with a CYLINDER and a SINK slot, the supply LOW, W heat-available or not, sink-open set or not. -/
def valved (s : State) (warm sinkOpen : Bool) : State :=
  let s := (s.setValveCfg 2 { ValveCfg.initial with role := .cylinder }).setValveCfg 3 { ValveCfg.initial with role := .sink }
  let s := s.setTable { s.table with entries := setItem s.table.entries 17 { s.consumer 17 with heatAvailable := warm } }
  let s := s.setField { s.field with supplyOk := false }
  s.setArbiter { s.arbiter with sinkOpen }

/-- The same with no capacity, in IDLE. -/
def idleShort : State :=
  let s := valved (warming .idle 0 false) false false
  s.setValveCfg 1 { s.valveCfg 1 with weight := 0 }

theorem witness_SensorSampleJudgesTheRecord_targets :
    (shapedB idleShort = true ∧ queueB idleShort = true ∧ (idleShort.valveCfg 2).role = .cylinder ∧
      (idleShort.valveCfg 3).role = .sink ∧ (idleShort.consumer 17).heatAvailable = false ∧ idleShort.anyRequest = false ∧
      idleShort.arbiter.sinkOpen = false ∧ idleShort.capacity < idleShort.sinkMinimum) ∧
    ∀ st ∈ [BoilerState.lead, .firing], shapedB (valved (warming st 0 true) true true) = true ∧
      queueB (valved (warming st 0 true) true true) = true ∧ (valved (warming st 0 true) true true).held = false ∧
      (valved (warming st 0 true) true true).boiler.heatDump = false ∧
      ((valved (warming st 0 true) true true).consumer 17).heatAvailable = true := by decide +kernel

/-- The same plant with a heat dump in progress, its samples due. -/
def dumping : State := sampled (firing.setBoiler { firing.boiler with heatDump := true })

theorem witness_HeatDumpStartsAndEnds :
    ((sampled firing).acting = none ∧ shapedB (sampled firing) = true ∧ (sampled firing).field.flow.due = true ∧
      (sampled firing).boiler.heatDump = false ∧
      (sampled firing).cfg.boiler.flowMax + (sampled firing).cfg.boiler.highLimitDelta ≤ 850 ∧ (850 : Int) ≤ 1250) ∧
    (dumping.acting = none ∧ dumping.field.flow.due = true ∧ dumping.boiler.heatDump = true ∧
      dumping.boiler.leadHeld = false) := by decide +kernel

/-- The dump about to start, and one about to end with sink-open set, a SINK slot and the supply LOW. -/
theorem witness_HeatDumpStartsAndEnds_targets :
    (shapedB (valved (sampled firing) false false) = true ∧ queueB (valved (sampled firing) false false) = true ∧
      (valved (sampled firing) false false).field.flow.due = true ∧
      (valved (sampled firing) false false).boiler.heatDump = false) ∧
    (shapedB (valved (dumping.setBoiler { dumping.boiler with state := .rest }) false true) = true ∧
      queueB (valved (dumping.setBoiler { dumping.boiler with state := .rest }) false true) = true ∧
      (valved (dumping.setBoiler { dumping.boiler with state := .rest }) false true).arbiter.sinkOpen = true ∧
      ((valved (dumping.setBoiler { dumping.boiler with state := .rest }) false true).valveCfg 3).role = .sink) := by
  decide +kernel

/-- A heat dump in this state of the boiler; a lead whose expiry it holds, with this capacity, extended before or not. -/
def dumpingIn (st : BoilerState) : State := dumping.setBoiler { dumping.boiler with state := st, overrunTimer := some 5 }
def dumpHolds (capacity : Nat) (extended : Bool) : State :=
  let s := dumping.setBoiler { dumping.boiler with state := .lead, leadHeld := true, leadExtended := extended }
  s.setValveCfg 1 { s.valveCfg 1 with weight := capacity }

theorem witness_HeatDumpStartsAndEnds_end :
    (∀ st ∈ [BoilerState.idle, .rest, .overrun], (dumpingIn st).boiler.state = st ∧ (dumpingIn st).boiler.heatDump = true ∧
      (dumpingIn st).boiler.leadHeld = false ∧ (dumpingIn st).faultInput = false ∧ shapedB (dumpingIn st) = true ∧
      (dumpingIn st).field.flow.due = true ∧ (dumpingIn st).acting = none) ∧
    ((dumpingIn .idle).setTable State.reset.table).anyRequest = false ∧ (749 : Int) < dumping.cfg.boiler.flowMax ∧
    (∀ c ∈ [0, 37], ∀ e ∈ [false, true], (dumpHolds c e).boiler.leadHeld = true ∧ (dumpHolds c e).boiler.state = .lead ∧
      (dumpHolds c e).anyRequest = true ∧ (dumpHolds c e).inhibitInput = false ∧ (dumpHolds c e).faultInput = false ∧
      (dumpHolds c e).boiler.leadExtended = e ∧ ((dumpHolds c e).sinkMinimum ≤ (dumpHolds c e).capacity ↔ c = 37) ∧
      1 ≤ (dumpHolds c e).cfg.boiler.minOff ∧ shapedB (dumpHolds c e) = true) := by decide +kernel

/-- Input 4 set up this way, its last sample high. -/
def input4 (sens : Sensitivity) (f : InputFunction) (level : Option Bool) : State :=
  (contactOpen.setInputCfg 4 ⟨sens, f⟩).setInputRec 4 ⟨some true, level, 255⟩

theorem witness_InputSamplesAreDebounced :
    ((input4 .rise .none none).inputRec 4).last ≠ some false ∧ ((input4 .rise .none none).inputRec 4).last = some true ∧
    ((input4 .rise .none (some false)).inputRec 4).level = some (!true) ∧
    ((input4 .rise .none none).inputRec 4).level = none ∧ (input4 .rise .none none).acting = none ∧
    shapedB (input4 .rise .none none) = true := by decide +kernel

theorem witness_ContactsAndButtonsActOnTheirZone :
    ((input4 .high (.window 16) (some false)).acting = none ∧ shapedB (input4 .high (.window 16) (some false)) = true ∧
      (input4 .high (.window 16) (some false)).parked 16 = false) ∧
    (((input4 .low (.window 4) (some false)).inputRec 4).level = some (!true) ∧
      ∀ m < 5, m ≠ 4 → m ≠ 2 → ((input4 .low (.window 4) (some false)).inputCfg m).function ≠ .window 4) ∧
    ((input4 .rise (.boost 4 240 30) (some false)).inputCfg 4).function = .boost 4 240 30 := by decide +kernel

/-- An edge and a change that is none, of an input of function NONE. -/
theorem witness_ContactsAndButtonsActOnTheirZone_none :
    ∀ x ∈ [Sensitivity.rise, .fall], ((input4 x .none (some false)).inputRec 4).last = some true ∧
      ((input4 x .none (some false)).inputRec 4).level = some (!true) ∧
      ((input4 x .none (some false)).inputCfg 4).function = .none ∧ shapedB (input4 x .none (some false)) = true ∧
      (((input4 x .none (some false)).inputCfg 4).sensitivity = .rise ↔ x = .rise) := by decide +kernel

/-- A contact and a button of a parked zone. -/
theorem witness_ContactsAndButtonsActOnTheirZone_parked :
    ∀ x ∈ [(Sensitivity.high, InputFunction.window 16), (.rise, .boost 16 240 30)],
      let s := (input4 x.1 x.2 (some false)).setParks [none, some ⟨16, [], 0, 20, 2⟩, none, none]
      s.parked 16 = true ∧ s.acting = none ∧ shapedB s = true ∧ (s.inputCfg 4).function = x.2 ∧
        (s.inputCfg 4).sensitivity = x.1 ∧ (s.inputRec 4).last = some true ∧ (s.inputRec 4).level = some (!true) := by
  decide +kernel

/-- A contact of zone 4 about to close, the other one open; a contact, open or closed, and a button about to be
established. -/
theorem witness_ContactsAndButtonsActOnTheirZone_others :
    ((input4 .low (.window 4) (some false)).acting = none ∧ shapedB (input4 .low (.window 4) (some false)) = true ∧
      ((input4 .low (.window 4) (some false)).inputRec 4).last = some true ∧
      ((input4 .low (.window 4) (some false)).inputRec 4).level = some (!true) ∧
      ((input4 .low (.window 4) (some false)).inputCfg 2).function = .window 4 ∧
      (input4 .low (.window 4) (some false)).inputActive 2 = true) ∧
    ∀ x ∈ [(Sensitivity.high, InputFunction.window 16), (.low, .window 16), (.rise, .boost 16 240 30)],
      (input4 x.1 x.2 none).acting = none ∧ shapedB (input4 x.1 x.2 none) = true ∧
      ((input4 x.1 x.2 none).inputRec 4).last = some true ∧ ((input4 x.1 x.2 none).inputRec 4).level = none ∧
      (input4 x.1 x.2 none).parked 16 = false ∧ ((input4 x.1 x.2 none).inputCfg 4) = ⟨x.1, x.2⟩ := by decide +kernel

/-- An inhibit input about to become active, in this state of the boiler; the boiler fault input about to become
inactive. -/
def inhibiting (st : BoilerState) : State :=
  ((firing.setBoiler { firing.boiler with state := st }).setInputCfg 4 ⟨.high, .inhibit⟩).setInputRec 4
    ⟨some true, some false, 0⟩
def recovering : State :=
  ((firing.setBoiler { firing.boiler with state := .faulted }).setInputCfg 1 ⟨.high, .boilerFault⟩).setInputRec 1
    ⟨some false, some true, 0⟩

theorem witness_BoilerFaultInputTakesFaulted_ends :
    (∀ st ∈ [BoilerState.lead, .firing], (inhibiting st).acting = none ∧ shapedB (inhibiting st) = true ∧
      ((inhibiting st).inputCfg 4).function = .inhibit ∧ ((inhibiting st).inputCfg 4).sensitivity = .high ∧
      ((inhibiting st).inputRec 4).last = some true ∧ ((inhibiting st).inputRec 4).level = some (!true) ∧
      (inhibiting st).faultInput = false ∧ (inhibiting st).boiler.state = st) ∧
    (recovering.acting = none ∧ shapedB recovering = true ∧ (recovering.inputCfg 1).function = .boilerFault ∧
      (recovering.inputCfg 1).sensitivity = .high ∧ (recovering.inputRec 1).last = some false ∧
      (recovering.inputRec 1).level = some (!false) ∧ recovering.boiler.state = .faulted ∧
      recovering.minOffElapsed = false ∧ ∀ m ∈ [2, 3, 4], (recovering.inputCfg m).function ≠ .boilerFault) := by decide +kernel

theorem witness_BoilerFaultInputTakesFaulted :
    (input4 .high .boilerFault (some false)).acting = none ∧ shapedB (input4 .high .boilerFault (some false)) = true ∧
    ((input4 .high .boilerFault (some false)).inputCfg 4).function = .boilerFault ∧
    (input4 .high .boilerFault (some false)).boiler.state ≠ .faulted ∧
    ((input4 .high .boilerFault none).inputRec 4).level = none := by decide +kernel

/-- A contact of the first and of the last zone; a button at both ends of its fields. -/
theorem witness_InputRequestsConfigureAndReport :
    (InputFunction.window 1).allowed .high ∧ (InputFunction.window 16).allowed .low ∧ InputFunction.inhibit.allowed .low ∧
    InputFunction.boilerFault.allowed .high ∧ InputFunction.none.allowed .fall ∧
    (InputFunction.boost 1 (-400) 1).allowed .rise ∧ (InputFunction.boost 16 1250 1440).allowed .fall ∧
    (∀ k, some 4 = some k → 1 ≤ k ∧ k ≤ 4) ∧ (∀ k, some 5 = some k → k = 0 ∨ 4 < k) := by
  simp [InputFunction.allowed]

/-- Each hand-over: a contact configured while active, one taken away, the boiler fault and the inhibit with them; and a
field of each function one step beyond its edge. -/
theorem witness_InputRequestsConfigureAndReport_handOver :
    ((input4 .high .none (some true)).inputCfg 4 ≠ ⟨.high, .window 3⟩ ∧ (input4 .high .none (some true)).parked 3 = false ∧
      ((input4 .high .none (some true)).inputRec 4).level = some (Sensitivity.high == .high) ∧
      (input4 .high .none (some true)).takes .main ∧ shapedB (input4 .high .none (some true)) = true) ∧
    (((input4 .high (.window 16) (some true)).inputCfg 4).function = .window 16 ∧
      (input4 .high (.window 16) (some true)).inputActive 4 = true ∧
      ∀ m ∈ [1, 2, 3], ((input4 .high (.window 16) (some true)).inputCfg m).function ≠ .window 16) ∧
    (input4 .high .none (some true)).boiler.state ≠ .faulted ∧
    ((recovering.setInputRec 1 ⟨some true, some true, 0⟩).inputActive 1 = true ∧
      (recovering.setInputRec 1 ⟨some true, some true, 0⟩).minOffElapsed = false) ∧
    (input4 .high .none (some true)).faultInput = false ∧
    ((∀ k, some 17 = some k → k = 0 ∨ 16 < k) ∧ (∀ t : Temp, some (1251 : Temp) = some t → t < -400 ∨ 1250 < t) ∧
      ∀ j, some 1441 = some j → j = 0 ∨ 1440 < j) := by
  refine ⟨by decide +kernel, by decide +kernel, by decide +kernel, by decide +kernel, by decide +kernel, ?_, ?_, ?_⟩ <;>
    · intro k h; cases h; decide

/-- A transaction with head 1 is in flight, its reply or its miss still to come. -/
def asked (h : Head) (r : LinkRequest) : State :=
  (headRead.setHead 1 h).setLink { plant.link with transaction := some ⟨1, r⟩ }

theorem witness_GoodReplyUpdatesHeadAndReadings :
    (asked movingHead .poll).acting = none ∧ shapedB (asked movingHead .poll) = true ∧
    (asked movingHead .poll).link.transaction = some ⟨1, .poll⟩ ∧ 100 ≤ 100 ∧ (asked movingHead .poll).used 1 = true ∧
    ((asked movingHead .poll).head 1).move.any (·.accepted) = true ∧
    ((asked movingHead .poll).setField FieldIO.initial).field.supplyOk = false ∧
    ((asked movingHead .poll).zoneCfg 1).source = some 1 := by decide +kernel

/-- The same transaction, head 1 on a move of this state that it has not accepted, its command in flight; and a POLL with
the command still to be sent. The supply is LOW. -/
def unaccepted (st : HeadState) (sent : Bool) : State :=
  let s := asked { readyHead with state := st, move := some ⟨83, 0, false, none, 120⟩ } (if sent then .home else .poll)
  (s.setLink { s.link with commands := [⟨1, .home, sent⟩] }).setField { s.field with supplyOk := false }

theorem witness_GoodReplyUpdatesHeadAndReadings_own :
    (∀ st ∈ [HeadState.moving, .homing], (unaccepted st true).acting = none ∧ shapedB (unaccepted st true) = true ∧
      (unaccepted st true).link.transaction = some ⟨1, .home⟩ ∧ ((unaccepted st true).head 1).state = st ∧
      ((unaccepted st true).head 1).move = some ⟨83, 0, false, none, 120⟩ ∧
      ((unaccepted st true).link.commands.find? fun c => c.slot == 1 && c.sent) = some ⟨1, .home, true⟩) ∧
    (∀ c ∈ (unaccepted .moving false).link.commands, c.slot = 1 → c.sent = true → c.request = .poll ∨ c.request = .stop) ∧
    ((unaccepted .moving true).used 1 = true ∧ (unaccepted .moving true).field.supplyOk = false) ∧
    (∀ st ∈ [HeadState.unknown, .absent, .ready, .stalled],
      ((asked { readyHead with state := st } .poll).head 1).state ≠ .moving ∧
      ((asked { readyHead with state := st } .poll).head 1).state ≠ .homing ∧
      ((asked { readyHead with state := st } .poll).setField FieldIO.initial).field.supplyOk = false) := by decide +kernel

/-- A head of this state that a POLL asks, a homing and a wanted target of 40 waiting for its slot, the supply LOW and the
boiler in REST. -/
def establishing (st : HeadState) : State :=
  let s := asked { movingHead with state := st } .poll
  let s := s.setField { s.field with supplyOk := false }
  (s.setWanted 1 (some ⟨40, .normal⟩)).setQueue [⟨1, .home, 0, .homing, 1, false⟩]

theorem witness_GoodReplyUpdatesHeadAndReadings_ready :
    ∀ st ∈ [HeadState.unknown, .moving, .homing], (establishing st).acting = none ∧ shapedB (establishing st) = true ∧
      queueB (establishing st) = true ∧ (establishing st).link.transaction = some ⟨1, .poll⟩ ∧
      (establishing st).used 1 = true ∧ (establishing st).field.supplyOk = false ∧
      (establishing st).wantedOf 1 = some ⟨40, .normal⟩ ∧ (establishing st).boiler.state = .rest ∧
      (establishing st).faultInput = false ∧ ((establishing st).valveCfg 1).role = .zone 1 true ∧
      ((after (.goodReply 1 60 false false true none) (establishing st)).head 1).state = .ready := by decide +kernel

/-- The same with link and supply OK. -/
def establishingOk (st : HeadState) : State := (establishing st).setField { (establishing st).field with supplyOk := true }

/-- With link and supply OK an ending leaves the head as R89's table has it, or grants the HOME that waited. -/
theorem witness_GoodReplyUpdatesHeadAndReadings_again :
    ∀ st ∈ [HeadState.unknown, .moving, .homing], (establishingOk st).acting = none ∧ shapedB (establishingOk st) = true ∧
      queueB (establishingOk st) = true ∧ (establishingOk st).used 1 = true ∧ (establishingOk st).field.supplyOk = true ∧
      ((after (.goodReply 1 60 false true true none) (establishingOk st)).head 1).state = .homing ∧
      ((after (.goodReply 1 60 false true true none) (establishingOk st)).head 1).move = some ⟨60, 0, false, none, 120⟩ ∧
      ((after (.goodReply 1 60 false true true none) ((establishingOk st).setQueue [])).head 1).state = .stalled := by decide +kernel

/-- A head that becomes READY at 60 has its wanted target of 40 queued (R111). -/
theorem test_ready_offers_its_target :
    (after (.goodReply 1 60 false false true none) ((establishing .unknown).setQueue [])).arbiter.queue =
      [⟨1, .drive, 40, .normal, 1, false⟩] := by decide +kernel

theorem witness_MissesMakeTheHeadAbsent :
    (asked readyHead (.drive 40)).acting = none ∧ shapedB (asked readyHead (.drive 40)) = true ∧
    (asked readyHead (.drive 40)).link.transaction = some ⟨1, .drive 40⟩ ∧
    (readyHead.state ≠ .absent ∧ readyHead.misses < 2 ∧ 2 ≤ { readyHead with misses := 2 }.misses) ∧
    ((asked { readyHead with state := .absent } .poll).head 1).state = .absent ∧
    State.reset.link.transaction = none ∧ 100 < 101 := by decide +kernel

theorem witness_StalledHeadsAreTimedOutAndRetried :
    ((plant.setHead 1 movingHead).acting = none ∧ shapedB (plant.setHead 1 movingHead) = true ∧
      ((plant.setHead 1 movingHead).head 1).state = .moving ∧
      ((plant.setHead 1 movingHead).head 1).move = some ⟨83, 0, true, some 0, 120⟩) ∧
    ((plant.setHead 1 { readyHead with state := .stalled, retryDue := some 0 }).head 1).retryDue =
      some plant.clock.elapsed ∧
    (plant.setHead 1 { readyHead with state := .stalled, retryDue := some 0 }).used 1 = true := by decide +kernel

theorem witness_LinkFaultAndLinkClearEndEveryMove :
    (plant.acting = none ∧ shapedB plant = true ∧ plant.link.fault = false ∧ plant.takes .main) ∧
    ((after .linkFault plant).link.fault = true ∧ (after .linkFault plant).takes .main ∧
      shapedB (after .linkFault plant) = true) := by decide +kernel

/-- The first measurement; the supply OK at its edge; LOW one measurement from its qualification. -/
theorem witness_SupplyMeasurementJudgesTheSupply :
    State.reset.field.supplyLast = none ∧ (plant.field.supplyLast ≠ none ∧ plant.field.supplyOk = true ∧ 189 < 190) ∧
    ((plant.setField { plant.field with supplyOk := false, supplyQual := 99 }).field.supplyOk = false ∧
      205 < 206 ∧ 99 ≤ (plant.setField { plant.field with supplyOk := false, supplyQual := 99 }).field.supplyQual ∧
      shapedB (plant.setField { plant.field with supplyOk := false, supplyQual := 99 }) = true) := by decide +kernel

/-- The plant with this entry waiting for slot 1, its supply one measurement from OK. -/
def waitingEntry (op : MoveOp) (cls : MoveClass) : State :=
  let s := plant.setField { plant.field with supplyOk := false, supplyQual := 99 }
  s.setQueue [⟨1, op, 0, cls, 1, false⟩]

theorem witness_SupplyMeasurementJudgesTheSupply_round :
    (∀ op ∈ [MoveOp.drive, .home], (waitingEntry op .normal).acting = none ∧ shapedB (waitingEntry op .normal) = true ∧
      (waitingEntry op .normal).boilerStays ∧ (waitingEntry op .normal).link.fault = false ∧
      (waitingEntry op .normal).field.supplyLast ≠ none ∧ (waitingEntry op .normal).field.supplyOk = false ∧
      99 ≤ (waitingEntry op .normal).field.supplyQual ∧
      (waitingEntry op .normal).unitsInUse < (waitingEntry op .normal).cfg.boiler.motorAllowance ∧
      { waitingEntry op .normal with field := plant.field }.mayRun ⟨1, op, 0, .normal, 1, false⟩) ∧
    (waitingEntry .drive .normal).queueOk ∧
    ((plant.setHead 1 movingHead).setHead 2 movingHead).cfg.boiler.motorAllowance ≤
      ((plant.setHead 1 movingHead).setHead 2 movingHead).unitsInUse :=
  ⟨by decide +kernel, queueOk_of _ (by decide +kernel), by decide +kernel⟩

/-- A slot made UNUSED, one that comes into use, a new assignment; VALVE-HOME of a slot in use and of an ABSENT head. -/
theorem witness_ValveRequestsConfigureAndHome :
    (plant.takes .main ∧ shapedB plant = true ∧
      (valveDraft (plant.valveCfg 1) [(1, 0)]).all (·.role == .unused) = true ∧
      (valveDraft (plant.valveCfg 32) [(1, 1), (2, 16)]).all (·.role == .zone 16 false) = true ∧
      (valveDraft (plant.valveCfg 1) [(2, 2)]).all (·.role == .zone 2 true) = true) ∧
    (plant.used 1 = true ∧ (plant.head 1).state ≠ .absent ∧ plant.used 32 = false) ∧
    (asked { readyHead with state := .absent } .poll).takes .main ∧
    ((asked { readyHead with state := .absent } .poll).head 1).state = .absent := by decide +kernel

/-- Lists at both ends of the ranges: a role that lists no zone, ZONE with a listed zone, ZONE with the one held. -/
theorem witness_ValveRequestsConfigureAndHome_accepted :
    ∀ x ∈ [(32, [((1 : Nat), (3 : Int)), (4, 0), (5, 0), (6, 1), (7, 10), (8, 300)]),
        (32, [(1, 1), (2, 16), (3, 1), (4, 100), (5, 99), (6, 100), (7, 1), (8, 30)]), (1, [(3, 0)])],
      listsInRange valveRanges x.2 ∧ listed x.2 5 (plant.valveCfg x.1).liftMin < listed x.2 6 (plant.valveCfg x.1).liftMax ∧
      if listed x.2 1 (plant.valveCfg x.1).role.code = 1 then (plant.valveCfg x.1).role.code = 1 ∨ ∃ f ∈ x.2, f.1 = 2
      else ∀ f ∈ x.2, f.1 ≠ 2 ∧ f.1 ≠ 3 := by decide +kernel

/-- A slot that comes into use with no entry; a new zone for a slot with a HOME waiting; VALVE-HOME beside each entry. -/
theorem witness_ValveRequestsConfigureAndHome_homing :
    (State.reset.queued 1 = [] ∧ State.reset.takes .main ∧
      (valveDraft (State.reset.valveCfg 1) [(1, 2)]).any (·.role == .cylinder) = true) ∧
    ((waitingEntry .home .homing).queued 1 = [⟨1, .home, 0, .homing, 1, false⟩] ∧ (waitingEntry .home .homing).takes .main ∧
      (valveDraft ((waitingEntry .home .homing).valveCfg 1) [(2, 2)]).any
        (fun x => !((waitingEntry .home .homing).valveCfg 1).role.sameAssignment x.role) = true) ∧
    ((waitingEntry .drive .exercise).queued 1 = [⟨1, .drive, 0, .exercise, 1, false⟩] ∧
      (waitingEntry .drive .exercise).boilerStays ∧ (waitingEntry .drive .exercise).used 1 = true ∧
      shapedB (waitingEntry .drive .exercise) = true ∧ (waitingEntry .drive .exercise).arbiter.arrivals ≤ 4294967295) ∧
    (((waitingEntry .drive .exercise).setQueue []).queued 1 = [] ∧
      (((waitingEntry .drive .exercise).setHead 1 { readyHead with state := .homing }).head 1).state = .homing) := by
  decide +kernel

/-- A lead whose timer has run out, the capacity at the sink minimum or above. -/
def leading (capacity : Nat) (dump extended : Bool) : State :=
  let s := firing.setBoiler { firing.boiler with state := .lead, leadTimer := some 0, heatDump := dump,
                                                 leadExtended := extended }
  let s := s.setField { s.field with burner := false, output := 0 }
  s.setValveCfg 1 { s.valveCfg 1 with weight := capacity }

theorem witness_LeadExpiryTakesItsCasesInOrder :
    (∀ c ∈ [0, 37], ∀ d ∈ [false, true], ∀ e ∈ [false, true],
      (leading c d e).acting = none ∧ shapedB (leading c d e) = true ∧ (leading c d e).boiler.state = .lead ∧
      (leading c d e).boiler.leadTimer = some 0 ∧ (leading c d e).anyRequest = true ∧ (leading c d e).blocked = false ∧
      1 ≤ (leading c d e).cfg.boiler.minOff) ∧
    (leading 37 false false).sinkMinimum ≤ (leading 37 false false).capacity ∧
    ¬ (leading 0 false false).sinkMinimum ≤ (leading 0 false false).capacity := by decide +kernel

/-- The plant in this state of the boiler, with these marks, no timer left to run. -/
def waiting (st : BoilerState) (mark : Elapsed) : State :=
  let s := firing.setBoiler { firing.boiler with
    state := st, fireMark := mark, restMark := mark, minOnHold := true, overrunTimer := some 0, pumpTimer := some 0 }
  if st = .faulted then (s.setInputCfg 1 ⟨.high, .boilerFault⟩).setInputRec 1 ⟨some true, some true, 0⟩ else s

/-- Each wait at its first minute, 3 for min-on and 5 for min-off. -/
theorem witness_BoilerWaitsEnd :
    ((waiting .firing 0xFFFFFFFD).minOnElapsed = true ∧ (waiting .firing 0xFFFFFFFD).faultInput = false ∧
      (waiting .firing 0xFFFFFFFD).boiler.minOnHold = true) ∧
    ((waiting .overrun 0xFFFFFFFC).minOffElapsed = false ∧ (waiting .overrun 0).boiler.overrunTimer = some 0) ∧
    ((waiting .rest 0xFFFFFFFB).minOffElapsed = true ∧ (waiting .rest 0xFFFFFFFB).anyRequest = true ∧
      (waiting .rest 0xFFFFFFFB).held = false) ∧
    (((waiting .rest 0xFFFFFFFB).setField FieldIO.initial).held = true) ∧
    ((waiting .faulted 0).faultInput = true ∧ (waiting .faulted 0).boiler.pumpTimer = some 0 ∧
      shapedB (waiting .faulted 0) = true ∧ (waiting .faulted 0).acting = none) := by decide +kernel

theorem witness_BoilerSetTakesEffectAtOnce :
    firing.takes .main ∧ firing.shaped ∧ firing.tableFollows ∧
    (boilerDraft firing.cfg.boiler [(14, 100)]).any (firing.capacity < ·.sinkMinimum) = true ∧
    (firing.boiler.state = .firing ∧ firing.faultInput = false) ∧
    ((leading 0 false false).boiler.leadTimer ≠ none ∧ (leading 0 false false).blocked = false) ∧
    ((boilerDraft firing.cfg.boiler [(15, 1)]).any (·.motorAllowance == 1) = true ∧
      ((plant.setHead 1 movingHead).setHead 2 movingHead).unitsInUse = 2) :=
  ⟨by decide +kernel, shaped_of _ (by decide +kernel), fun _ => by decide +kernel, by decide +kernel, by decide +kernel,
    by decide +kernel, by decide +kernel⟩

/-- A firing without requests, in its min-on hold or not; REST; both one minute before and at the new setting. -/
def quietFiring : State :=
  (firing.setTable { entries := List.replicate 17 .initial, servedLevel := 0 }).setBoiler { firing.boiler with
    minOnHold := true, fireMark := 0xFFFFFFFE }

theorem witness_BoilerSetTakesEffectAtOnce_judged :
    (quietFiring.takes .main ∧ shapedB quietFiring = true ∧ quietFiring.boiler.state = .firing ∧
      quietFiring.anyRequest = false ∧ quietFiring.held = false ∧ quietFiring.faultInput = false ∧
      quietFiring.table = quietFiring.table.judged quietFiring.boiler.state.warm ∧
      quietFiring.sinkMinimum ≤ quietFiring.capacity ∧ 1 ≤ quietFiring.cfg.boiler.overrunTime) ∧
    (∀ x ∈ [((2 : Nat), (2 : Int), true), (2, 3, false)],
      (boilerDraft quietFiring.cfg.boiler [(x.1, x.2.1)]).any (fun b =>
        ({ quietFiring with cfg := { quietFiring.cfg with boiler := b } } : State).minOnElapsed == x.2.2) = true) ∧
    (State.reset.boiler.state = .rest ∧ State.reset.faultInput = false ∧ State.reset.takes .main ∧
      State.reset.anyRequest = false ∧
      ∀ x ∈ [((4 : Nat), (0 : Int), true), (4, 1, false)],
        (boilerDraft State.reset.cfg.boiler [(x.1, x.2.1)]).any (fun b =>
          ({ State.reset with cfg := { State.reset.cfg with boiler := b } } : State).minOffElapsed == x.2.2) = true) ∧
    ((waiting .rest 0xFFFFFFFB).anyRequest = true ∧ (waiting .rest 0xFFFFFFFB).held = false) := by decide +kernel

/-- Two heads run and an entry waits for slot 1: the allowance of 2 is raised to 3. -/
def raising : State :=
  ((plant.setValveCfg 2 { ValveCfg.initial with role := .sink }).setValveCfg 3 { ValveCfg.initial with role := .sink }).setHead 2
    movingHead |>.setHead 3 movingHead |>.setQueue [⟨1, .drive, 0, .normal, 1, false⟩]

theorem witness_BoilerSetTakesEffectAtOnce_round :
    (raising.takes .main ∧ shapedB raising = true ∧ raising.tableFollows) ∧ raising.queueOk ∧
    (raising.unitsInUse = 2 ∧ raising.cfg.boiler.motorAllowance = 2 ∧
      (boilerDraft raising.cfg.boiler [(15, 3)]).any (fun b => decide
        (({ raising with cfg := { raising.cfg with boiler := b } } : State).boilerStays ∧
          ({ raising with cfg := { raising.cfg with boiler := b } } : State).minOffElapsed = false ∧
          ({ raising with cfg := { raising.cfg with boiler := b } } : State).mayRun ⟨1, .drive, 0, .normal, 1, false⟩)) =
        true) :=
  ⟨⟨by decide +kernel, by decide +kernel, fun _ => by decide +kernel⟩, queueOk_of _ (by decide +kernel),
    by decide +kernel⟩

/-- Both ends of every range, the relations at their edges. -/
theorem witness_BoilerSetTakesEffectAtOnce_accepted :
    ∀ fields ∈ [boilerRanges.map (fun r => (r.1, r.2.1)), boilerRanges.map (fun r => (r.1, r.2.2)),
        [((9 : Nat), (399 : Int)), (7, 400), (12, 400), (13, 400)]],
      listsInRange boilerRanges fields ∧
      listed fields 9 State.reset.cfg.boiler.baseFlow < listed fields 7 State.reset.cfg.boiler.designFlow ∧
      listed fields 12 State.reset.cfg.boiler.flowMin ≤ listed fields 13 State.reset.cfg.boiler.flowMax ∧
      (State.reset.unitsInUse : Int) ≤ listed fields 15 State.reset.cfg.boiler.motorAllowance := by decide +kernel

theorem witness_RampAndFlowStayWithinTheirLimits :
    ((firing.setField { firing.field with ramp := some ⟨300, 451, 16, 0⟩ }).acting = none ∧
      (firing.setField { firing.field with ramp := some ⟨300, 451, 16, 0⟩ }).field.ramp = some ⟨300, 451, 16, 0⟩ ∧
      (⟨300, 451, 16, 0⟩ : Ramp).timer = 0) ∧
    State.reset.cfg.boiler.inRange = true ∧ ∀ c ∈ channelNumbers, (State.reset.consumer c).served = false := by
  decide +kernel

/-- W served, alone and beside zone 1; the outdoor sensor valid and not. -/
theorem witness_RampAndFlowStayWithinTheirLimits_contributions :
    BoilerCfg.initial.inRange = true ∧
    ((warming .lead 0 true).cfg.boiler.inRange = true ∧ ((warming .lead 0 true).consumer 17).served = true ∧
      ∀ c ∈ zoneNumbers, ((warming .lead 0 true).consumer c).served = false) ∧
    (((warming .lead 0 true).setTable (firing.table.judged true)).flowParts.zoneFlow = some 600 ∧
      State.reset.field.outdoor.valid = false) ∧
    ((after (.sensorSample .outdoor 1250) (sampled State.reset)).field.outdoor.valid = true ∧
      (after (.sensorSample .outdoor 1250) (sampled State.reset)).field.outdoor.value = some 1250) := by decide +kernel

theorem witness_DemandShiftFollowsTheHighestServedDemand :
    (firing.consumer 1).served = true ∧ (firing.zone 1).demand = 1000 ∧ (firing.consumer 17).served = false := by
  decide +kernel

theorem witness_AttentionIsRaisedReadAndMasked :
    PortState.afterBlankReset.attn.length = 16 ∧
    (∀ i ∈ [(⟨15, true, 0⟩ : MaskItem)], i.category < 16 ∧ i.objects &&& ~~~(objectKind i.category).range = 0) ∧
    (∃ i ∈ [(⟨16, true, 0⟩ : MaskItem)], 16 ≤ i.category ∨ i.objects &&& ~~~(objectKind i.category).range ≠ 0) ∧
    (∃ i ∈ [(⟨12, true, 16⟩ : MaskItem)], 16 ≤ i.category ∨ i.objects &&& ~~~(objectKind i.category).range ≠ 0) := by
  decide +kernel

theorem witness_EditClaimIsHeldCommittedOrLost :
    State.reset.claim = none ∧ (claimed.takes .main ∧ claimed.takes .service ∧ shapedB claimed = true) ∧
    claimed.claim.any (fun c => c.holder == .main && invalidProgram c.pool c.programs == none) = true ∧
    ((after (.tableWrite .main 2 0 [.entry 0 1]) claimed).claim.any
      fun c => invalidProgram c.pool c.programs == some 1) = true ∧
    ({ claimed with claim := some ⟨.main, 0, [], []⟩ } : State).claim.all (·.lapse == 0) = true := by
  decide +kernel

theorem witness_ValidTablesHaveDisjointRuns :
    invalidProgram State.reset.cfg.pool State.reset.cfg.programs = none ∧
    invalidProgram (List.replicate 256 ⟨0x7F, .ab, 0, .eco⟩) [⟨254, 1⟩, ⟨255, 1⟩] = none ∧
    invalidProgram (List.replicate 256 ⟨0x7F, .ab, 0, .eco⟩) [⟨254, 1⟩, ⟨255, 2⟩, ⟨254, 1⟩] = some 2 := by decide +kernel

/-- A table with empty programs alone has no program that fails. -/
theorem witness_ValidTablesHaveDisjointRuns_conversely (n : Nat) : ¬ failsValidation [] [⟨3, 0⟩] n := by
  rintro ⟨h, e, he, hl, -⟩
  have : e ∈ [(⟨3, 0⟩ : ProgramEntry)] := List.mem_of_getElem? he
  simp only [List.mem_singleton] at this
  subst this
  exact absurd hl (by decide)

/-- The first and the last table; a cursor before the last part; a cursor of another tag; spans at their ends. -/
theorem witness_TablesAreReadAndWrittenInParts :
    (tableOfTag 1 = some .pool ∧ tableOfTag 27 = some (.plan 17) ∧ tableOfTag 28 = none ∧ tableOfTag (28 - 64) = none) ∧
    ({ State.reset with main := { State.reset.main with cursor := some ⟨2, 16⟩ } }.takes .main ∧
      16 < TableName.programs.size) ∧
    (claimed.claim.all (·.holder == .main) = true ∧ allIn pointIn [.point 127 2 143 3] = some [⟨127, .ab, 143, .comfort⟩] ∧
      255 + 1 ≤ 256 ∧ allIn programIn [.entry 255 32] = some [⟨255, 32⟩] ∧ 23 + 1 ≤ 24) ∧
    (allIn pointIn [.point 128 0 0 0] = none ∧ allIn programIn [.entry 0 33] = none) := by decide +kernel

/-- A free claim; the other port's. -/
theorem witness_TablesAreReadAndWrittenInParts_noClaim :
    (∀ c, State.reset.claim = some c → c.holder ≠ .main) ∧ claimed.takes .service ∧
    (∀ c, claimed.claim = some c → c.holder ≠ .service) :=
  ⟨fun c h => by simp [State.reset] at h, by decide +kernel, fun c h => by cases h; decide⟩

/-- Records of the tag's table, and of the other one. -/
theorem witness_TablesAreReadAndWrittenInParts_form :
    [TableRecord.point 128 0 0 0].all (recordOfTag 1) = true ∧ [TableRecord.entry 0 33].all (recordOfTag 2) = true ∧
    [TableRecord.entry 0 0].all (recordOfTag 1) = false := by decide

/-- An image that is VALID with its check value, nothing waiting. -/
theorem witness_StoreWritesTheSnapshot_check :
    step { State.reset with store := ⟨.defaults, Config.checkValue .defaults, true, none, 0⟩ } =
      .next { State.reset with store := ⟨.defaults, Config.checkValue .defaults, true, none, 0⟩ } := rfl

theorem witness_StoreWritesTheSnapshot :
    { State.reset with store := { State.reset.store with writing := some .defaults } }.store.writing = some .defaults ∧
    { State.reset with store := { State.reset.store with writing := some .defaults } }.acting = none := by decide +kernel

theorem witness_RestartAndStoreWriteHoldRequestsBusy :
    requestOf (.clockGet .main) = some (.main, clockGetRequest) ∧ (after (.restart .service) State.reset).acting = none ∧
    (after (.restart .service) State.reset).restartPending = true ∧
    ((after (.restart .service) State.reset).port .main).tx.servedUnsent = false ∧
    { State.reset with store := { State.reset.store with writing := some .defaults } }.storeWriting = true :=
  ⟨rfl, by decide +kernel, by decide +kernel, by decide +kernel, by decide +kernel⟩

/-- A served reply is being sent; a BUSY reply waits as well. -/
def unsent (queue : List TxFrame) : State :=
  { State.reset with main := { State.reset.main with tx := { sending := some (.served ⟨2, .done {} []⟩), queue } } }

theorem witness_UnservedRequestsAreRefusedOrDiscarded :
    ((unsent []).acting = none ∧ shapedB (unsent []) = true ∧ ((unsent []).port .main).tx.servedUnsent = true ∧
      ∀ f ∈ ((unsent []).port .main).tx.queue, f.isBusy = false) ∧
    (((unsent [.busy ⟨2, .refused .busy⟩]).port .main).tx.servedUnsent = true ∧
      ∃ f ∈ ((unsent [.busy ⟨2, .refused .busy⟩]).port .main).tx.queue, f.isBusy = true) ∧
    (0x64 : Byte) ∉ requestKinds := by decide +kernel

theorem witness_FrameBytesRunTheirRequest :
    requestOf (.clockSet .main 65535 255 255) = some (.main, clockSetRequest 65535 255 255) ∧
    onWire (.clockSet .main 65535 255 255) = true ∧ (payloadOf (.clockSet .main 65535 255 255)).length ≤ 199 ∧
    State.reset.acting = none ∧ State.reset.portsOrdered ∧ (State.reset.port .main).rx = .idle :=
  ⟨rfl, by decide +kernel, by decide +kernel, by decide +kernel, by decide +kernel, by decide +kernel⟩

/-- A port at this point of a frame. -/
def receiving (rx : Receiver) : State := { State.reset with main := { State.reset.main with rx } }

theorem witness_FramesAreDiscardedAndSentInOrder :
    ((receiving .awaitLength).acting = none ∧ shapedB (receiving .awaitLength) = true ∧
      ((receiving .awaitLength).port .main).rx ≠ .idle ∧ 200 < (201 : Byte).toNat) ∧
    (((receiving (.building 1 [0x63])).port .main).rx = .building 1 [0x63] ∧
      BitVec.ofNat 8 1 + [(0x63 : Byte)].foldl (· + ·) 0 + 0 ≠ 0) ∧
    ((receiving .idle).portsOrdered ∧ ((receiving .idle).port .main).rx = .idle) ∧
    (State.reset.main.tx.sending = some (.notice (some 0x4003)) ∧ State.reset.restartPending = false) := by decide +kernel

/-- A length byte of 0 discards the frame. -/
theorem test_length_zero :
    ((after (.byteArrival .main 0) (receiving .awaitLength)).port .main).rx = .idle ∧
    ((after (.frameDiscard .main (.badLength 0)) (receiving .awaitLength)).port .main).rx = .idle ∧
    (after (.byteArrival .main 0) (receiving .awaitLength)).raised .main .frame 0 := by decide +kernel

/-- The invariants hold after reset, and in the plant with the boiler in FIRING. -/
theorem witness_invariants :
    firing.shaped ∧ firing.portsOrdered ∧ firing.stacksOk ∧ firing.movesBounded ∧ firing.burnerFollows ∧ firing.pumpFollows ∧
    firing.tableFollows ∧ firing.neverBlocked ∧ firing.pathOpen ∧ firing.flowInRange :=
  ⟨shaped_of _ (by decide +kernel), by decide +kernel, by decide +kernel, by decide +kernel, by decide +kernel,
    fun _ => by decide +kernel, fun _ => by decide +kernel, fun _ => by decide +kernel, fun _ => by decide +kernel,
    by decide +kernel⟩

theorem witness_StepsKeepOneEntryPerSlot : State.reset.queueOk := queueOk_of _ (by decide +kernel)

end OneAfterTheOther

end Sys2Proof.Tests
end

section
/-! PROOF. The lengths of the run-time lists (R12, R45, R68, R84, R106, R155, R176): which each operation keeps. -/

namespace Sys2Proof.Machine

/-! ## The sizes of the run-time lists -/

/-- The lengths of the part's run-time lists: the plan of each channel, zones, consumer table, heads, wanted targets,
inputs, and the attention categories of each port. -/
def State.sizes (s : State) : List Nat × Nat × Nat × Nat × Nat × Nat × Nat × Nat :=
  (s.channels.map (·.plan.length), s.zones.length, s.table.entries.length, s.heads.length, s.arbiter.wanted.length,
    s.field.inputs.length, s.main.attn.length, s.service.attn.length)

/-- The lengths the part has. -/
def partSizes : List Nat × Nat × Nat × Nat × Nat × Nat × Nat × Nat :=
  (List.replicate 17 288, 16, 17, 32, 32, 4, 16, 16)

/-- What the blocks of the stored set have of the shape: the live set, a VALID image, a snapshot being written and a
staging copy (R188). -/
def State.storedShaped (s : State) : Prop :=
  s.cfg.shaped = true ∧ (s.store.imageValid = true → s.store.image.shaped = true) ∧
    s.store.writing.all Stored.shaped = true ∧
    s.claim.all (fun c => c.pool.length == 256 && c.programs.length == 24) = true

theorem planSizes_iff (l : List ChannelRun) :
    l.map (·.plan.length) = List.replicate 17 288 ↔ l.length = 17 ∧ ∀ r ∈ l, r.plan.length = 288 := by
  rw [List.eq_replicate_iff]; simp

theorem shaped_iff (s : State) : s.shaped ↔ s.storedShaped ∧ s.sizes = partSizes := by
  have hport : (∀ p, (s.port p).attn.length = 16) ↔ s.main.attn.length = 16 ∧ s.service.attn.length = 16 :=
    ⟨fun h => ⟨h .main, h .service⟩, fun ⟨hm, hs⟩ p => by cases p <;> assumption⟩
  simp only [State.shaped, State.storedShaped, State.sizes, partSizes, Prod.mk.injEq, hport, planSizes_iff]
  tauto

/-! ### Updates -/

theorem map_setItem {α β : Type} (f : α → β) (l : List α) (n : Nat) (x : α) :
    (setItem l n x).map f = setItem (l.map f) n (f x) := by
  cases n <;> simp [setItem, List.map_set]

/-- An item written back changes nothing. -/
theorem setItem_item {α : Type} (l : List α) (n : Nat) (d : α) : setItem l n (item l n d) = l := by
  cases n with
  | zero => rfl
  | succ k =>
    by_cases hk : k < l.length
    · simp [setItem, item, List.getD, hk]
    · simp [setItem, List.set_eq_of_length_le (Nat.le_of_not_lt hk)]

theorem item_map {α β : Type} (f : α → β) (l : List α) (n : Nat) (d : α) : item (l.map f) n (f d) = f (item l n d) := by
  cases n with
  | zero => rfl
  | succ k => simp only [item, List.getD, List.getElem?_map]; cases l[k]? <;> rfl

@[simp] theorem setStack_sizes (s : State) (c : Nat) (x : List Layer) : (s.setStack c x).sizes = s.sizes := by
  have hplan : (s.channel c).plan.length = item (s.channels.map (·.plan.length)) c 0 :=
    (item_map (·.plan.length) s.channels c ⟨[], []⟩).symm
  simp [State.sizes, map_setItem, hplan, setItem_item]

@[simp] theorem setZone_sizes (s : State) (k : Nat) (z : ZoneRun) : (s.setZone k z).sizes = s.sizes := by
  simp [State.sizes, length_setItem]

@[simp] theorem setPreheat_sizes (s : State) (k : Nat) (p : Preheat) : (s.setPreheat k p).sizes = s.sizes :=
  setZone_sizes _ _ _

@[simp] theorem setHead_sizes (s : State) (v : Nat) (h : Head) : (s.setHead v h).sizes = s.sizes := by
  simp [State.sizes, length_setItem]

@[simp] theorem setInputRec_sizes (s : State) (n : Nat) (r : InputRec) : (s.setInputRec n r).sizes = s.sizes := by
  simp [State.sizes, length_setItem]

@[simp] theorem setSensor_sizes (s : State) (x : Sensor) (r : SensorRec) : (s.setSensor x r).sizes = s.sizes := by
  cases x <;> rfl

@[simp] theorem setWanted_sizes (s : State) (v : Nat) (w : Option Wanted) : (s.setWanted v w).sizes = s.sizes := by
  simp [State.sizes, length_setItem]

@[simp] theorem setQueue_sizes (s : State) (q : List Entry) : (s.setQueue q).sizes = s.sizes := rfl
@[simp] theorem setBoiler_sizes (s : State) (b : Boiler) : (s.setBoiler b).sizes = s.sizes := rfl
@[simp] theorem setLink_sizes (s : State) (l : Link) : (s.setLink l).sizes = s.sizes := rfl
@[simp] theorem setClock_sizes (s : State) (c : Clock) : (s.setClock c).sizes = s.sizes := rfl
@[simp] theorem setClaim_sizes (s : State) (c : Option EditClaim) : (s.setClaim c).sizes = s.sizes := rfl
@[simp] theorem setStore_sizes (s : State) (x : Store) : (s.setStore x).sizes = s.sizes := rfl
@[simp] theorem setCfg_sizes (s : State) (c : Stored) : (s.setCfg c).sizes = s.sizes := rfl
@[simp] theorem setChannelCfg_sizes (s : State) (c : Nat) (x : ChannelCfg) : (s.setChannelCfg c x).sizes = s.sizes := rfl
@[simp] theorem setZoneCfg_sizes (s : State) (k : Nat) (x : ZoneCfg) : (s.setZoneCfg k x).sizes = s.sizes := rfl
@[simp] theorem setValveCfg_sizes (s : State) (v : Nat) (x : ValveCfg) : (s.setValveCfg v x).sizes = s.sizes := rfl
@[simp] theorem setInputCfg_sizes (s : State) (n : Nat) (x : InputCfg) : (s.setInputCfg n x).sizes = s.sizes := rfl
@[simp] theorem setParks_sizes (s : State) (ps : List (Option Park)) : (s.setParks ps).sizes = s.sizes := rfl
@[simp] theorem setMasks_sizes (s : State) (p : Port) (ms : List Mask) : (s.setMasks p ms).sizes = s.sizes := rfl

@[simp] theorem setField_setField (s : State) (f g : FieldIO) : (s.setField f).setField g = s.setField g := rfl

/-- A change of field I/O that keeps the inputs in number keeps the sizes. -/
theorem setField_sizes (s : State) (f : FieldIO) (h : f.inputs.length = s.field.inputs.length) :
    (s.setField f).sizes = s.sizes := by simp [State.sizes, h]

theorem setTable_sizes (s : State) (t : ConsumerTable) (h : t.entries.length = s.table.entries.length) :
    (s.setTable t).sizes = s.sizes := by simp [State.sizes, h]

theorem setArbiter_sizes (s : State) (a : Arbiter) (h : a.wanted.length = s.arbiter.wanted.length) :
    (s.setArbiter a).sizes = s.sizes := by simp [State.sizes, h]

theorem setPort_sizes (s : State) (p : Port) (x : PortState) (h : x.attn.length = (s.port p).attn.length) :
    (s.setPort p x).sizes = s.sizes := by
  cases p <;> simp_all [State.sizes, State.setPort, State.port]

/-! ### Ports -/

@[simp] theorem setRx_sizes (s : State) (p : Port) (x : Receiver) : (s.setRx p x).sizes = s.sizes :=
  setPort_sizes _ _ _ rfl

@[simp] theorem setCursor_sizes (s : State) (p : Port) (x : Option Cursor) : (s.setCursor p x).sizes = s.sizes :=
  setPort_sizes _ _ _ rfl

@[simp] theorem frameDone_sizes (s : State) (p : Port) : (s.frameDone p).sizes = s.sizes := setPort_sizes _ _ _ rfl

@[simp] theorem pushTx_sizes (s : State) (p : Port) (f : TxFrame) : (s.pushTx p f).sizes = s.sizes :=
  setPort_sizes _ _ _ rfl

@[simp] theorem raiseAt_sizes (s : State) (p : Port) (c : Category) (o : ObjectSet) (m : Byte) :
    (s.raiseAt p c o m).sizes = s.sizes :=
  setPort_sizes _ _ _ (raise_attn_length ..)

@[simp] theorem raise_sizes (s : State) (c : Category) (o : ObjectSet) : (s.raise c o).sizes = s.sizes := by
  simp [State.raise]

@[simp] theorem raiseStore_sizes (s : State) (m : Byte) : (s.raiseStore m).sizes = s.sizes := by
  simp [State.raiseStore]

@[simp] theorem endEvent_sizes (s : State) : s.endEvent.sizes = s.sizes := by simp [State.sizes]

@[simp] theorem discardFrame_sizes (s : State) (p : Port) : (s.discardFrame p).sizes = s.sizes := by
  simp [State.discardFrame]

@[simp] theorem refreshLapse_sizes (s : State) (p : Port) : (s.refreshLapse p).sizes = s.sizes := rfl

/-! ### Layers and link commands -/

@[simp] theorem makeRoom_sizes (s : State) (c : Nat) : (s.makeRoom c).sizes = s.sizes := by
  simp only [State.makeRoom]; split <;> simp

@[simp] theorem placeLayer_sizes (s : State) (c : Nat) (l : Layer) : (s.placeLayer c l).sizes = s.sizes := by
  simp [State.placeLayer]

@[simp] theorem placeWindow_sizes (s : State) (k : Nat) (o : Origin) : (s.placeWindow k o).sizes = s.sizes := by
  simp only [State.placeWindow]; split <;> simp

@[simp] theorem addCommand_sizes (s : State) (v : Nat) (r : LinkRequest) : (s.addCommand v r).sizes = s.sizes := rfl

@[simp] theorem dropCommands_sizes (s : State) (v : Nat) : (s.dropCommands v).sizes = s.sizes := rfl

/-! ### Move arbiter -/

@[simp] theorem newEntry_sizes (s : State) (v : Nat) (op : MoveOp) (t : Nat) (c : MoveClass) :
    (s.newEntry v op t c).sizes = s.sizes := rfl

@[simp] theorem updateEntry_sizes (s : State) (v : Nat) (f : Entry → Entry) : (s.updateEntry v f).sizes = s.sizes := rfl

@[simp] theorem removeEntry_sizes (s : State) (v : Nat) : (s.removeEntry v).sizes = s.sizes := rfl

@[simp] theorem remark_sizes (s : State) : s.remark.sizes = s.sizes := rfl

@[simp] theorem joinDrive_sizes (s : State) (v t : Nat) (c : MoveClass) : (s.joinDrive v t c).sizes = s.sizes := by
  simp only [State.joinDrive]; split <;> simp

@[simp] theorem requestHoming_sizes (s : State) (v : Nat) : (s.requestHoming v).sizes = s.sizes := by
  simp only [State.requestHoming]; repeat' split
  all_goals simp

@[simp] theorem dropRegulated_sizes (s : State) (v : Nat) : (s.dropRegulated v).sizes = s.sizes := by
  simp only [State.dropRegulated]; repeat' split
  all_goals simp

@[simp] theorem offer_sizes (s : State) (v : Nat) : (s.offer v).sizes = s.sizes := by
  simp only [State.offer]; repeat' split
  all_goals simp

@[simp] theorem formAndOffer_sizes (s : State) (v : Nat) : (s.formAndOffer v).sizes = s.sizes := by
  simp [State.formAndOffer]

@[simp] theorem formAll_sizes (s : State) (vs : List Nat) : (s.formAll vs).sizes = s.sizes :=
  foldl_keeps State.formAndOffer State.sizes formAndOffer_sizes vs s

@[simp] theorem formSinks_sizes (s : State) (b : Bool) : (s.formSinks b).sizes = s.sizes := by
  simp [State.formSinks, setArbiter_sizes]

@[simp] theorem setSinkOpen_sizes (s : State) (b : Bool) : (s.setSinkOpen b).sizes = s.sizes := by
  simp only [State.setSinkOpen]; split <;> simp

@[simp] theorem setHeatDump_sizes (s : State) (b : Bool) : (s.setHeatDump b).sizes = s.sizes := by
  simp [State.setHeatDump]

@[simp] theorem grant_sizes (s : State) (e : Entry) : (s.grant e).sizes = s.sizes := by simp [State.grant]

@[simp] theorem grantRound_sizes (s : State) : s.grantRound.sizes = s.sizes :=
  grantRound_induct (·.sizes = s.sizes) (fun _ _ h _ => by simpa using h) s rfl

@[simp] theorem exercise_sizes (s : State) : s.exercise.sizes = s.sizes := by
  simp only [State.exercise]
  split
  · exact foldl_keeps _ State.sizes (fun s v => by split <;> simp) slotNumbers s
  · rfl

@[simp] theorem nextTransaction_sizes (s : State) : s.nextTransaction.sizes = s.sizes := by
  simp only [State.nextTransaction]; repeat' split
  all_goals simp

/-! ### Consumer table and boiler -/

@[simp] theorem judgeTable_sizes (s : State) : s.judgeTable.sizes = s.sizes := by
  have h : (s.setTable (s.table.judged s.boiler.state.warm)).sizes = s.sizes :=
    setTable_sizes _ _ (by simp [ConsumerTable.judged])
  simp only [State.judgeTable]; split <;> simp [h]

@[simp] theorem handRamp_sizes (s : State) (a b : Nat) : (s.handRamp a b).sizes = s.sizes := by
  simp only [State.handRamp]; split <;> rfl

@[simp] theorem stopRamp_sizes (s : State) : s.stopRamp.sizes = s.sizes := rfl

@[simp] theorem setPump_sizes (s : State) : s.setPump.sizes = s.sizes := rfl

@[simp] theorem withFlow_sizes (s : State) : s.withFlow.sizes = s.sizes := rfl

@[simp] theorem recomputeFlow_sizes (s : State) : s.recomputeFlow.sizes = s.sizes := by
  simp only [State.recomputeFlow]; split <;> simp

@[simp] theorem handRequest_sizes (s : State) (c l : Nat) : (s.handRequest c l).sizes = s.sizes := by
  have h (e : Consumer) : (s.setTable { s.table with entries := setItem s.table.entries c e }).sizes = s.sizes :=
    setTable_sizes _ _ (length_setItem ..)
  simp only [State.handRequest]; split <;> simp [h]

@[simp] theorem handZoneRequest_sizes (s : State) (k : Nat) : (s.handZoneRequest k).sizes = s.sizes :=
  handRequest_sizes ..

@[simp] theorem handWRequest_sizes (s : State) : s.handWRequest.sizes = s.sizes := handRequest_sizes ..

@[simp] theorem enterState_sizes (s : State) (b : Boiler) : (s.enterState b).sizes = s.sizes := by
  simp [State.enterState]

@[simp] theorem closeSinks_sizes (s : State) : s.closeSinks.sizes = s.sizes := by
  simp only [State.closeSinks]; split <;> simp

@[simp] theorem openSinksIfShort_sizes (s : State) : s.openSinksIfShort.sizes = s.sizes := by
  simp only [State.openSinksIfShort]; split <;> simp

@[simp] theorem enterIdle_sizes (s : State) : s.enterIdle.sizes = s.sizes := by simp [State.enterIdle]

@[simp] theorem enterRest_sizes (s : State) : s.enterRest.sizes = s.sizes := by simp [State.enterRest]

@[simp] theorem enterLead_sizes (s : State) : s.enterLead.sizes = s.sizes := by simp [State.enterLead]

@[simp] theorem enterFiring_sizes (s : State) : s.enterFiring.sizes = s.sizes := by
  simp [State.enterFiring, setField_sizes]

@[simp] theorem endHold_sizes (s : State) : s.endHold.sizes = s.sizes := by
  simp only [State.endHold]; split <;> simp

@[simp] theorem burnerOut_sizes (s : State) : s.burnerOut.sizes = s.sizes := by
  simp [State.burnerOut, setField_sizes]

@[simp] theorem enterOverrun_sizes (s : State) : s.enterOverrun.sizes = s.sizes := by simp [State.enterOverrun]

@[simp] theorem enterFaulted_sizes (s : State) : s.enterFaulted.sizes = s.sizes := by
  simp only [State.enterFaulted]; split <;> simp

@[simp] theorem leadExpiry_sizes (s : State) : s.leadExpiry.sizes = s.sizes := by
  simp only [State.leadExpiry]; repeat' split
  all_goals simp

theorem firingMove_sizes (s t : State) (before : Nat → Nat) (cue : Cue) (h : s.firingMove before cue = some t) :
    t.sizes = s.sizes := by
  simp only [State.firingMove] at h
  repeat' split at h
  all_goals cases h <;> simp

theorem leadMove_sizes (s t : State) (h : s.leadMove = some t) : t.sizes = s.sizes := by
  simp only [State.leadMove] at h
  repeat' split at h
  all_goals cases h <;> simp

theorem boilerMove_sizes (s t : State) (before : Nat → Nat) (cue : Cue) (h : s.boilerMove before cue = some t) :
    t.sizes = s.sizes := by
  unfold State.boilerMove at h
  split at h
  · split at h <;> cases h
    simp
  · split at h
    · cases h; simp
    · split at h
      case h_2 => exact leadMove_sizes s t h
      case h_3 => exact firingMove_sizes s t before cue h
      case h_6 => cases h
      all_goals split at h <;> cases h
      all_goals simp

@[simp] theorem settleWith_sizes (s : State) (before : Nat → Nat) (cue : Cue) :
    (s.settleWith before cue).sizes = s.sizes :=
  settleWith_induct (·.sizes = s.sizes) before cue s
    (fun u cue t hu ht => (boilerMove_sizes u t before cue ht).trans hu)
    (fun _ h => by simpa using h) (fun _ _ h _ => by simpa using h) (fun _ h => by simpa using h)
    (fun _ h => by simpa using h) rfl

@[simp] theorem settle_sizes (s b : State) : (s.settle b).sizes = s.sizes := settleWith_sizes ..

@[simp] theorem settleJudging_sizes (s b : State) : (s.settleJudging b).sizes = s.sizes := settleWith_sizes ..

/-! ### Schedule and regulator -/

@[simp] theorem abandonPreheat_sizes (s : State) (k : Nat) : (s.abandonPreheat k).sizes = s.sizes := setPreheat_sizes ..

@[simp] theorem abandonAll_sizes (s : State) : s.abandonAll.sizes = s.sizes :=
  foldl_keeps State.abandonPreheat State.sizes abandonPreheat_sizes zoneNumbers s

@[simp] theorem preheatRises_sizes (s : State) : s.preheatRises.sizes = s.sizes :=
  foldl_keeps _ State.sizes (fun _ _ => setPreheat_sizes ..) zoneNumbers s

@[simp] theorem preheatSearch_sizes (s : State) (k : Nat) : (s.preheatSearch k).sizes = s.sizes := by
  simp only [State.preheatSearch]; repeat' split
  all_goals simp

@[simp] theorem spoilCheck_sizes (s : State) (k : Nat) : (s.spoilCheck k).sizes = s.sizes := setPreheat_sizes ..

@[simp] theorem learnWith_sizes (s : State) (k : Nat) (r : PreheatRun) (x : Preheat) :
    (s.learnWith k r x).sizes = s.sizes := by
  simp only [State.learnWith]; repeat' split
  all_goals simp

@[simp] theorem preheatLearn_sizes (s : State) (k : Nat) : (s.preheatLearn k).sizes = s.sizes := by
  simp only [State.preheatLearn]; split <;> simp

@[simp] theorem optimumStart_sizes (s : State) (k : Nat) : (s.optimumStart k).sizes = s.sizes := by
  simp [State.optimumStart]

@[simp] theorem takeReading_sizes (s : State) (k : Nat) (t : Temp) : (s.takeReading k t).sizes = s.sizes := by
  simp only [State.takeReading]; split <;> simp

@[simp] theorem takeHeadReading_sizes (s : State) (v : Nat) (t : Temp) : (s.takeHeadReading v t).sizes = s.sizes :=
  foldl_keeps _ State.sizes (fun _ _ => by split <;> simp) zoneNumbers s

@[simp] theorem windowDetection_sizes (s : State) (k : Nat) : (s.windowDetection k).sizes = s.sizes := by
  simp only [State.windowDetection]; split <;> simp

@[simp] theorem demandStage_sizes (s : State) (k : Nat) : (s.demandStage k).sizes = s.sizes := by
  simp only [State.demandStage, State.regulate, State.sensorlessStage]; repeat' split
  all_goals simp

@[simp] theorem callStage_sizes (s : State) (k : Nat) : (s.callStage k).sizes = s.sizes := setZone_sizes ..

@[simp] theorem handOn_sizes (s : State) (k n : Nat) : (s.handOn k n).sizes = s.sizes := by
  simp only [State.handOn]; split <;> simp

@[simp] theorem pass_sizes (s : State) (k : Nat) : (s.pass k).sizes = s.sizes := by simp [State.pass]

@[simp] theorem cylinderSample_sizes (s : State) : s.cylinderSample.sizes = s.sizes := handWRequest_sizes _

/-! ### Valve link -/

@[simp] theorem enterStalled_sizes (s : State) (v : Nat) : (s.enterStalled v).sizes = s.sizes := by
  simp [State.enterStalled]

@[simp] theorem endMove_sizes (s : State) (v : Nat) (st : HeadState) : (s.endMove v st).sizes = s.sizes :=
  setHead_sizes ..

@[simp] theorem becomeReady_sizes (s : State) (v : Nat) : (s.becomeReady v).sizes = s.sizes := by
  simp [State.becomeReady]

@[simp] theorem completeMove_sizes (s : State) (v : Nat) : (s.completeMove v).sizes = s.sizes := by
  simp [State.completeMove]

@[simp] theorem unknownReply_sizes (s : State) (v : Nat) (x : ReplyKind) : (s.unknownReply v x).sizes = s.sizes := by
  cases x <;> simp [State.unknownReply]

@[simp] theorem readyReply_sizes (s : State) (v : Nat) (x : ReplyKind) : (s.readyReply v x).sizes = s.sizes := by
  cases x <;> simp [State.readyReply]

@[simp] theorem movingReply_sizes (s : State) (v : Nat) (x : ReplyKind) : (s.movingReply v x).sizes = s.sizes := by
  cases x
  case uncalibrated => simp only [State.movingReply]; split <;> simp
  all_goals simp [State.movingReply]

@[simp] theorem ownReply_sizes (s : State) (v : Nat) (x : ReplyKind) : (s.ownReply v x).sizes = s.sizes := by
  cases x <;> simp [State.ownReply]

@[simp] theorem stalledReply_sizes (s : State) (v : Nat) (x : ReplyKind) : (s.stalledReply v x).sizes = s.sizes := by
  cases x <;> simp [State.stalledReply]

@[simp] theorem replyByState_sizes (s : State) (v : Nat) (o : Bool) (x : ReplyKind) :
    (s.replyByState v o x).sizes = s.sizes := by
  simp only [State.replyByState]; repeat' split
  all_goals simp

@[simp] theorem goodReply_sizes (s : State) (t : Transaction) (r : StatusReply) : (s.goodReply t r).sizes = s.sizes := by
  simp only [State.goodReply]; split <;> simp

@[simp] theorem becomeAbsent_sizes (s : State) (v : Nat) : (s.becomeAbsent v).sizes = s.sizes := by
  simp [State.becomeAbsent]

@[simp] theorem missed_sizes (s : State) (t : Transaction) : (s.missed t).sizes = s.sizes := by
  simp only [State.missed]; repeat' split
  all_goals simp

@[simp] theorem timeOut_sizes (s : State) (v : Nat) : (s.timeOut v).sizes = s.sizes := by simp [State.timeOut]

@[simp] theorem endMoves_sizes (s : State) (vs : List Nat) : (s.endMoves vs).sizes = s.sizes :=
  foldl_keeps _ State.sizes (fun _ _ => endMove_sizes ..) vs s

@[simp] theorem enterLinkFault_sizes (s : State) : s.enterLinkFault.sizes = s.sizes := by simp [State.enterLinkFault]

@[simp] theorem stallRetry_sizes (s : State) (v : Nat) : (s.stallRetry v).sizes = s.sizes := by simp [State.stallRetry]

@[simp] theorem supplyStop_sizes (s : State) : s.supplyStop.sizes = s.sizes := by
  have h (u : State) (vs : List Nat) : (vs.foldl (fun s v => (s.endMove v .unknown).addCommand v .stop) u).sizes = u.sizes :=
    foldl_keeps _ State.sizes (fun s v => by simp) vs u
  simp [State.supplyStop, h, setField_sizes]

theorem qualify_inputs (f : FieldIO) (n : Nat) : (f.qualify n).inputs = f.inputs := by
  unfold FieldIO.qualify; split <;> rfl

@[simp] theorem measureSupply_sizes (s : State) (n : Nat) : (s.measureSupply n).sizes = s.sizes := by
  simp only [State.measureSupply]; repeat' split
  all_goals simp [setField_sizes, qualify_inputs]

/-! ### Setpoint unit and field -/

@[simp] theorem contactOpens_sizes (s : State) (k : Nat) : (s.contactOpens k).sizes = s.sizes := by
  simp only [State.contactOpens]; split <;> simp

@[simp] theorem contactCloses_sizes (s : State) (k : Nat) : (s.contactCloses k).sizes = s.sizes := by
  simp only [State.contactCloses]; split <;> simp

@[simp] theorem boost_sizes (s : State) (k : Nat) (t : Temp) (n : Nat) : (s.boost k t n).sizes = s.sizes := by
  simp only [State.boost]; split <;> simp

@[simp] theorem clearStack_sizes (s : State) (c : Nat) : (s.clearStack c).sizes = s.sizes := setStack_sizes ..

@[simp] theorem parkIn_sizes (s : State) (k n : Nat) : (s.parkIn k n).sizes = s.sizes := by simp [State.parkIn]

@[simp] theorem unparkFrom_sizes (s : State) (k n : Nat) (x : Park) : (s.unparkFrom k n x).sizes = s.sizes := by
  simp only [State.unparkFrom]; split <;> simp

@[simp] theorem judgeSample_sizes (s : State) (y : Sensor) (t : Temp) : (s.judgeSample y t).sizes = s.sizes := by
  simp only [State.judgeSample]; split <;> simp

@[simp] theorem overheat_sizes (s : State) : s.overheat.sizes = s.sizes := by
  simp only [State.overheat]; split <;> simp

@[simp] theorem endDump_sizes (s : State) : s.endDump.sizes = s.sizes := by
  simp only [State.endDump, State.clearDump]; repeat' split
  all_goals simp

@[simp] theorem handSample_sizes (s : State) (y : Sensor) : (s.handSample y).sizes = s.sizes := by
  cases y
  case flow => simp only [State.handSample, State.flowSample]; repeat' split
               all_goals simp
  all_goals simp [State.handSample]

@[simp] theorem becomesActive_sizes (s : State) (f : InputFunction) : (s.becomesActive f).sizes = s.sizes := by
  cases f <;> simp [State.becomesActive]

@[simp] theorem becomesInactive_sizes (s : State) (f : InputFunction) : (s.becomesInactive f).sizes = s.sizes := by
  cases f <;> simp [State.becomesInactive]

@[simp] theorem edge_sizes (s : State) (n : Nat) (f : InputFunction) : (s.edge n f).sizes = s.sizes := by
  cases f <;> simp [State.edge]

@[simp] theorem changeInput_sizes (s : State) (n : Nat) (b : Bool) : (s.changeInput n b).sizes = s.sizes := by
  simp only [State.changeInput]; repeat' split
  all_goals simp

@[simp] theorem establishInput_sizes (s : State) (n : Nat) (b : Bool) : (s.establishInput n b).sizes = s.sizes := by
  simp only [State.establishInput]; split <;> simp

@[simp] theorem sampleInput_sizes (s : State) (n : Nat) (b : Bool) : (s.sampleInput n b).sizes = s.sizes := by
  simp only [State.sampleInput]; split <;> simp

@[simp] theorem reconfigureInput_sizes (s : State) (n : Nat) (x : InputCfg) : (s.reconfigureInput n x).sizes = s.sizes := by
  simp only [State.reconfigureInput]; repeat' split
  all_goals simp

@[simp] theorem rampStep_sizes (s : State) : s.rampStep.sizes = s.sizes := by
  simp only [State.rampStep]; split <;> rfl

/-! ### Time base and settings -/

@[simp] theorem endUntilNextOf_sizes (s : State) (o : Nat → Level) (c : Nat) : (s.endUntilNextOf o c).sizes = s.sizes := by
  simp only [State.endUntilNextOf]; split <;> simp

@[simp] theorem duePass_sizes (s : State) (k : Nat) : (s.duePass k).sizes = s.sizes := by
  simp only [State.duePass]; split <;> simp

@[simp] theorem elapsedMinute_sizes (s : State) : s.elapsedMinute.sizes = s.sizes := by
  have h (u : State) : (zoneNumbers.foldl State.duePass u).sizes = u.sizes :=
    foldl_keeps _ State.sizes duePass_sizes zoneNumbers u
  simp only [State.elapsedMinute, h]
  simp [State.sizes, ChannelRun.countDown, Function.comp_def]

@[simp] theorem tick_sizes (s : State) : s.tick.sizes = s.sizes := by
  have h : s.field.tick.inputs = s.field.inputs := by simp only [FieldIO.tick]; split <;> rfl
  simp [State.sizes, State.tick, h]

@[simp] theorem writeDraft_sizes (s : State) (c : Nat) (d : ChannelDraft) : (s.writeDraft c d).sizes = s.sizes := by
  simp only [State.writeDraft]; split <;> simp

@[simp] theorem handRequestOf_sizes (s : State) (c : Nat) : (s.handRequestOf c).sizes = s.sizes := by
  simp only [State.handRequestOf]; split <;> simp

@[simp] theorem reassignEntry_sizes (s : State) (v : Nat) : (s.reassignEntry v).sizes = s.sizes := by
  simp only [State.reassignEntry]; repeat' split
  all_goals simp

@[simp] theorem roleEffects_sizes (s : State) (v : Nat) (x y : Role) : (s.roleEffects v x y).sizes = s.sizes := by
  simp only [State.roleEffects]; repeat' split
  all_goals simp

end Sys2Proof.Machine
end

section
/-! PROOF. The shape of the state, kept by every command (O53). -/

namespace Sys2Proof.Machine
/-! ### Plans -/

theorem item_mem {α : Type} (l : List α) (n : Nat) (d : α) (h : 1 ≤ n) (hl : n ≤ l.length) : item l n d ∈ l := by
  obtain ⟨k, rfl⟩ : ∃ k, n = k + 1 := ⟨n - 1, by omega⟩
  have hk : k < l.length := by omega
  simp [item, List.getD, hk]

/-- A write outside the list changes nothing. -/
theorem setItem_outside {α : Type} (l : List α) (n : Nat) (x : α) (h : n = 0 ∨ l.length < n) : setItem l n x = l := by
  cases n with
  | zero => rfl
  | succ k => exact List.set_eq_of_length_le (by omega)

/-- The plan of an existing channel of a part in shape has 288 entries. -/
theorem plan_length (s : State) (c : Nat) (h : s.sizes = partSizes) (hc : 1 ≤ c) (hl : c ≤ 17) :
    (s.channel c).plan.length = 288 := by
  obtain ⟨hlen, hplan⟩ := (planSizes_iff s.channels).mp (congrArg Prod.fst h)
  exact hplan _ (item_mem _ _ _ hc (by omega))

/-- A plan of 288 entries keeps the shape. -/
theorem setPlan_sizes (s : State) (c : Nat) (x : List Level) (h : s.sizes = partSizes)
    (hx : 1 ≤ c → c ≤ 17 → x.length = 288) : (s.setPlan c x).sizes = partSizes := by
  have hlen := ((planSizes_iff s.channels).mp (congrArg Prod.fst h)).1
  rw [← h]
  by_cases hc : c = 0 ∨ 17 < c
  · simp [State.sizes, setItem_outside s.channels c _ (by omega)]
  · have hold := plan_length s c h (by omega) (by omega)
    have hplan : x.length = item (s.channels.map (·.plan.length)) c 0 := by
      rw [hx (by omega) (by omega), ← hold]
      exact (item_map (·.plan.length) s.channels c ⟨[], []⟩).symm
    simp [State.sizes, map_setItem, hplan, setItem_item]

@[simp] theorem compileDay_length (s : State) (c day : Nat) (q : Parity) : (s.compileDay c day q).length = 144 := by
  simp only [State.compileDay]; split <;> simp

@[simp] theorem compileTomorrow_length (s : State) (c : Nat) : (s.compileTomorrow c).length = 144 :=
  compileDay_length ..

@[simp] theorem compilePlan_length (s : State) (c : Nat) : (s.compilePlan c).length = 288 := by
  simp [State.compilePlan]

@[simp] theorem compile_sizes (s : State) (c : Nat) (h : s.sizes = partSizes) : (s.compile c).sizes = partSizes :=
  setPlan_sizes _ _ _ h (fun _ _ => compilePlan_length ..)

@[simp] theorem compileAll_sizes (s : State) (h : s.sizes = partSizes) : s.compileAll.sizes = partSizes :=
  foldl_induct (·.sizes = partSizes) State.compile channelNumbers (fun s c _ => compile_sizes s c) s h

theorem midnightPlan_sizes (s : State) (c : Nat) (h : s.sizes = partSizes) : (s.midnightPlan c).sizes = partSizes :=
  setPlan_sizes _ _ _ h (fun h1 h2 => by simp [plan_length s c h h1 h2])

@[simp] theorem slotBoundary_sizes (s : State) (old : Nat → Level) (h : s.sizes = partSizes) :
    (s.slotBoundary old).sizes = partSizes := by
  have hends (u : State) : (channelNumbers.foldl (fun s c => s.endUntilNextOf old c) u).sizes = u.sizes :=
    foldl_keeps _ State.sizes (fun _ _ => endUntilNextOf_sizes ..) channelNumbers u
  have hplans : (channelNumbers.foldl State.midnightPlan s).sizes = partSizes :=
    foldl_induct (·.sizes = partSizes) State.midnightPlan channelNumbers (fun s c _ => midnightPlan_sizes s c) s h
  simp only [State.slotBoundary]; split <;> simp [hends, hplans, h]

@[simp] theorem wallMinute_sizes (s : State) (h : s.sizes = partSizes) : s.wallMinute.sizes = partSizes := by
  simp only [State.wallMinute]; repeat' split
  all_goals simp [h]

@[simp] theorem draftEffects_sizes (s : State) (c : Nat) (x y : ChannelDraft) (h : s.sizes = partSizes) :
    (s.draftEffects c x y).sizes = partSizes := by
  simp only [State.draftEffects]; repeat' split
  all_goals simp [h]

@[simp] theorem commit_sizes (s : State) (c : EditClaim) (h : s.sizes = partSizes) : (s.commit c).sizes = partSizes := by
  simp [State.commit, h]

/-! ### Resets -/

theorem reset_sizes : State.reset.sizes = partSizes := by
  simp only [State.sizes, partSizes, Prod.mk.injEq]
  decide +kernel

theorem loadedFrom_sizes (s : State) (cold : Bool) : (s.loadedFrom cold).sizes = partSizes := by
  rw [← reset_sizes]; rfl

@[simp] theorem resetRaises_sizes (s : State) (cold : Bool) : (s.resetRaises cold).sizes = s.sizes := by
  simp only [State.resetRaises]; repeat' split
  all_goals simp

@[simp] theorem startBlocks_sizes (s : State) (h : s.sizes = partSizes) : s.startBlocks.sizes = partSizes := by
  simp [State.startBlocks, h]

theorem bootFrom_sizes (s : State) (cold : Bool) : (s.bootFrom cold).sizes = partSizes := by
  simp [State.bootFrom, loadedFrom_sizes]

@[simp] theorem nextStop_sizes (s : State) (vs : List Nat) : (s.nextStop vs).sizes = s.sizes := by
  cases vs <;> rfl

@[simp] theorem nextStop_keeps (s : State) (vs : List Nat) :
    (s.nextStop vs).cfg = s.cfg ∧ (s.nextStop vs).store = s.store ∧ (s.nextStop vs).claim = s.claim := by
  cases vs <;> exact ⟨rfl, rfl, rfl⟩

@[simp] theorem warmStart_sizes (s : State) : s.warmStart.sizes = s.sizes := by
  simp only [State.warmStart, nextStop_sizes]; rfl

/-! ## The stored set -/

@[simp] theorem shaped_setChannels (x : Stored) (c : Nat) (y : ChannelCfg) :
    ({ x with channels := setItem x.channels c y } : Stored).shaped = x.shaped := by simp [Stored.shaped, length_setItem]

@[simp] theorem shaped_setZones (x : Stored) (k : Nat) (y : ZoneCfg) :
    ({ x with zones := setItem x.zones k y } : Stored).shaped = x.shaped := by simp [Stored.shaped, length_setItem]

@[simp] theorem shaped_setValves (x : Stored) (v : Nat) (y : ValveCfg) :
    ({ x with valves := setItem x.valves v y } : Stored).shaped = x.shaped := by simp [Stored.shaped, length_setItem]

@[simp] theorem shaped_setInputs (x : Stored) (n : Nat) (y : InputCfg) :
    ({ x with inputs := setItem x.inputs n y } : Stored).shaped = x.shaped := by simp [Stored.shaped, length_setItem]

@[simp] theorem shaped_setBoiler (x : Stored) (b : BoilerCfg) : ({ x with boiler := b } : Stored).shaped = x.shaped := rfl

@[simp] theorem learnWith_shaped (s : State) (k : Nat) (r : PreheatRun) (x : Preheat) :
    (s.learnWith k r x).cfg.shaped = s.cfg.shaped := by
  simp only [State.learnWith]; repeat' split
  all_goals simp

@[simp] theorem preheatLearn_shaped (s : State) (k : Nat) : (s.preheatLearn k).cfg.shaped = s.cfg.shaped := by
  simp only [State.preheatLearn]; split <;> simp

@[simp] theorem pass_shaped (s : State) (k : Nat) : (s.pass k).cfg.shaped = s.cfg.shaped := by
  simp [State.pass, State.optimumStart]

@[simp] theorem parkIn_shaped (s : State) (k n : Nat) : (s.parkIn k n).cfg.shaped = s.cfg.shaped := by
  simp [State.parkIn, Stored.shaped, length_setItem]

@[simp] theorem unparkFrom_shaped (s : State) (k n : Nat) (x : Park) :
    (s.unparkFrom k n x).cfg.shaped = s.cfg.shaped := by
  simp only [State.unparkFrom]
  split <;> simp [Stored.shaped, length_setItem]

@[simp] theorem writeDraft_shaped (s : State) (c : Nat) (d : ChannelDraft) :
    (s.writeDraft c d).cfg.shaped = s.cfg.shaped := by
  simp only [State.writeDraft]
  split <;> simp [Stored.shaped, length_setItem]

@[simp] theorem reconfigureInput_shaped (s : State) (n : Nat) (x : InputCfg) :
    (s.reconfigureInput n x).cfg.shaped = s.cfg.shaped := by
  simp only [State.reconfigureInput]; repeat' split
  all_goals simp

theorem maskOf_length (items : List MaskItem) : (maskOf items).length = 16 := by simp [maskOf]

theorem setMasks_shaped (s : State) (p : Port) (ms : List Mask) (hm : ms.length = 16) (h : s.cfg.shaped = true) :
    (s.setMasks p ms).cfg.shaped = true := by
  cases p <;> simp_all [State.setMasks, Stored.shaped]

theorem defaults_shaped : Stored.defaults.shaped = true := by decide +kernel

/-- The store after a reset has what the store before it had of the shape: a write cut short leaves the image INVALID
(R189). -/
theorem afterReset_shaped (x : Store) (h : x.imageValid = true → x.image.shaped = true) :
    x.afterReset.imageValid = true → x.afterReset.image.shaped = true := by
  by_cases hw : x.writing = none <;> simp_all

theorem loaded_shaped (x : Store) (h : x.imageValid = true → x.image.shaped = true) : x.loaded.shaped = true := by
  unfold Store.loaded; split
  · exact h ‹_›
  · exact defaults_shaped

/-! ## The shape, event by event -/

theorem storedShaped_of_shaped {s : State} (h : s.shaped) : s.storedShaped := ((shaped_iff s).mp h).1

theorem sizes_of_shaped {s : State} (h : s.shaped) : s.sizes = partSizes := ((shaped_iff s).mp h).2

/-- A state with the store and the claim of a state in shape, and a live set and lists of the same lengths, is in
shape. -/
theorem shaped_of_kept {s t : State} (h : s.shaped) (hsizes : t.sizes = partSizes)
    (hcfg : t.cfg.shaped = s.cfg.shaped := by simp) (hstore : t.store = s.store := by simp)
    (hclaim : t.claim = s.claim := by simp) : t.shaped := by
  have hs := storedShaped_of_shaped h
  refine (shaped_iff t).mpr ⟨?_, hsizes⟩
  simpa only [State.storedShaped, hcfg, hstore, hclaim] using hs

theorem settle_shaped {s : State} (b : State) (h : s.shaped) : (s.settle b).shaped :=
  shaped_of_kept h (by simp [sizes_of_shaped h])

theorem endEvent_shaped {s : State} (h : s.shaped) : s.endEvent.shaped :=
  shaped_of_kept h (by simp [sizes_of_shaped h])

theorem event_shaped {s : State} (f : State → State) (h : s.shaped) (hf : (f s).shaped) : (s.event f).shaped := by
  unfold State.event; split
  · exact h
  · exact endEvent_shaped hf

theorem plantEvent_shaped {s : State} (f : State → State) (h : s.shaped) (hf : (f s).shaped) :
    (s.plantEvent f).shaped := by
  unfold State.plantEvent; split
  · exact h
  · exact endEvent_shaped (settle_shaped s hf)

/-- An effect on the plant that keeps store, claim, and the lengths of live set and lists keeps the shape in its event. -/
theorem plantEvent_kept {s : State} (f : State → State) (h : s.shaped) (hcfg : (f s).cfg.shaped = s.cfg.shaped := by simp)
    (hstore : (f s).store = s.store := by simp) (hclaim : (f s).claim = s.claim := by simp)
    (hsizes : (f s).sizes = s.sizes := by simp) :
    (s.plantEvent f).shaped :=
  plantEvent_shaped f h (shaped_of_kept h (hsizes.trans (sizes_of_shaped h)) hcfg hstore hclaim)

theorem event_kept {s : State} (f : State → State) (h : s.shaped) (hcfg : (f s).cfg.shaped = s.cfg.shaped := by simp)
    (hstore : (f s).store = s.store := by simp) (hclaim : (f s).claim = s.claim := by simp)
    (hsizes : (f s).sizes = s.sizes := by simp) :
    (s.event f).shaped :=
  event_shaped f h (shaped_of_kept h (hsizes.trans (sizes_of_shaped h)) hcfg hstore hclaim)

/-- The stored set, the store and the claim of a reset are in shape. -/
theorem loadedFrom_shaped {s : State} (cold : Bool) (h : s.shaped) : (s.loadedFrom cold).shaped := by
  obtain ⟨-, himage, -⟩ := storedShaped_of_shaped h
  have himage' := afterReset_shaped s.store himage
  exact (shaped_iff _).mpr ⟨⟨loaded_shaped _ himage', himage', by simp [State.loadedFrom], rfl⟩, loadedFrom_sizes s cold⟩

theorem resetRaises_shaped {s : State} (cold : Bool) (h : s.shaped) : (s.resetRaises cold).shaped := by
  have hs := sizes_of_shaped h
  simp only [State.resetRaises]; repeat' split
  all_goals exact shaped_of_kept h (by simp [hs])

theorem startBlocks_shaped {s : State} (h : s.shaped) : s.startBlocks.shaped :=
  shaped_of_kept h (startBlocks_sizes s (sizes_of_shaped h)) (by simp [State.startBlocks]) (by simp [State.startBlocks])
    (by simp [State.startBlocks])

theorem bootFrom_shaped {s : State} (cold : Bool) (h : s.shaped) : (s.bootFrom cold).shaped :=
  startBlocks_shaped (resetRaises_shaped cold (loadedFrom_shaped cold h))

theorem nextStop_shaped {s : State} (vs : List Nat) (h : s.shaped) : (s.nextStop vs).shaped :=
  shaped_of_kept h (by simp [sizes_of_shaped h])

theorem warmStart_shaped {s : State} (h : s.shaped) : s.warmStart.shaped := by
  obtain ⟨hcfg, himage, hwriting, hclaim⟩ := storedShaped_of_shaped h
  have hstored : s.warmStart.cfg = s.cfg ∧ s.warmStart.store = s.store.afterReset ∧ s.warmStart.claim = s.claim := by
    simp [State.warmStart]
  obtain ⟨h1, h2, h3⟩ := hstored
  refine (shaped_iff _).mpr ⟨?_, by simp [sizes_of_shaped h]⟩
  rw [State.storedShaped, h1, h2, h3]
  exact ⟨hcfg, afterReset_shaped _ himage, by simp, hclaim⟩

/-! ### Time -/

theorem wallMinuteEvent_shaped {s : State} (h : s.shaped) : (wallMinuteEvent s).shaped := by
  unfold wallMinuteEvent; split
  · exact event_shaped _ h (shaped_of_kept h (by simp [sizes_of_shaped h]))
  · exact h

theorem elapsedMinuteEvent_shaped {s : State} (h : s.shaped) : (elapsedMinuteEvent s).shaped := by
  unfold elapsedMinuteEvent; split
  · exact event_kept _ h
  · exact h

theorem secondTickEvent_shaped {s : State} (h : s.shaped) : (secondTickEvent s).shaped := by
  unfold secondTickEvent; split
  · exact shaped_of_kept h (by simp [sizes_of_shaped h])
  · have hm : s.takeMinutes.shaped := wallMinuteEvent_shaped (elapsedMinuteEvent_shaped h)
    obtain ⟨hcfg, himage, hwriting, hclaim⟩ := storedShaped_of_shaped hm
    refine (shaped_iff _).mpr ⟨⟨hcfg, himage, hwriting, ?_⟩, by simp [sizes_of_shaped hm]⟩
    simpa [State.tick, EditClaim.tick, Option.all_map, Function.comp_def] using hclaim

/-! ### Requests -/

/-- A request's work keeps the shape. -/
def Request.KeepsShape (r : Request) : Prop := ∀ s : State, s.shaped → (r.work s).1.shaped

theorem keepsShape_of_kept {r : Request} (h : ∀ s : State, s.sizes = partSizes →
    (r.work s).1.cfg.shaped = s.cfg.shaped ∧ (r.work s).1.store = s.store ∧ (r.work s).1.claim = s.claim ∧
      (r.work s).1.sizes = partSizes) : r.KeepsShape := fun s hs =>
  have ⟨hcfg, hstore, hclaim, hsizes⟩ := h s (sizes_of_shaped hs)
  shaped_of_kept hs hsizes hcfg hstore hclaim

/-- A request that only reads keeps the shape. -/
theorem keepsShape_of_read {r : Request} (h : ∀ s : State, (r.work s).1 = s) : r.KeepsShape :=
  fun s hs => by rw [h]; exact hs

theorem clockSet_keepsShape (m sec q : Nat) : (clockSetRequest m sec q).KeepsShape :=
  keepsShape_of_kept fun s h => by
    simp only [clockSetRequest, clockSetWork]; repeat' split
    all_goals simp [refuse, done, h]

theorem channelSet_keepsShape (c : Nat) (fs : List (Nat × Int)) : (channelSetRequest c fs).KeepsShape :=
  keepsShape_of_kept fun s h => by
    simp only [channelSetRequest, channelSetWork]; repeat' split
    all_goals simp [refuse, done, h]

theorem channelGet_keepsShape (c : Nat) : (channelGetRequest c).KeepsShape :=
  keepsShape_of_read fun s => by simp only [channelGetRequest, channelGetWork]; split <;> rfl

theorem roomTemp_keepsShape (k : Nat) (t : Temp) : (roomTempRequest k t).KeepsShape :=
  keepsShape_of_kept fun s h => by
    simp only [roomTempRequest, roomTempWork]; repeat' split
    all_goals simp [refuse, h]

/-- Layers placed on some channels change their stacks alone, and raise attention. -/
theorem placeLayers_kept (l : State → Nat → Layer) (cs : List Nat) (s : State) :
    let t := cs.foldl (fun t c => t.placeLayer c (l s c)) s
    t.cfg = s.cfg ∧ t.store = s.store ∧ t.claim = s.claim ∧ t.sizes = s.sizes := by
  have h := foldl_keeps (fun t c => t.placeLayer c (l s c)) (fun s : State => (s.cfg, s.store, s.claim, s.sizes))
    (by intro s c; simp) cs s
  simpa using h

theorem layerPush_keepsShape (p : Port) (m : BitVec 24) (k : Nat) (t : Temp) (d : Nat) :
    (layerPushRequest p m k t d).KeepsShape :=
  keepsShape_of_kept fun s h => by
    simp only [layerPushRequest, layerPushWork]; repeat' split
    case h_3.isFalse.isFalse kind _ _ _ _ =>
      have hk := placeLayers_kept (fun s c => s.pushedLayer c kind (portOrigin p) t d)
        ((maskChannels m).filter (!s.parked ·)) s
      simp_all
    all_goals simp [refuse, h]

theorem layerPop_keepsShape (c : Nat) : (layerPopRequest c).KeepsShape :=
  keepsShape_of_kept fun s h => by
    simp only [layerPopRequest, layerPopWork]; repeat' split
    all_goals simp [refuse, doneWith, h]

theorem layerClear_keepsShape (m : BitVec 24) : (layerClearRequest m).KeepsShape :=
  keepsShape_of_kept fun s h => by
    have hk := foldl_keeps State.clearStack (fun s : State => (s.cfg, s.store, s.claim, s.sizes)) (by intro s c; simp)
      (maskChannels m) s
    simp only [layerClearRequest, layerClearWork]; split
    · simp [refuse, h]
    · simp_all [done]

theorem holdRelease_keepsShape (c n : Nat) : (holdReleaseRequest c n).KeepsShape :=
  keepsShape_of_kept fun s h => by
    simp only [holdReleaseRequest, holdReleaseWork]; repeat' split
    all_goals simp [refuse, h]

theorem zonePark_keepsShape (k : Nat) : (zoneParkRequest k).KeepsShape :=
  keepsShape_of_kept fun s h => by
    simp only [zoneParkRequest, zoneParkWork]; repeat' split
    all_goals simp [refuse, doneWith, h]

theorem zoneUnpark_keepsShape (k : Nat) : (zoneUnparkRequest k).KeepsShape :=
  keepsShape_of_kept fun s h => by
    simp only [zoneUnparkRequest, zoneUnparkWork]; repeat' split
    all_goals simp [refuse, done, h]

theorem valveSet_keepsShape (v : Nat) (fs : List (Nat × Int)) : (valveSetRequest v fs).KeepsShape :=
  keepsShape_of_kept fun s h => by
    simp only [valveSetRequest, valveSetWork]; repeat' split
    all_goals simp [refuse, done, h]

theorem valveGet_keepsShape (v : Nat) : (valveGetRequest v).KeepsShape :=
  keepsShape_of_read fun s => by simp only [valveGetRequest, valveGetWork]; split <;> rfl

theorem valveHome_keepsShape (v : Nat) : (valveHomeRequest v).KeepsShape :=
  keepsShape_of_kept fun s h => by
    simp only [valveHomeRequest, valveHomeWork]; repeat' split
    all_goals simp [refuse, done, h]

theorem linkClear_keepsShape : linkClearRequest.KeepsShape :=
  keepsShape_of_kept fun s h => by
    simp only [linkClearRequest, linkClearWork]; split
    · simp [refuse, h]
    · refine ⟨by simp [done], by simp [done], by simp [done], ?_⟩
      simp only [done, settle_sizes]
      simpa [State.sizes] using h

theorem boilerSet_keepsShape (fs : List (Nat × Int)) : (boilerSetRequest fs).KeepsShape :=
  keepsShape_of_kept fun s h => by
    simp only [boilerSetRequest, boilerSetWork]; repeat' split
    all_goals simp [refuse, done, h, Stored.shaped]

theorem inputSet_keepsShape (n a b : Nat) (z : Option Nat) (t : Option Temp) (m : Option Nat) :
    (inputSetRequest n a b z t m).KeepsShape :=
  keepsShape_of_kept fun s h => by
    simp only [inputSetRequest, inputSetWork]; repeat' split
    all_goals simp [refuse, done, h]

theorem inputGet_keepsShape (n : Option Nat) (clear : Bool) : (inputGetRequest n clear).KeepsShape :=
  keepsShape_of_kept fun s h => by
    have hk := foldl_keeps State.clearEdges (fun s : State => (s.cfg, s.store, s.claim, s.sizes))
      (by intro s c; simp [State.clearEdges]) (namedInputs n) s
    simp only [inputGetRequest, inputGetWork]; repeat' split
    all_goals simp_all [refuse, doneWith]

theorem attnGet_keepsShape (p : Port) : (attnGetRequest p).KeepsShape :=
  keepsShape_of_kept fun s h => by
    have hp : (s.port p).attn.length = 16 := by
      simp only [State.sizes, partSizes, Prod.mk.injEq] at h
      obtain ⟨-, -, -, -, -, -, hmain, hservice⟩ := h
      cases p <;> assumption
    simp [attnGetRequest, attnGetWork, doneWith, setPort_sizes, PortState.clearAttention, hp, h]

theorem attnMask_keepsShape (p : Port) (items : List MaskItem) : (attnMaskRequest p items).KeepsShape := by
  intro s h
  simp only [attnMaskRequest, attnMaskWork]; split
  · have hcfg := (storedShaped_of_shaped h).1
    exact shaped_of_kept h (sizes_of_shaped h :) ((setMasks_shaped s p _ (maskOf_length items) hcfg).trans hcfg.symm) rfl rfl
  · exact h

/-- A claim whose staging copy has the tables' lengths keeps the shape. -/
theorem setClaim_shaped {s : State} (c : Option EditClaim) (h : s.shaped)
    (hc : ∀ x, c = some x → x.pool.length = 256 ∧ x.programs.length = 24) : (s.setClaim c).shaped := by
  obtain ⟨hcfg, himage, hwriting, -⟩ := storedShaped_of_shaped h
  refine (shaped_iff _).mpr ⟨⟨hcfg, himage, hwriting, ?_⟩, (sizes_of_shaped h :)⟩
  cases c with
  | none => rfl
  | some x => simpa using hc x rfl

/-- The staging copy of a state in shape has the tables' lengths. -/
theorem claim_lengths {s : State} {c : EditClaim} (h : s.shaped) (hc : s.claim = some c) :
    c.pool.length = 256 ∧ c.programs.length = 24 := by
  obtain ⟨-, -, -, hclaim⟩ := storedShaped_of_shaped h
  simpa [hc] using hclaim

theorem stagingFor_some {s : State} {p : Port} {c : EditClaim} (h : s.stagingFor p = some c) :
    s.claim = some c ∧ c.holder = p := by
  simpa [State.stagingFor, Option.filter_eq_some_iff] using h

theorem cfg_tables_length {s : State} (h : s.shaped) : s.cfg.pool.length = 256 ∧ s.cfg.programs.length = 24 := by
  obtain ⟨hcfg, -⟩ := storedShaped_of_shaped h
  simp only [Stored.shaped, Bool.and_eq_true, beq_iff_eq] at hcfg
  tauto

theorem editClaim_keepsShape (p : Port) : (editClaimRequest p).KeepsShape := by
  intro s h
  simp only [editClaimRequest, editClaimWork]
  split
  · exact setClaim_shaped _ h (by rintro _ ⟨⟩; exact cfg_tables_length h)
  · next c hc =>
    split
    · exact setClaim_shaped _ h (by rintro _ ⟨⟩; exact (claim_lengths h hc :))
    · exact h

theorem commit_shaped {s : State} (c : EditClaim) (h : s.shaped) (hc : s.claim = some c) : (s.commit c).shaped := by
  obtain ⟨hpool, hprograms⟩ := claim_lengths h hc
  obtain ⟨hcfg, himage, hwriting, -⟩ := storedShaped_of_shaped h
  have hcfg' : (s.commit c).cfg = { s.cfg with pool := c.pool, programs := c.programs } := by simp [State.commit]
  have hclaim : (s.commit c).claim = none := by simp [State.commit]
  refine (shaped_iff _).mpr ⟨⟨?_, ?_, ?_, ?_⟩, commit_sizes s c (sizes_of_shaped h)⟩
  · simp_all [Stored.shaped]
  · simpa using himage
  · simpa using hwriting
  · simp [hclaim]

theorem editCommit_keepsShape (p : Port) : (editCommitRequest p).KeepsShape := by
  intro s h
  simp only [editCommitRequest, editCommitWork]
  split
  · exact h
  · next c hc =>
    split
    · exact h
    · exact commit_shaped c h (stagingFor_some hc).1

theorem editDrop_keepsShape (p : Port) : (editDropRequest p).KeepsShape := by
  intro s h
  simp only [editDropRequest, editDropWork]
  split
  · exact h
  · exact setClaim_shaped none h (by simp)

theorem tableRead_keepsShape (p : Port) (tag : Nat) : (tableReadRequest p tag).KeepsShape :=
  keepsShape_of_kept fun s h => by
    simp only [tableReadRequest, tableReadWork, readPart]; repeat' split
    all_goals simp [refuse, h]

theorem replaceFrom_length {α : Type} (l xs : List α) (first : Nat) (h : first + xs.length ≤ l.length) :
    (replaceFrom l first xs).length = l.length := by
  simp [replaceFrom]; omega

theorem allIn_length {α : Type} (f : TableRecord → Option α) (rs : List TableRecord) (xs : List α)
    (h : allIn f rs = some xs) : xs.length = rs.length := by
  induction rs generalizing xs with
  | nil => simp_all [allIn]
  | cons r rs ih =>
    simp only [allIn, Option.bind_eq_some_iff, Option.map_eq_some_iff] at h
    obtain ⟨x, -, ys, hys, rfl⟩ := h
    simp [ih ys hys]

theorem spanInRange_le {size first count : Nat} (h : spanInRange size first count = true) : first + count ≤ size := by
  simp only [spanInRange, Bool.and_eq_true, decide_eq_true_eq] at h
  exact h.2

/-- Records in range, written into a span of the table, leave its length. -/
theorem replaceFrom_span {α : Type} {f : TableRecord → Option α} {l xs : List α} {first size : Nat}
    {rs : List TableRecord} (hl : l.length = size) (hspan : ¬ ¬ spanInRange size first rs.length = true)
    (hxs : allIn f rs = some xs) : (replaceFrom l first xs).length = size := by
  have hle := spanInRange_le (not_not.mp hspan)
  rw [replaceFrom_length _ _ _ (by rw [allIn_length f rs xs hxs, hl]; exact hle), hl]

theorem tableWrite_keepsShape (p : Port) (tag first : Nat) (rs : List TableRecord) :
    (tableWriteRequest p tag first rs).KeepsShape := by
  intro s h
  simp only [tableWriteRequest, tableWriteWork]
  split
  · exact h
  split
  · exact h
  next c hc =>
  obtain ⟨hpool, hprograms⟩ := claim_lengths h (stagingFor_some hc).1
  split
  · split
    · exact h
    next hspan =>
    split
    · exact h
    next xs hxs =>
    exact setClaim_shaped _ h (by rintro _ ⟨⟩; exact ⟨replaceFrom_span hpool hspan hxs, hprograms⟩)
  · split
    · exact h
    next hspan =>
    split
    · exact h
    next xs hxs =>
    exact setClaim_shaped _ h (by rintro _ ⟨⟩; exact ⟨hpool, replaceFrom_span hprograms hspan hxs⟩)

theorem storeSave_keepsShape : storeSaveRequest.KeepsShape := by
  intro s h
  obtain ⟨hcfg, himage, -, hclaim⟩ := storedShaped_of_shaped h
  exact (shaped_iff _).mpr ⟨⟨hcfg, himage, by simpa [storeSaveRequest, storeSaveWork, done] using hcfg, hclaim⟩,
    (sizes_of_shaped h :)⟩

theorem storeErase_keepsShape : storeEraseRequest.KeepsShape := by
  intro s h
  obtain ⟨hcfg, -, hwriting, hclaim⟩ := storedShaped_of_shaped h
  exact (shaped_iff _).mpr ⟨⟨hcfg, by simp [storeEraseRequest, storeEraseWork, done], hwriting, hclaim⟩,
    (sizes_of_shaped h :)⟩

theorem restart_keepsShape : restartRequest.KeepsShape := fun _ h => h

theorem ident_keepsShape : identRequest.KeepsShape := fun _ h => h

theorem clockGet_keepsShape : clockGetRequest.KeepsShape := fun _ h => h

theorem boilerGet_keepsShape : boilerGetRequest.KeepsShape := fun _ h => h

theorem tableWriteForm_keepsShape (p : Port) (l : List Byte) (r : Request) (h : tableWriteForm p l = some r) :
    r.KeepsShape := by
  simp only [tableWriteForm, Option.bind_eq_some_iff] at h
  obtain ⟨⟨tag, _⟩, -, ⟨first, _⟩, -, h⟩ := h
  dsimp only at h
  split at h
  · obtain ⟨rs, -, rfl⟩ := Option.map_eq_some_iff.mp h
    exact tableWrite_keepsShape p _ first _
  · obtain ⟨rs, -, rfl⟩ := Option.map_eq_some_iff.mp h
    exact tableWrite_keepsShape p _ first _
  · cases h
    exact tableWrite_keepsShape p _ first _

/-- Every request in the form of its kind keeps the shape. -/
theorem parseRequest_keepsShape (p : Port) (kind : Byte) (l : List Byte) (r : Request)
    (h : parseRequest p kind l = some r) : r.KeepsShape := by
  have hno {x : Request} (hx : x.KeepsShape) (h : noPayload x l = some r) : r.KeepsShape := by
    cases l <;> cases h; exact hx
  have hone {f : Nat → Request} (hf : ∀ n, (f n).KeepsShape) (h : oneByte f l = some r) : r.KeepsShape := by
    obtain ⟨n, -, rfl⟩ := Option.map_eq_some_iff.mp h; exact hf n
  have hpairs {forms : Nat → Option ValueForm} {f : Nat → List (Nat × Int) → Request}
      (hf : ∀ n fs, (f n fs).KeepsShape) (h : byteAndPairs forms f l = some r) : r.KeepsShape := by
    obtain ⟨⟨n, rest⟩, -, h⟩ := Option.bind_eq_some_iff.mp h
    obtain ⟨fs, -, rfl⟩ := Option.map_eq_some_iff.mp h; exact hf n fs
  unfold parseRequest at h
  split at h
  case h_1 =>
    simp only [clockSetForm, Option.bind_eq_some_iff, Option.map_eq_some_iff] at h
    obtain ⟨⟨m, _⟩, -, ⟨sec, _⟩, -, q, -, rfl⟩ := h
    exact clockSet_keepsShape m sec q
  case h_5 =>
    simp only [roomTempForm, Option.bind_eq_some_iff, Option.map_eq_some_iff] at h
    obtain ⟨⟨k, _⟩, -, t, -, rfl⟩ := h
    exact roomTemp_keepsShape k t
  case h_6 =>
    simp only [layerPushForm, Option.bind_eq_some_iff, Option.map_eq_some_iff] at h
    obtain ⟨⟨m, _⟩, -, ⟨k, _⟩, -, ⟨t, _⟩, -, d, -, rfl⟩ := h
    exact layerPush_keepsShape p m k t d
  case h_8 =>
    obtain ⟨m, -, rfl⟩ := Option.map_eq_some_iff.mp h
    exact layerClear_keepsShape m
  case h_9 =>
    simp only [holdReleaseForm, Option.bind_eq_some_iff, Option.map_eq_some_iff] at h
    obtain ⟨⟨c, _⟩, -, n, -, rfl⟩ := h
    exact holdRelease_keepsShape c n
  case h_16 =>
    obtain ⟨fs, -, rfl⟩ := Option.map_eq_some_iff.mp h
    exact boilerSet_keepsShape fs
  case h_18 =>
    simp only [inputSetForm, Option.bind_eq_some_iff, Option.map_eq_some_iff] at h
    obtain ⟨⟨n, _⟩, -, ⟨a, _⟩, -, ⟨b, _⟩, -, ⟨z, _⟩, -, ⟨t, _⟩, -, m, -, rfl⟩ := h
    exact inputSet_keepsShape n a b z t m
  case h_19 =>
    simp only [inputGetForm, Option.bind_eq_some_iff, Option.map_eq_some_iff] at h
    obtain ⟨⟨n, _⟩, -, c, -, rfl⟩ := h
    exact inputGet_keepsShape _ _
  case h_21 =>
    obtain ⟨items, -, rfl⟩ := Option.map_eq_some_iff.mp h
    exact attnMask_keepsShape p items
  case h_26 => exact tableWriteForm_keepsShape p l r h
  case h_31 => cases h
  · exact hno clockGet_keepsShape h
  · exact hpairs channelSet_keepsShape h
  · exact hone channelGet_keepsShape h
  · exact hone layerPop_keepsShape h
  · exact hone zonePark_keepsShape h
  · exact hone zoneUnpark_keepsShape h
  · exact hpairs valveSet_keepsShape h
  · exact hone valveGet_keepsShape h
  · exact hone valveHome_keepsShape h
  · exact hno linkClear_keepsShape h
  · exact hno boilerGet_keepsShape h
  · exact hno (attnGet_keepsShape p) h
  · exact hno (editClaim_keepsShape p) h
  · exact hno (editCommit_keepsShape p) h
  · exact hno (editDrop_keepsShape p) h
  · exact hone (tableRead_keepsShape p) h
  · exact hno storeSave_keepsShape h
  · exact hno storeErase_keepsShape h
  · exact hno restart_keepsShape h
  · exact hno ident_keepsShape h

/-- What a frame spells in the form of its kind keeps the shape. -/
theorem formOf_keepsShape (p : Port) (kind : Byte) (l : List Byte) (r : Request) (h : formOf p kind l = .fits r) :
    r.KeepsShape := by
  unfold formOf at h
  split at h
  · cases hq : parseRequest p kind l with
    | none => simp [hq, Form.ofParse] at h
    | some q =>
      simp only [hq, Form.ofParse, Form.fits.injEq] at h
      exact h ▸ parseRequest_keepsShape p kind l q hq
  · cases h

/-! ### The commands -/

/-- The state that a request's work meets is in shape: the staging copy of a refreshed claim is the old one. -/
theorem met_shaped {s : State} (p : Port) (h : s.shaped) : (s.met p).shaped := by
  obtain ⟨hcfg, himage, hwriting, hclaim⟩ := storedShaped_of_shaped h
  have hkept : (s.keptAlive p).all (fun c => c.pool.length == 256 && c.programs.length == 24) = true := by
    unfold State.keptAlive
    cases hc : s.claim with
    | none => rfl
    | some c => rw [hc] at hclaim; rw [← hclaim]; dsimp only [Option.map, Option.all]; split <;> rfl
  exact (shaped_iff _).mpr ⟨⟨by simpa using hcfg, by simpa using himage, by simpa using hwriting, by simpa using hkept⟩,
    by simp [State.met, sizes_of_shaped h]⟩

theorem serve_shaped {s : State} (f : Form) (h : s.shaped) (hf : ∀ r, f = .fits r → r.KeepsShape) :
    (f.serve s).1.shaped := by
  cases f with
  | unknown => exact h
  | malformed => exact h
  | fits r =>
    by_cases hr : s.restartPending = true
    · rw [serve_pending r s hr]; exact h
    simp only [Form.serve, if_neg hr]
    split
    · exact h
    · split
      · exact h
      · exact hf r rfl s h

theorem complete_shaped {s : State} (p : Port) (kind : Byte) (f : Form) (h : s.shaped)
    (hf : ∀ r, f = .fits r → r.KeepsShape) : (s.complete p kind f).shaped := by
  have hm := met_shaped p h
  have hserve := serve_shaped f hm hf
  rw [complete_met]
  simp only [State.meet]
  split
  · exact shaped_of_kept hserve (by simp [sizes_of_shaped hserve])
  · split <;> exact shaped_of_kept hm (by simp [sizes_of_shaped hm])

theorem requestEvent_shaped {s : State} (p : Port) {r : Request} (hr : r.KeepsShape) (h : s.shaped) :
    (requestEvent p r s).shaped :=
  event_shaped _ h (complete_shaped p r.kind _ h (by rintro _ ⟨⟩; exact hr))

theorem setRx_shaped {s : State} (p : Port) (rx : Receiver) (h : s.shaped) : (s.setRx p rx).shaped :=
  shaped_of_kept h (by simp [sizes_of_shaped h])

theorem discardFrame_shaped {s : State} (p : Port) (h : s.shaped) : (s.discardFrame p).shaped :=
  shaped_of_kept h (by simp [sizes_of_shaped h])

theorem completeFrame_shaped {s : State} (p : Port) (bytes : List Byte) (h : s.shaped) :
    (s.completeFrame p bytes).shaped := by
  cases bytes with
  | nil => exact setRx_shaped p _ h
  | cons kind payload => exact complete_shaped p kind _ h (formOf_keepsShape p kind payload)

theorem takeByteAt_shaped {s : State} (p : Port) (b : Byte) (h : s.shaped) : (s.takeByteAt p b).shaped := by
  unfold State.takeByteAt
  split
  · split
    · exact setRx_shaped p _ h
    · exact h
  · split
    · exact discardFrame_shaped p h
    · exact setRx_shaped p _ h
  · split
    · exact setRx_shaped p _ h
    · split
      · exact completeFrame_shaped p _ h
      · exact discardFrame_shaped p h

theorem frameSentEvent_shaped {s : State} (p : Port) (h : s.shaped) : (frameSentEvent p s).shaped := by
  unfold frameSentEvent; split
  · exact h
  · split
    · exact warmStart_shaped h
    · exact event_kept _ h

theorem writeEnds_shaped {s : State} (x : Stored) (h : s.shaped) (hx : s.store.writing = some x) :
    (s.writeEnds x).shaped := by
  obtain ⟨hcfg, himage, hwriting, hclaim⟩ := storedShaped_of_shaped h
  have hx : x.shaped = true := by simpa [hx] using hwriting
  exact (shaped_iff _).mpr ⟨⟨by simpa [State.writeEnds] using hcfg, by simpa [State.writeEnds] using hx,
    by simp [State.writeEnds], by simpa [State.writeEnds] using hclaim⟩, by simp [State.writeEnds, sizes_of_shaped h]⟩

theorem lapse_shaped {s : State} (c : EditClaim) (h : s.shaped) : (s.lapse c).shaped :=
  shaped_of_kept (setClaim_shaped none h (by simp)) (by simp [State.lapse, sizes_of_shaped h]) (by simp [State.lapse])
    (by simp [State.lapse]) (by simp [State.lapse])

/-- An event that acts under a condition keeps the shape where its effect does. -/
theorem ite_shaped {c : Prop} [Decidable c] {s t : State} (h : s.shaped) (ht : t.shaped) :
    (if c then t else s).shaped := by split <;> assumption

/-- A command runs through, and keeps the shape. -/
theorem exec_shaped (i : Instr) {s : State} (h : s.shaped) : ∃ t, exec i s = .next t ∧ t.shaped := by
  cases i <;> refine ⟨_, rfl, ?_⟩
  case coldReset => exact bootFrom_shaped true h
  case warmResetComplete => exact ite_shaped h (bootFrom_shaped false h)
  case wallMinute => exact wallMinuteEvent_shaped h
  case elapsedMinute => exact elapsedMinuteEvent_shaped h
  case secondTick => exact secondTickEvent_shaped h
  case layerExpiry => exact event_kept _ h
  case watchEnd => exact ite_shaped h (event_kept _ h)
  case discardedReply => exact h
  case stallRetry => exact ite_shaped h (plantEvent_kept _ h)
  case minOnElapsed => exact ite_shaped h (plantEvent_kept _ h)
  case minOffElapsed => exact ite_shaped h (plantEvent_kept _ h)
  case regulationPass => exact ite_shaped h (plantEvent_kept _ h)
  case goodReply =>
    simp only [goodReplyEvent]; split
    · exact h
    · exact plantEvent_kept _ h
  case miss =>
    simp only [missEvent]; split
    · exact h
    · exact plantEvent_kept _ h
  case moveTimeout => exact ite_shaped h (plantEvent_kept _ h)
  case linkFault =>
    unfold linkFaultEvent; split
    · exact h
    · exact plantEvent_kept _ h
  case supplyMeasurement => exact plantEvent_kept _ h
  case supplyQualified => exact ite_shaped h (plantEvent_kept _ h)
  case sensorSample => exact ite_shaped h (plantEvent_kept _ h)
  case inputChange => exact ite_shaped h (plantEvent_kept _ h)
  case inputEstablished => exact ite_shaped h (plantEvent_kept _ h)
  case inputSample =>
    unfold inputSampleEvent; repeat' split
    · exact h
    · exact event_kept _ h
    · exact plantEvent_kept _ h
  case leadExpiry => exact ite_shaped h (plantEvent_kept _ h)
  case overrunExpiry => exact ite_shaped h (plantEvent_kept _ h)
  case pumpTimerExpiry => exact ite_shaped h (plantEvent_kept _ h rfl rfl rfl rfl)
  case rampStep => exact ite_shaped h (event_kept _ h)
  case storeWriteEnd =>
    unfold storeWriteEndEvent; split
    · exact h
    · next x hx => exact event_shaped _ h (writeEnds_shaped x h hx)
  case editClaimLapse =>
    unfold editClaimLapseEvent; split
    · exact ite_shaped h (event_shaped _ h (lapse_shaped _ h))
    · exact h
  case frameGap p =>
    unfold frameGapEvent; split
    · exact h
    · exact event_shaped _ h (discardFrame_shaped p h)
  case frameDiscard p _ => exact ite_shaped h (event_shaped _ h (discardFrame_shaped p h))
  case frameSent p => exact frameSentEvent_shaped p h
  case unknownKind p kind =>
    unfold unknownKindEvent; split
    · exact h
    · exact event_shaped _ h (complete_shaped p kind _ h (by simp))
  case byteArrival p b => exact event_shaped _ h (takeByteAt_shaped p b h)
  case warmResetStopEnd =>
    unfold warmResetStopEndEvent; split
    · exact h
    · exact ite_shaped h (nextStop_shaped _ h)
  case clockSet p m sec q => exact requestEvent_shaped p (clockSet_keepsShape m sec q) h
  case clockGet p => exact requestEvent_shaped p clockGet_keepsShape h
  case channelSet p c fs => exact requestEvent_shaped p (channelSet_keepsShape c fs) h
  case channelGet p c => exact requestEvent_shaped p (channelGet_keepsShape c) h
  case roomTemp p k t => exact requestEvent_shaped p (roomTemp_keepsShape k t) h
  case layerPush p m k t d => exact requestEvent_shaped p (layerPush_keepsShape p m k t d) h
  case layerPop p c => exact requestEvent_shaped p (layerPop_keepsShape c) h
  case layerClear p m => exact requestEvent_shaped p (layerClear_keepsShape m) h
  case holdRelease p c n => exact requestEvent_shaped p (holdRelease_keepsShape c n) h
  case zonePark p k => exact requestEvent_shaped p (zonePark_keepsShape k) h
  case zoneUnpark p k => exact requestEvent_shaped p (zoneUnpark_keepsShape k) h
  case valveSet p v fs => exact requestEvent_shaped p (valveSet_keepsShape v fs) h
  case valveGet p v => exact requestEvent_shaped p (valveGet_keepsShape v) h
  case valveHome p v => exact requestEvent_shaped p (valveHome_keepsShape v) h
  case linkClear p => exact requestEvent_shaped p linkClear_keepsShape h
  case boilerSet p fs => exact requestEvent_shaped p (boilerSet_keepsShape fs) h
  case boilerGet p => exact requestEvent_shaped p boilerGet_keepsShape h
  case inputSet p n a b z t m => exact requestEvent_shaped p (inputSet_keepsShape n a b z t m) h
  case inputGet p n c => exact requestEvent_shaped p (inputGet_keepsShape n c) h
  case attnGet p => exact requestEvent_shaped p (attnGet_keepsShape p) h
  case attnMask p items => exact requestEvent_shaped p (attnMask_keepsShape p items) h
  case editClaim p => exact requestEvent_shaped p (editClaim_keepsShape p) h
  case editCommit p => exact requestEvent_shaped p (editCommit_keepsShape p) h
  case editDrop p => exact requestEvent_shaped p (editDrop_keepsShape p) h
  case tableRead p tag => exact requestEvent_shaped p (tableRead_keepsShape p tag) h
  case tableWrite p tag i rs => exact requestEvent_shaped p (tableWrite_keepsShape p tag i rs) h
  case storeSave p => exact requestEvent_shaped p storeSave_keepsShape h
  case storeErase p => exact requestEvent_shaped p storeErase_keepsShape h
  case restart p => exact requestEvent_shaped p restart_keepsShape h
  case ident p => exact requestEvent_shaped p ident_keepsShape h

/-- Settles O53: each command keeps the lengths of the run-time lists and the shape of the stored sets (`exec_shaped`);
taking the command off the queue changes neither. -/
theorem stepsKeepTheShape : Obligations.StepsKeepTheShape := by
  intro s t hs hstep
  unfold step at hstep
  split at hstep
  · cases hstep; exact hs
  · next c rest _ =>
    have hrest : State.shaped { s with pending := rest } := hs
    obtain ⟨u, hu, hshape⟩ := exec_shaped c hrest
    rw [hu] at hstep
    cases hstep
    exact hshape

end Sys2Proof.Machine
end

section
/-! PROOF. Time and the timers (O6, O8, O12). -/

namespace Sys2Proof.Machine

/-! ## Reading the numbered parts -/

theorem mem_numbers (n k : Nat) : k ∈ numbers n ↔ 1 ≤ k ∧ k ≤ n := by
  simp only [numbers, List.mem_map, List.mem_range]
  constructor
  · rintro ⟨i, hi, rfl⟩; omega
  · rintro ⟨h1, h2⟩; exact ⟨k - 1, by omega, by omega⟩

theorem numbers_nodup (n : Nat) : (numbers n).Nodup :=
  List.nodup_range.map fun a b h => by simpa using h

theorem zone_congr {s t : State} (k : Nat) (h : t.zones = s.zones := by simp) : t.zone k = s.zone k := by
  rw [State.zone, State.zone, h]

theorem channel_congr {s t : State} (c : Nat) (h : t.channels = s.channels := by simp) : t.channel c = s.channel c := by
  rw [State.channel, State.channel, h]

theorem zone_setZone_same (s : State) (k : Nat) (z : ZoneRun) (h1 : 1 ≤ k) (h2 : k ≤ s.zones.length) :
    (s.setZone k z).zone k = z := item_setItem_same _ _ _ _ h1 h2

theorem zone_setZone_other (s : State) (k j : Nat) (z : ZoneRun) (h : j ≠ k) : (s.setZone k z).zone j = s.zone j :=
  item_setItem_other _ _ _ _ _ h

theorem channel_setChannel_same (s : State) (c : Nat) (r : ChannelRun) (h1 : 1 ≤ c) (h2 : c ≤ s.channels.length) :
    (s.setChannel c r).channel c = r := item_setItem_same _ _ _ _ h1 h2

theorem channel_setChannel_other (s : State) (c d : Nat) (r : ChannelRun) (h : d ≠ c) :
    (s.setChannel c r).channel d = s.channel d := item_setItem_other _ _ _ _ _ h

/-- A fold whose step at `k` changes part `k` alone leaves the parts it does not name. -/
theorem foldl_read_other {β : Type} (read : State → Nat → β) (f : State → Nat → State)
    (hother : ∀ u k j, j ≠ k → read (f u k) j = read u j) (l : List Nat) (j : Nat) (hj : j ∉ l) (s : State) :
    read (l.foldl f s) j = read s j := by
  induction l generalizing s with
  | nil => rfl
  | cons k l ih =>
    obtain ⟨hjk, hjl⟩ := List.ne_and_not_mem_of_not_mem_cons hj
    rw [List.foldl_cons, ih hjl, hother s k j hjk]

/-- A fold whose step at `k` changes part `k` alone, from `x` to `F k x` where `P` holds, changes each part it names so,
once. -/
theorem foldl_read {β : Type} (P : State → Prop) (read : State → Nat → β) (f : State → Nat → State) (F : Nat → β → β)
    (l : List Nat) (hl : l.Nodup) (hP : ∀ u k, k ∈ l → P u → P (f u k))
    (hsame : ∀ u k, k ∈ l → P u → read (f u k) k = F k (read u k))
    (hother : ∀ u k j, j ≠ k → read (f u k) j = read u j) (s : State) (hs : P s) (j : Nat) (hj : j ∈ l) :
    read (l.foldl f s) j = F j (read s j) := by
  induction l generalizing s with
  | nil => cases hj
  | cons k l ih =>
    obtain ⟨hk, hl⟩ := List.nodup_cons.mp hl
    rw [List.foldl_cons]
    rcases List.mem_cons.mp hj with rfl | hjl
    · rw [foldl_read_other read f hother l j hk, hsame s j List.mem_cons_self hs]
    · rw [ih hl (fun u i hi => hP u i (List.mem_cons_of_mem k hi)) (fun u i hi => hsame u i (List.mem_cons_of_mem k hi))
        (f s k) (hP s k List.mem_cons_self hs) hjl, hother s k j (by rintro rfl; exact hk hjl)]

/-! ## Equal states -/

/-- States with the same fields are the same. -/
theorem state_ext {s t : State} (clock : s.clock = t.clock := by simp) (cfg : s.cfg = t.cfg := by simp)
    (store : s.store = t.store := by simp) (claim : s.claim = t.claim := by simp)
    (channels : s.channels = t.channels := by simp) (zones : s.zones = t.zones := by simp)
    (wRequest : s.wRequest = t.wRequest := by simp) (table : s.table = t.table := by simp)
    (heads : s.heads = t.heads := by simp) (link : s.link = t.link := by simp)
    (arbiter : s.arbiter = t.arbiter := by simp) (boiler : s.boiler = t.boiler := by simp)
    (field : s.field = t.field := by simp) (main : s.main = t.main := by simp)
    (service : s.service = t.service := by simp) (restartPending : s.restartPending = t.restartPending := by simp)
    (acting : s.acting = t.acting := by simp) (pending : s.pending = t.pending := by simp) : s = t := by
  cases s; cases t; simp_all

/-- An event that leaves the ports alone leaves receivers, cursors and attention. -/
theorem portsKept_endEvent {s t : State} (hmain : t.main = s.main) (hservice : t.service = s.service)
    (cs : List Category) : s.portsKept t.endEvent cs := by
  intro p
  have hp : t.port p = s.port p := by cases p <;> assumption
  exact ⟨by simp [hp], by simp [hp], fun n _ => by simp [hp]⟩

/-! ### The second tick (R1 to R3) -/

theorem fieldTick_eq (f : FieldIO) :
    f.tick = { f with
      ramp := f.ramp.map fun r => { r with timer := r.timer - 1 }
      samplePhase := (f.samplePhase + 1) % 10
      flow := { f.flow with due := f.flow.due || (f.samplePhase + 1) % 10 == 1 }
      outdoor := { f.outdoor with due := f.outdoor.due || (f.samplePhase + 1) % 10 == 1 }
      cylinder := { f.cylinder with due := f.cylinder.due || (f.samplePhase + 1) % 10 == 1 } } := by
  simp only [FieldIO.tick]
  split
  · next h => simp only [h, SensorRec.makeDue, BEq.rfl, Bool.or_true]; rfl
  · next h =>
    have hb : ((f.samplePhase + 1) % 10 == 1) = false := beq_eq_false_iff_ne.mpr h
    simp only [hb, Bool.or_false]; rfl

/-- The clock at a second tick with no minute due (R1, R2). -/
theorem clockTick_eq (c : Clock) (hw : c.wallDue = false) (he : c.elapsedDue = false) :
    c.wallTick.elapsedTick = { c with
      wallSeconds := if c.wallSeconds < 59 then c.wallSeconds + 1 else c.wallSeconds
      wallDue := !decide (c.wallSeconds < 59)
      tickCount := if c.tickCount < 59 then c.tickCount + 1 else 0
      elapsedDue := !decide (c.tickCount < 59) } := by
  unfold Clock.elapsedTick Clock.wallTick
  by_cases h1 : c.wallSeconds < 59 <;> by_cases h2 : c.tickCount < 59 <;> simp [h1, h2, hw, he]

theorem wallMinuteEvent_idle (s : State) (h : s.clock.wallDue = false) : wallMinuteEvent s = s := by
  simp [wallMinuteEvent, h]

theorem elapsedMinuteEvent_idle (s : State) (h : s.clock.elapsedDue = false) : elapsedMinuteEvent s = s := by
  simp [elapsedMinuteEvent, h]

@[simp] theorem clockWallMinute_keeps (c : Clock) : 
    c.wallMinute.wallDue = false ∧ c.wallMinute.elapsedDue = c.elapsedDue ∧ c.wallMinute.elapsed = c.elapsed := by
  unfold Clock.wallMinute; split <;> exact ⟨rfl, rfl, rfl⟩

@[simp] theorem wallMinute_clock (s : State) : s.wallMinute.clock = s.clock.wallMinute := by
  simp only [State.wallMinute]; repeat' split
  all_goals simp

@[simp] theorem elapsedMinute_clock (s : State) :
    s.elapsedMinute.clock = { s.clock with elapsed := s.clock.elapsed + 1, elapsedDue := false } := by
  have h (u : State) : (zoneNumbers.foldl State.duePass u).clock = u.clock :=
    foldl_keeps State.duePass State.clock (fun s k => by simp) zoneNumbers u
  simp only [State.elapsedMinute, h]; rfl

/-- No minute is due when those due have been taken (log 3). -/
theorem takeMinutes_idle (s : State) (h : s.acting = none) :
    s.takeMinutes.acting = none ∧ s.takeMinutes.clock.wallDue = false ∧ s.takeMinutes.clock.elapsedDue = false := by
  have he : (elapsedMinuteEvent s).acting = none ∧ (elapsedMinuteEvent s).clock.elapsedDue = false := by
    unfold elapsedMinuteEvent; split
    · simp [event_free s _ h, h]
    · simp_all
  obtain ⟨ha, he⟩ := he
  unfold State.takeMinutes wallMinuteEvent; split
  · simp [event_free _ _ ha, ha, he]
  · simp_all

/-- Settles O6: a second tick takes the minutes that are due (`takeMinutes_idle`) and counts; `clockTick_eq` and
`fieldTick_eq` say what it counts. -/
theorem secondTickCountsEveryTimer : Obligations.SecondTickCountsEveryTimer := by
  intro s
  refine ⟨fun ha hw he => ?_, fun ha => ?_, fun ha => ?_⟩
  · have hs : s.takeMinutes = s := by
      rw [State.takeMinutes, elapsedMinuteEvent_idle s he, wallMinuteEvent_idle s hw]
    simp only [exec, execSecondTick, secondTickEvent, ha, Option.isSome_none, Bool.false_eq_true, if_false, hs, State.tick,
      fieldTick_eq, clockTick_eq s.clock hw he]
    rfl
  · obtain ⟨ha', hw, he⟩ := takeMinutes_idle s ha
    have htake : s.takeMinutes.takeMinutes = s.takeMinutes := by
      rw [State.takeMinutes, elapsedMinuteEvent_idle _ he, wallMinuteEvent_idle _ hw]
    have hrun : runAll [.elapsedMinute, .wallMinute, .secondTick] s = some (secondTickEvent s.takeMinutes) := rfl
    have hone : runAll [.secondTick] s = some (secondTickEvent s) := rfl
    rw [hrun, hone]
    simp [secondTickEvent, ha, ha', htake]
  · have hsome : s.acting.isSome = true := Option.isSome_iff_ne_none.mpr ha
    simp only [exec, execSecondTick, secondTickEvent, hsome, if_true]
    rfl

/-! ### The elapsed minute (R2, R28, R51) -/

theorem zone_duePass (s : State) (k : Nat) (h1 : 1 ≤ k) (h2 : k ≤ s.zones.length) :
    (s.duePass k).zone k = { s.zone k with
      passDue := (s.zone k).passDue || passFalls s.clock.elapsed k (s.zoneCfg k).period } := by
  unfold State.duePass; split
  · next h => simp [zone_setZone_same s k _ h1 h2, h]
  · next h => simp [h]

theorem zone_duePass_other (s : State) (k j : Nat) (h : j ≠ k) : (s.duePass k).zone j = s.zone j := by
  unfold State.duePass; split
  · exact zone_setZone_other s k j _ h
  · rfl

/-- The zones after the passes of a counter value are made due (R51). -/
theorem duePasses_zone (s : State) (k : Nat) (hlen : s.zones.length = 16) (h1 : 1 ≤ k) (h2 : k ≤ 16) :
    (zoneNumbers.foldl State.duePass s).zone k = { s.zone k with
      passDue := (s.zone k).passDue || passFalls s.clock.elapsed k (s.zoneCfg k).period } := by
  have hlenP (u : State) (k : Nat) (h : u.zones.length = 16) : (u.duePass k).zones.length = 16 := by
    unfold State.duePass; split <;> simp [length_setItem, h]
  refine foldl_read (fun u => u.zones.length = 16 ∧ u.clock = s.clock ∧ u.cfg = s.cfg) State.zone State.duePass
    (fun k z => { z with passDue := z.passDue || passFalls s.clock.elapsed k (s.zoneCfg k).period })
    zoneNumbers (numbers_nodup 16) ?_ ?_ zone_duePass_other s ⟨hlen, rfl, rfl⟩ k ((mem_numbers 16 k).mpr ⟨h1, h2⟩)
  · exact fun u k _ ⟨hz, hc, hg⟩ => ⟨hlenP u k hz, by simpa using hc, by simpa using hg⟩
  · intro u k hk ⟨hz, hc, hg⟩
    obtain ⟨hk1, hk2⟩ := (mem_numbers 16 k).mp hk
    rw [zone_duePass u k hk1 (by omega), hc, State.zoneCfg, State.zoneCfg, hg]

/-- The zones after an elapsed minute (R51). -/
theorem elapsedMinute_zone (s : State) (k : Nat) (hlen : s.zones.length = 16) (h1 : 1 ≤ k) (h2 : k ≤ 16) :
    s.elapsedMinute.zone k = { s.zone k with
      passDue := (s.zone k).passDue || passFalls (s.clock.elapsed + 1) k (s.zoneCfg k).period } := by
  unfold State.elapsedMinute
  exact duePasses_zone _ k hlen h1 h2

theorem elapsedMinute_channel (s : State) (c : Nat) : s.elapsedMinute.channel c = (s.channel c).countDown := by
  have h (u : State) : (zoneNumbers.foldl State.duePass u).channels = u.channels :=
    foldl_keeps State.duePass State.channels (fun s k => by simp) zoneNumbers u
  simp only [State.channel, State.elapsedMinute, h]
  exact item_map ChannelRun.countDown s.channels c ⟨[], []⟩

/-- Settles O8: `elapsedMinute_channel` and `elapsedMinute_zone` say what the minute does to stacks and passes. -/
theorem elapsedMinuteCountsLayersAndPasses : Obligations.ElapsedMinuteCountsLayersAndPasses := by
  intro s ha hdue hshape
  have hlen : s.zones.length = 16 := congrArg (·.2.1) (sizes_of_shaped hshape)
  have hexec : exec .elapsedMinute s = .next s.elapsedMinute.endEvent := by
    simp [exec, execElapsedMinute, elapsedMinuteEvent, hdue, event_free s _ ha]
  refine ⟨_, hexec, state_ext, portsKept_endEvent (by simp) (by simp) [], by simp, fun c => ?_, fun k h1 h2 => ?_⟩
  · rw [channel_congr (s := s.elapsedMinute) c, elapsedMinute_channel]
    exact ⟨rfl, rfl⟩
  · rw [zone_congr (s := s.elapsedMinute) k, elapsedMinute_zone s k hlen h1 h2]
    simp [passFalls]

/-! ### CLOCK-GET (R6) -/

/-- Settles O12: the work of CLOCK-GET only reads the clock. -/
theorem clockGetReportsTheClock : Obligations.ClockGetReportsTheClock := by
  intro p s h
  have hr := requestEvent_refused p clockGetRequest s (.done {} s.clockBytes) h rfl (by simp [clockGetRequest])
    (by simp [clockGetRequest, clockGetWork, doneWith, State.clockBytes])
  refine ⟨_, rfl, ?_, hr.2⟩
  have hbytes : s.clockBytes = bytesLow 2 s.clock.minuteOfWeek ++ bytesLow 1 s.clock.wallSeconds ++ 
      [if s.clock.parity = .a then 0 else 1] ++ [if s.clock.clockSet then 1 else 0] ++
      bytesLow 4 s.clock.elapsed.toNat := by
    cases hq : s.clock.parity <;> simp [State.clockBytes, hq, natWord, byteOf, bytesLow, Parity.code, flagOf, elapsedOf, longOf]
  rw [← hbytes]
  exact hr.1

end Sys2Proof.Machine
end

section
/-! PROOF. The clock set by the bus (O11). -/

namespace Sys2Proof.Machine

/-! ### Plans (R12 to R14) -/

/-- A compiled day is the compiler's level slot by slot (R13). -/
theorem compileDay_eq (s : State) (c day : Nat) (q : Parity) :
    s.compileDay c day q = (List.range 144).map (s.entryLevel c day q) := by
  unfold State.compileDay State.entryLevel
  split <;> simp [*]

theorem compiledRun_congr {s u : State} (hc : u.clock = s.clock) (hg : u.cfg = s.cfg) (c : Nat) :
    u.compiledRun c = s.compiledRun c := by simp [State.compiledRun, State.channelCfg, hc, hg]

theorem entryLevel_congr {s u : State} (hc : u.clock = s.clock) (hg : u.cfg = s.cfg) (c : Nat) :
    u.entryLevel c = s.entryLevel c := by
  funext day q i; simp [State.entryLevel, compiledRun_congr hc hg, State.channelCfg, hg]

theorem compileDay_congr {s u : State} (hc : u.clock = s.clock) (hg : u.cfg = s.cfg) (c day : Nat) (q : Parity) :
    u.compileDay c day q = s.compileDay c day q := by rw [compileDay_eq, compileDay_eq, entryLevel_congr hc hg]

theorem compilePlan_congr {s u : State} (hc : u.clock = s.clock) (hg : u.cfg = s.cfg) (c : Nat) :
    u.compilePlan c = s.compilePlan c := by
  simp [State.compilePlan, State.compileTomorrow, compileDay_congr hc hg, hc]

/-- A plan that the compiler has just made, read by the clock and the tables it was made from. -/
theorem planCompiled_of_compilePlan {s t : State} (c : Nat) (hc : t.clock = s.clock) (hg : t.cfg = s.cfg)
    (h : (t.channel c).plan = s.compilePlan c) : t.planCompiled c := by
  rw [← compilePlan_congr hc hg] at h
  refine ⟨by simp [h], fun i hi => ?_⟩
  simp [h, State.compilePlan, State.compileTomorrow, compileDay_eq, List.getElem?_append, hi]

theorem channel_setPlan_same (s : State) (c : Nat) (x : List Level) (h1 : 1 ≤ c) (h2 : c ≤ s.channels.length) :
    (s.setPlan c x).channel c = { s.channel c with plan := x } := channel_setChannel_same s c _ h1 h2

theorem channel_setPlan_other (s : State) (c d : Nat) (x : List Level) (h : d ≠ c) :
    (s.setPlan c x).channel d = s.channel d := channel_setChannel_other s c d _ h

/-- Every plan is compiled once (R14). -/
theorem compileAll_channel (s : State) (c : Nat) (hlen : s.channels.length = 17) (h1 : 1 ≤ c) (h2 : c ≤ 17) :
    s.compileAll.channel c = { s.channel c with plan := s.compilePlan c } := by
  refine foldl_read (fun u => u.channels.length = 17 ∧ u.clock = s.clock ∧ u.cfg = s.cfg) State.channel State.compile
    (fun c r => { r with plan := s.compilePlan c }) channelNumbers (numbers_nodup 17) ?_ ?_
    (fun u c d h => channel_setPlan_other u c d _ h) s ⟨hlen, rfl, rfl⟩ c ((mem_numbers 17 c).mpr ⟨h1, h2⟩)
  · exact fun u k _ ⟨hz, hc, hg⟩ =>
      ⟨by simp [State.compile, length_setItem, hz], by simpa using hc, by simpa using hg⟩
  · intro u d hd ⟨hz, hc, hg⟩
    obtain ⟨hd1, hd2⟩ := (mem_numbers 17 d).mp hd
    rw [State.compile, channel_setPlan_same u d _ hd1 (by omega), compilePlan_congr hc hg]

/-- Every preheat is abandoned (R5, R186). -/
theorem abandonAll_zone (s : State) (k : Nat) (hlen : s.zones.length = 16) (h1 : 1 ≤ k) (h2 : k ≤ 16) :
    s.abandonAll.zone k = { s.zone k with preheat := (s.zone k).preheat.ended } := by
  refine foldl_read (fun u => u.zones.length = 16) State.zone State.abandonPreheat
    (fun _ z => { z with preheat := z.preheat.ended }) zoneNumbers (numbers_nodup 16) ?_ ?_
    (fun u c d h => zone_setZone_other u c d _ h) s hlen k ((mem_numbers 16 k).mpr ⟨h1, h2⟩)
  · exact fun u k _ hz => by simp [length_setItem, hz]
  · intro u k hk hz
    obtain ⟨hk1, hk2⟩ := (mem_numbers 16 k).mp hk
    exact zone_setZone_same u k _ hk1 (by omega)

/-! ### CLOCK-SET (R5) -/

/-- The effect of an accepted CLOCK-SET. -/
def State.clockSetTo (s : State) (minute seconds : Nat) (q : Parity) : State :=
  (s.setClock (s.clock.setTo minute seconds q)).compileAll.abandonAll

theorem clockSetWork_accepted (minute seconds code : Nat) (q : Parity) (s : State) (hm : minute ≤ 10079)
    (hsec : seconds ≤ 59) (hq : Parity.ofCode code = some q) :
    clockSetWork minute seconds code s = (s.clockSetTo minute seconds q, .done {} []) := by
  have h : ¬ (10079 < minute ∨ 59 < seconds) := by omega
  simp [clockSetWork, hq, h, done, State.clockSetTo]

theorem clockSetWork_refused (minute seconds code : Nat) (s : State) (h : 10079 < minute ∨ 59 < seconds ∨ 1 < code) :
    clockSetWork minute seconds code s = (s, .refused .range) := by
  unfold clockSetWork
  split
  · rfl
  · next q hq =>
    have hcode : code ≤ 1 := by
      by_contra hgt
      obtain ⟨n, rfl⟩ : ∃ n, code = n + 2 := ⟨code - 2, by omega⟩
      simp [Parity.ofCode] at hq
    rw [if_pos (by omega)]; rfl

@[simp] theorem clockSetTo_keeps (s : State) (minute seconds : Nat) (q : Parity) :
    (s.clockSetTo minute seconds q).clock = s.clock.setTo minute seconds q ∧
    (s.clockSetTo minute seconds q).cfg = s.cfg ∧ (s.clockSetTo minute seconds q).store = s.store ∧
    (s.clockSetTo minute seconds q).claim = s.claim ∧ (s.clockSetTo minute seconds q).wRequest = s.wRequest ∧
    (s.clockSetTo minute seconds q).table = s.table ∧ (s.clockSetTo minute seconds q).heads = s.heads ∧
    (s.clockSetTo minute seconds q).link = s.link ∧ (s.clockSetTo minute seconds q).arbiter = s.arbiter ∧
    (s.clockSetTo minute seconds q).boiler = s.boiler ∧ (s.clockSetTo minute seconds q).field = s.field ∧
    (s.clockSetTo minute seconds q).main = s.main ∧ (s.clockSetTo minute seconds q).service = s.service ∧
    (s.clockSetTo minute seconds q).restartPending = s.restartPending ∧
    (s.clockSetTo minute seconds q).acting = s.acting ∧ (s.clockSetTo minute seconds q).pending = s.pending := by
  simp [State.clockSetTo]

theorem clockSetTo_channel (s : State) (minute seconds : Nat) (q : Parity) (c : Nat) (hlen : s.channels.length = 17)
    (h1 : 1 ≤ c) (h2 : c ≤ 17) : (s.clockSetTo minute seconds q).channel c =
      { s.channel c with plan := (s.setClock (s.clock.setTo minute seconds q)).compilePlan c } := by
  have h := compileAll_channel (s.setClock (s.clock.setTo minute seconds q)) c hlen h1 h2
  simpa [State.channel, State.clockSetTo] using h

theorem clockSetTo_zone (s : State) (minute seconds : Nat) (q : Parity) (k : Nat) (hlen : s.zones.length = 16)
    (h1 : 1 ≤ k) (h2 : k ≤ 16) : (s.clockSetTo minute seconds q).zone k =
      { s.zone k with preheat := (s.zone k).preheat.ended } := by
  have h := abandonAll_zone (s.setClock (s.clock.setTo minute seconds q)).compileAll k (by simpa using hlen) h1 h2
  simpa [State.zone, State.clockSetTo] using h

@[simp] theorem met_channel (s : State) (p : Port) (c : Nat) : (s.met p).channel c = s.channel c := channel_congr c

@[simp] theorem met_zone (s : State) (p : Port) (k : Nat) : (s.met p).zone k = s.zone k := zone_congr k

/-- Settles O11: the work of an accepted CLOCK-SET is `clockSetTo`, read by `compileAll_channel` and `abandonAll_zone`. -/
theorem clockSetRecompilesAndAbandons : Obligations.ClockSetRecompilesAndAbandons := by
  intro p minute seconds code s htakes
  refine ⟨fun q hm hsec hq hshape => ?_, fun h => ?_⟩
  · have hchan : s.channels.length = 17 := ((planSizes_iff _).mp (congrArg Prod.fst (sizes_of_shaped hshape))).1
    have hzone : s.zones.length = 16 := congrArg (·.2.1) (sizes_of_shaped hshape)
    have hwork : (clockSetRequest minute seconds code).work (s.met p) =
        ((s.met p).clockSetTo minute seconds q, .done {} []) := clockSetWork_accepted _ _ _ _ _ hm hsec hq
    have hport (r : Port) : ((s.met p).clockSetTo minute seconds q).port r = (s.met p).port r := by
      cases r <;> simp [State.port]
    have hreplied := requestEvent_replied p (clockSetRequest minute seconds code) s [] htakes rfl
      (by simp [clockSetRequest]) (fun r => by simp [hwork, hport])
    rw [hwork] at hreplied
    refine ⟨_, rfl, hreplied, ?_⟩
    rw [requestEvent_served p _ s htakes rfl (by simp [clockSetRequest]), hwork]
    refine ⟨state_ext, ?_, fun c h1 h2 => ?_, fun k h1 h2 => ?_⟩
    · simp [Clock.setTo]
    · rw [channel_congr (s := (s.met p).clockSetTo minute seconds q) c]
      have hc := clockSetTo_channel (s.met p) minute seconds q c (by simpa using hchan) h1 h2
      rw [met_channel] at hc
      refine ⟨planCompiled_of_compilePlan (s := (s.met p).setClock (s.clock.setTo minute seconds q)) c
        (by simp) (by simp) ?_, by rw [hc]⟩
      rw [channel_congr (s := (s.met p).clockSetTo minute seconds q) c, hc]
      simp
    · rw [zone_congr (s := (s.met p).clockSetTo minute seconds q) k,
        clockSetTo_zone (s.met p) minute seconds q k (by simpa using hzone) h1 h2, met_zone]
      cases (s.zone k).preheat <;> rfl
  · have h := requestEvent_refused p (clockSetRequest minute seconds code) s (.refused .range) htakes rfl
      (by simp [clockSetRequest]) (clockSetWork_refused minute seconds code (s.met p) h)
    exact ⟨_, rfl, h⟩

end Sys2Proof.Machine
end

section
/-! PROOF. The compiler of the plans (O10). -/

namespace Sys2Proof.Machine

/-! ### The compiler's entry (R13) -/

/-- `r` is a latest record of the run at or before `limit` on this day in this parity (R13 step 2). -/
structure IsLatest (run : List SwitchPoint) (day : Nat) (q : Parity) (limit : Nat) (r : SwitchPoint) : Prop where
  mem : r ∈ run
  acts : r.acts day q = true
  slot_le : r.slot ≤ limit
  greatest : ∀ x ∈ run, x.acts day q = true → x.slot ≤ limit → x.slot ≤ r.slot

theorem latestPoint_concat (run : List SwitchPoint) (p : SwitchPoint) (day : Nat) (q : Parity) (limit : Nat) :
    latestPoint (run ++ [p]) day q limit =
      if p.acts day q = true ∧ p.slot ≤ limit then some ((laterPoint (latestPoint run day q limit) p).getD p)
      else latestPoint run day q limit := by
  have later (best : Option SwitchPoint) : laterPoint best p = some ((laterPoint best p).getD p) := by
    cases best with
    | none => rfl
    | some b => simp only [laterPoint]; split <;> rfl
  simp only [latestPoint, List.foldl_concat, Bool.and_eq_true, decide_eq_true_eq]
  split
  · exact later _
  · rfl

/-- The search finds nothing exactly where no acting record is early enough. -/
theorem latestPoint_eq_none (run : List SwitchPoint) (day : Nat) (q : Parity) (limit : Nat) :
    latestPoint run day q limit = none ↔ ∀ p ∈ run, p.acts day q = true → limit < p.slot := by
  induction run using List.reverseRecOn with
  | nil => simp [latestPoint]
  | append_singleton run p ih =>
    rw [latestPoint_concat]
    by_cases hp : p.acts day q = true ∧ p.slot ≤ limit
    · simp [hp]
    · rw [if_neg hp, ih]
      have : p.acts day q = true → limit < p.slot := fun ha => Nat.lt_of_not_le fun hle => hp ⟨ha, hle⟩
      simp only [List.forall_mem_append, List.forall_mem_singleton]
      exact (and_iff_left this).symm

/-- What it finds is a latest record. -/
theorem isLatest_of_latestPoint {run : List SwitchPoint} {day : Nat} {q : Parity} {limit : Nat} {r : SwitchPoint}
    (h : latestPoint run day q limit = some r) : IsLatest run day q limit r := by
  induction run using List.reverseRecOn generalizing r with
  | nil => simp [latestPoint] at h
  | append_singleton run p ih =>
    rw [latestPoint_concat] at h
    split at h
    case isTrue hp =>
      obtain ⟨hacts, hslot⟩ := hp
      cases hb : latestPoint run day q limit with
      | none =>
        have none_acts := (latestPoint_eq_none ..).mp hb
        obtain rfl : p = r := by simpa [hb, laterPoint] using h
        refine ⟨by simp, hacts, hslot, List.forall_mem_append.mpr ⟨fun x hx ha hle => ?_, by simp⟩⟩
        exact absurd hle (Nat.not_le_of_lt (none_acts x hx ha))
      | some b =>
        obtain ⟨bmem, bacts, bslot, bgreatest⟩ := ih hb
        by_cases hlt : b.slot < p.slot
        · obtain rfl : p = r := by simpa [hb, laterPoint, hlt] using h
          refine ⟨by simp, hacts, hslot, List.forall_mem_append.mpr ⟨fun x hx ha hle => ?_, by simp⟩⟩
          exact (bgreatest x hx ha hle).trans hlt.le
        · obtain rfl : b = r := by simpa [hb, laterPoint, hlt] using h
          refine ⟨by simp [bmem], bacts, bslot, List.forall_mem_append.mpr ⟨bgreatest, ?_⟩⟩
          simpa using fun _ _ => Nat.le_of_not_lt hlt
    case isFalse hp =>
      obtain ⟨rmem, racts, rslot, rgreatest⟩ := ih h
      refine ⟨by simp [rmem], racts, rslot, List.forall_mem_append.mpr ⟨rgreatest, ?_⟩⟩
      simpa using fun ha hle => absurd ⟨ha, hle⟩ hp

/-- Where an acting record is early enough, the search finds a latest one. -/
theorem exists_latestPoint {run : List SwitchPoint} {day : Nat} {q : Parity} {limit : Nat} {p : SwitchPoint}
    (hp : p ∈ run) (ha : p.acts day q = true) (hle : p.slot ≤ limit) :
    ∃ r, latestPoint run day q limit = some r ∧ IsLatest run day q limit r := by
  cases h : latestPoint run day q limit with
  | none => exact absurd hle (Nat.not_le_of_lt ((latestPoint_eq_none ..).mp h p hp ha))
  | some r => exact ⟨r, rfl, isLatest_of_latestPoint h⟩

/-- A day without an acting record has no latest one. -/
theorem latestPoint_of_none_acts {run : List SwitchPoint} {day : Nat} {q : Parity} (limit : Nat)
    (h : ∀ p ∈ run, p.acts day q = false) : latestPoint run day q limit = none :=
  (latestPoint_eq_none ..).mpr fun p hp ha => by simp [h p hp] at ha

theorem lookBack_succ_none {run : List SwitchPoint} {day : Nat} {q : Parity}
    (h : latestPoint run (dayBefore day q).1 (dayBefore day q).2 143 = none) (k : Nat) :
    lookBack run (k + 1) day q = lookBack run k (dayBefore day q).1 (dayBefore day q).2 := by
  simp [lookBack, h]

theorem lookBack_succ_some {run : List SwitchPoint} {day : Nat} {q : Parity} {r : SwitchPoint}
    (h : latestPoint run (dayBefore day q).1 (dayBefore day q).2 143 = some r) (k : Nat) :
    lookBack run (k + 1) day q = some r.level := by
  simp [lookBack, h]

/-- The look-back passes over the days without a record (R13 step 3). -/
theorem lookBack_skip {run : List SwitchPoint} (n k day : Nat) (q : Parity)
    (h : ∀ j < n, ∀ p ∈ run, p.acts (daysBack (j + 1) day q).1 (daysBack (j + 1) day q).2 = false) :
    lookBack run (n + k) day q = lookBack run k (daysBack n day q).1 (daysBack n day q).2 := by
  induction n generalizing day q with
  | zero => simp [daysBack]
  | succ n ih =>
    have first := latestPoint_of_none_acts 143 (h 0 (by omega))
    rw [Nat.add_right_comm, lookBack_succ_none first]
    exact ih _ _ fun j hj => h (j + 1) (by omega)

/-- The next day back, taken at the far end. -/
theorem daysBack_succ (n day : Nat) (q : Parity) :
    daysBack (n + 1) day q = dayBefore (daysBack n day q).1 (daysBack n day q).2 := by
  induction n generalizing day q with
  | zero => rfl
  | succ n ih => exact ih _ _

theorem compileEntry_of_latestPoint {run : List SwitchPoint} {day : Nat} {q : Parity} {slot : Nat} {r : SwitchPoint}
    (h : latestPoint run day q slot = some r) (dflt : Level) : compileEntry run dflt day q slot = r.level := by
  simp [compileEntry, h]

theorem compileEntry_of_lookBack {run : List SwitchPoint} {day : Nat} {q : Parity} {slot : Nat}
    (h : latestPoint run day q slot = none) (dflt : Level) :
    compileEntry run dflt day q slot = (lookBack run 14 day q).getD dflt := by
  simp [compileEntry, h]

/-- The nearest day back with an acting record gives its latest one (R13 step 3). -/
theorem lookBack_of_first {run : List SwitchPoint} (hslots : ∀ p ∈ run, p.slot ≤ 143) {n k day : Nat} {q : Parity}
    (hnone : ∀ j < n, ∀ p ∈ run, p.acts (daysBack (j + 1) day q).1 (daysBack (j + 1) day q).2 = false)
    {p : SwitchPoint} (hp : p ∈ run) (ha : p.acts (daysBack (n + 1) day q).1 (daysBack (n + 1) day q).2 = true) :
    ∃ r, IsLatest run (daysBack (n + 1) day q).1 (daysBack (n + 1) day q).2 143 r ∧
      lookBack run (n + (k + 1)) day q = some r.level := by
  obtain ⟨r, hr, latest⟩ := exists_latestPoint hp ha (hslots p hp)
  refine ⟨r, latest, ?_⟩
  rw [lookBack_skip n (k + 1) day q hnone]
  rw [daysBack_succ] at hr
  exact lookBack_succ_some hr k

/-- The 14 days before a day are every weekday in both parities (R12). -/
theorem exists_daysBack (day : Nat) (hday : day < 7) (q : Parity) (d : Nat) (hd : d < 7) (r : Parity) :
    ∃ j < 14, daysBack (j + 1) day q = (d, r) := by
  have all : ∀ q ∈ [Parity.a, .b], ∀ r ∈ [Parity.a, .b], ∀ day < 7, ∀ d < 7, ∃ j < 14, daysBack (j + 1) day q = (d, r) := by
    decide
  exact all q (by cases q <;> simp) r (by cases r <;> simp) day hday d hd

theorem WeekSet.exists_contains (w : WeekSet) : ∃ q, w.contains q = true := by
  cases w with
  | ab => exact ⟨.a, rfl⟩
  | a => exact ⟨.a, rfl⟩
  | b => exact ⟨.b, rfl⟩

/-- A record with a day in its set acts on one of the 14 days before any day. -/
theorem acts_daysBack {p : SwitchPoint} (hp : p.days ≠ 0) (day : Nat) (hday : day < 7) (q : Parity) :
    ∃ j < 14, p.acts (daysBack (j + 1) day q).1 (daysBack (j + 1) day q).2 = true := by
  obtain ⟨d, hd⟩ : ∃ d, p.days.getLsbD d = true := by
    by_contra h
    exact hp (BitVec.eq_of_getLsbD_eq fun i _ => by simpa using fun hi => h ⟨i, hi⟩)
  obtain ⟨r, hr⟩ := p.weeks.exists_contains
  obtain ⟨j, hj, hback⟩ := exists_daysBack day hday q d (BitVec.lt_of_getLsbD hd) r
  exact ⟨j, hj, by simp [hback, SwitchPoint.acts, hd, hr]⟩

/-- With a record in the look-back's reach, the look-back answers. -/
theorem lookBack_isSome {run : List SwitchPoint} (hslots : ∀ p ∈ run, p.slot ≤ 143) {day : Nat} (hday : day < 7) (q : Parity)
    {p : SwitchPoint} (hp : p ∈ run) (hdays : p.days ≠ 0) : ∃ l, lookBack run 14 day q = some l := by
  have reach : ∃ j, j < 14 ∧ ∃ p ∈ run, p.acts (daysBack (j + 1) day q).1 (daysBack (j + 1) day q).2 = true := by
    obtain ⟨j, hj, ha⟩ := acts_daysBack hdays day hday q
    exact ⟨j, hj, p, hp, ha⟩
  classical
  obtain ⟨hn, p, hp, ha⟩ := Nat.find_spec reach
  have before : ∀ j < Nat.find reach, ∀ p ∈ run,
      p.acts (daysBack (j + 1) day q).1 (daysBack (j + 1) day q).2 = false := fun j hj p hp => by
    have := Nat.find_min reach hj
    simpa using fun ha => this ⟨hj.trans hn, p, hp, ha⟩
  obtain ⟨r, -, hl⟩ := lookBack_of_first (k := 13 - Nat.find reach) hslots before hp ha
  rw [show Nat.find reach + (13 - Nat.find reach + 1) = 14 by omega] at hl
  exact ⟨r.level, hl⟩

/-- Settles O10: the entry is `latestPoint`'s record, or the look-back's. -/
theorem planEntryTakesTheLatestPoint : Obligations.PlanEntryTakesTheLatestPoint := by
  intro run dflt day q slot
  refine ⟨fun p hp ha hle => ?today, fun hslots hlate => ⟨fun n hn hnone p hp ha => ?earlier, fun hnone => ?default⟩,
    fun ⟨p, hp, hdays⟩ hslots hday other => ?never⟩
  case today =>
    obtain ⟨r, hr, latest⟩ := exists_latestPoint hp ha hle
    exact ⟨r, latest.mem, latest.acts, latest.slot_le, latest.greatest, compileEntry_of_latestPoint hr dflt⟩
  case earlier =>
    obtain ⟨r, latest, hl⟩ := lookBack_of_first (k := 13 - n) hslots hnone hp ha
    rw [show n + (13 - n + 1) = 14 by omega] at hl
    refine ⟨r, latest.mem, latest.acts, fun x hx hxa => latest.greatest x hx hxa (hslots x hx), ?_⟩
    rw [compileEntry_of_lookBack ((latestPoint_eq_none ..).mpr hlate), hl, Option.getD_some]
  case default =>
    rw [compileEntry_of_lookBack ((latestPoint_eq_none ..).mpr hlate), lookBack_skip 14 0 day q hnone]
    rfl
  case never =>
    cases h : latestPoint run day q slot with
    | some r => rw [compileEntry_of_latestPoint h, compileEntry_of_latestPoint h]
    | none =>
      obtain ⟨l, hl⟩ := lookBack_isSome hslots hday q hp hdays
      simp [compileEntry_of_lookBack h, hl]

end Sys2Proof.Machine
end

section
/-! PROOF. Validation of the program table (O44). -/

namespace Sys2Proof.Machine

/-! ### Validation of the program table (R10) -/

theorem WeekSet.meets_iff (x y : WeekSet) : x.meets y = true ↔ ∃ q, x.contains q = true ∧ y.contains q = true := by
  simp only [WeekSet.meets, Bool.or_eq_true, Bool.and_eq_true]
  constructor
  · rintro (h | h)
    · exact ⟨.a, h⟩
    · exact ⟨.b, h⟩
  · rintro ⟨q, h⟩
    cases q with
    | a => exact .inl h
    | b => exact .inr h

theorem SwitchPoint.clashes_iff (x y : SwitchPoint) : x.clashes y = true ↔
    x.slot = y.slot ∧ x.days &&& y.days ≠ 0 ∧ ∃ q, x.weeks.contains q = true ∧ y.weeks.contains q = true := by
  simp [SwitchPoint.clashes, WeekSet.meets_iff, and_assoc]

theorem runClashes_eq_false (run : List SwitchPoint) :
    runClashes run = false ↔ run.Pairwise fun x y => ¬ x.clashes y = true := by
  induction run with
  | nil => simp [runClashes]
  | cons p rest ih => simp [runClashes, ih]

/-- A run clashes where two of its records do. -/
theorem runClashes_iff (run : List SwitchPoint) : runClashes run = true ↔
    ∃ (i k : Nat) (x y : SwitchPoint), i < k ∧ run[i]? = some x ∧ run[k]? = some y ∧ x.clashes y = true := by
  rw [← Bool.not_eq_false, runClashes_eq_false, List.pairwise_iff_getElem]
  constructor
  · intro h
    push Not at h
    obtain ⟨i, k, hi, hk, hik, hc⟩ := h
    exact ⟨i, k, _, _, hik, List.getElem?_eq_getElem hi, List.getElem?_eq_getElem hk, hc⟩
  · rintro ⟨i, k, x, y, hik, hx, hy, hc⟩ h
    obtain ⟨hi, rfl⟩ := List.getElem?_eq_some_iff.mp hx
    obtain ⟨hk, rfl⟩ := List.getElem?_eq_some_iff.mp hy
    exact h i k hi hk hik hc

/-- Two programs overlap where one pool record is in both. -/
theorem ProgramEntry.overlaps_iff (e f : ProgramEntry) : e.overlaps f = true ↔
    ∃ n, (e.start ≤ n ∧ n < e.start + e.length) ∧ f.start ≤ n ∧ n < f.start + f.length := by
  simp only [ProgramEntry.overlaps, Bool.and_eq_true, bne_iff_ne, decide_eq_true_eq]
  constructor
  · rintro ⟨⟨⟨he, hf⟩, h1⟩, h2⟩
    exact ⟨max e.start f.start, by omega, by omega⟩
  · rintro ⟨n, he, hf⟩
    omega

/-- The four conditions of R10, against the programs below. -/
theorem programFails_iff (pool : List SwitchPoint) (below : List ProgramEntry) (e : ProgramEntry) :
    programFails pool below e = true ↔ e.length ≠ 0 ∧
      (256 < e.start + e.length ∨
        (∃ f ∈ below, ∃ n, (e.start ≤ n ∧ n < e.start + e.length) ∧ f.start ≤ n ∧ n < f.start + f.length) ∨
        (∃ r ∈ runOf pool e, r.days = 0) ∨
        ∃ (i k : Nat) (x y : SwitchPoint), i < k ∧ (runOf pool e)[i]? = some x ∧ (runOf pool e)[k]? = some y ∧
          x.slot = y.slot ∧ x.days &&& y.days ≠ 0 ∧ ∃ q, x.weeks.contains q = true ∧ y.weeks.contains q = true) := by
  simp only [programFails, Bool.and_eq_true, bne_iff_ne, Bool.or_eq_true, decide_eq_true_eq, List.any_eq_true, beq_iff_eq,
    ProgramEntry.overlaps_iff, runClashes_iff, SwitchPoint.clashes_iff, or_assoc]

/-- The search answers none where every program passes against those before it. -/
theorem firstFailing_eq_none (pool : List SwitchPoint) (below : List ProgramEntry) (n : Nat) (rest : List ProgramEntry) :
    firstFailing pool below n rest = none ↔
      ∀ i e, rest[i]? = some e → programFails pool (below ++ rest.take i) e = false := by
  induction rest generalizing below n with
  | nil => simp [firstFailing]
  | cons p rest ih =>
    rw [firstFailing]
    constructor
    · intro h i e he
      by_cases hp : programFails pool below p = true
      · simp [hp] at h
      · rw [if_neg hp, ih] at h
        cases i with
        | zero =>
          obtain rfl : p = e := by simpa using he
          simpa using hp
        | succ i => simpa using h i e (by simpa using he)
    · intro h
      have hp : programFails pool below p = false := by simpa using h 0 p rfl
      rw [if_neg (by simp [hp]), ih]
      intro i e he
      simpa using h (i + 1) e (by simpa using he)

/-- The number it answers is the first failing program's. -/
theorem firstFailing_eq_some {pool : List SwitchPoint} {below : List ProgramEntry} {n m : Nat} {rest : List ProgramEntry}
    (h : firstFailing pool below n rest = some m) :
    ∃ i e, m = n + i ∧ rest[i]? = some e ∧ programFails pool (below ++ rest.take i) e = true ∧
      ∀ j < i, ∀ f, rest[j]? = some f → programFails pool (below ++ rest.take j) f = false := by
  induction rest generalizing below n with
  | nil => simp [firstFailing] at h
  | cons p rest ih =>
    rw [firstFailing] at h
    by_cases hp : programFails pool below p = true
    · rw [if_pos hp, Option.some.injEq] at h
      exact ⟨0, p, h.symm, rfl, by simpa using hp, fun j hj => absurd hj (by omega)⟩
    · rw [if_neg hp] at h
      obtain ⟨i, e, rfl, he, fails, earlier⟩ := ih h
      refine ⟨i + 1, e, by omega, by simpa using he, by simpa using fails, fun j hj f hf => ?_⟩
      cases j with
      | zero =>
        obtain rfl : p = f := by simpa using hf
        simpa using hp
      | succ j => simpa using earlier j (by omega) f (by simpa using hf)

theorem mem_take_iff (l : List ProgramEntry) (i : Nat) (f : ProgramEntry) : f ∈ l.take i ↔ ∃ j < i, l[j]? = some f := by
  simp only [List.mem_iff_getElem?, List.getElem?_take, Option.ite_none_right_eq_some]

/-- R10's failure by number is `programFails` against the programs before it. -/
theorem failsValidation_succ (pool : List SwitchPoint) (programs : List ProgramEntry) (i : Nat) :
    failsValidation pool programs (i + 1) ↔ ∃ e, programs[i]? = some e ∧ programFails pool (programs.take i) e = true := by
  have below (e : ProgramEntry) :
      (∃ f ∈ programs.take i, ∃ n, (e.start ≤ n ∧ n < e.start + e.length) ∧ f.start ≤ n ∧ n < f.start + f.length) ↔
        ∃ (j n : Nat) (f : ProgramEntry), j + 1 < i + 1 ∧ programs[j]? = some f ∧
          (e.start ≤ n ∧ n < e.start + e.length) ∧ f.start ≤ n ∧ n < f.start + f.length := by
    constructor
    · rintro ⟨f, hf, n, hn⟩
      obtain ⟨j, hj, hget⟩ := (mem_take_iff ..).mp hf
      exact ⟨j, n, f, by omega, hget, hn⟩
    · rintro ⟨j, n, f, hj, hget, hn⟩
      exact ⟨f, (mem_take_iff ..).mpr ⟨j, by omega, hget⟩, n, hn⟩
  simp only [failsValidation, programFails_iff, below, Nat.add_sub_cancel, Nat.one_le_iff_ne_zero]
  simp

/-- Validation answers none where no number fails. -/
theorem invalidProgram_eq_none (pool : List SwitchPoint) (programs : List ProgramEntry) :
    invalidProgram pool programs = none ↔ ∀ n, ¬ failsValidation pool programs n := by
  rw [invalidProgram, firstFailing_eq_none]
  constructor
  · intro h n
    cases n with
    | zero => exact fun hf => absurd hf.1 (by omega)
    | succ i =>
      rw [failsValidation_succ]
      rintro ⟨e, he, fails⟩
      exact absurd fails (by simpa using h i e he)
  · intro h i e he
    have := h (i + 1)
    rw [failsValidation_succ] at this
    simpa using fun fails => this ⟨e, he, fails⟩

/-- A number it answers fails, and none below it does. -/
theorem invalidProgram_eq_some {pool : List SwitchPoint} {programs : List ProgramEntry} {n : Nat}
    (h : invalidProgram pool programs = some n) :
    failsValidation pool programs n ∧ ∀ m, 1 ≤ m → m < n → ¬ failsValidation pool programs m := by
  obtain ⟨i, e, rfl, he, fails, earlier⟩ := firstFailing_eq_some h
  rw [Nat.add_comm]
  refine ⟨(failsValidation_succ ..).mpr ⟨e, he, fails⟩, fun m hm hlt => ?_⟩
  obtain ⟨j, rfl⟩ := Nat.exists_eq_add_of_le' hm
  rw [failsValidation_succ]
  rintro ⟨f, hf, ffails⟩
  simp [show programFails pool (programs.take j) f = false from earlier j (by omega) f hf] at ffails

/-- Settles O44: the search of R10 is exact, and a table that passes it has disjoint runs. -/
theorem validTablesHaveDisjointRuns : Obligations.ValidTablesHaveDisjointRuns := by
  refine ⟨fun pool programs valid => ?_, fun pool programs =>
    ⟨(invalidProgram_eq_none pool programs).mpr, fun n => invalidProgram_eq_some⟩⟩
  have passes {i : Nat} {e : ProgramEntry} (he : programs[i]? = some e) : ¬ programFails pool (programs.take i) e = true :=
    fun fails => (invalidProgram_eq_none pool programs).mp valid (i + 1) ((failsValidation_succ ..).mpr ⟨e, he, fails⟩)
  constructor
  · intro e hmem hlen
    obtain ⟨i, hi⟩ := List.mem_iff_getElem?.mp hmem
    have ok := passes hi
    simp only [programFails_iff, not_or, not_exists, not_and] at ok
    obtain ⟨fits, -, days, clashes⟩ := ok hlen
    refine ⟨by omega, days, fun a b x y hab hx hy hslot => ?_⟩
    by_cases hd : x.days &&& y.days = 0
    · exact .inl hd
    · exact .inr fun q ⟨hxq, hyq⟩ => clashes a b x y hab hx hy hslot hd q hxq hyq
  · have disjoint {i j : Nat} {e f : ProgramEntry} (hij : i < j) (he : programs[i]? = some e) (hf : programs[j]? = some f)
        (hlen : f.length ≠ 0) (n : Nat) :
        ¬ (e.start ≤ n ∧ n < e.start + e.length ∧ f.start ≤ n ∧ n < f.start + f.length) := fun ⟨h1, h2, h3, h4⟩ =>
      passes hf ((programFails_iff ..).mpr
        ⟨hlen, .inr (.inl ⟨e, (mem_take_iff ..).mpr ⟨i, hij, he⟩, n, ⟨h3, h4⟩, h1, h2⟩)⟩)
    intro i j e f hij he hf hlene hlenf n ⟨he1, he2, hf1, hf2⟩
    rcases Nat.lt_or_gt_of_ne hij with hlt | hlt
    · exact disjoint hlt he hf hlenf n ⟨he1, he2, hf1, hf2⟩
    · exact disjoint hlt hf he hlene n ⟨hf1, hf2, he1, he2⟩

end Sys2Proof.Machine
end

section
/-! PROOF. Preheat at a regulation pass (O24). -/

namespace Sys2Proof.Machine

/-! ### Preheat at a pass (R17 to R21) -/

theorem truncDiv_eq_tdiv (n : Int) (d : Nat) : truncDiv n d = Int.tdiv n d := by
  unfold truncDiv
  split
  · next h =>
    rw [Int.ofNat_tdiv, Int.ofNat_natAbs_of_nonpos h.le, Int.neg_tdiv, neg_neg]
  · next h => rw [Int.ofNat_tdiv, Int.natAbs_of_nonneg (Int.not_lt.mp h)]

/-- The learned rate is the clamped one: the clamp keeps it a count. -/
theorem learnedRate_cast (old : Nat) (rise : Temp) (m : Nat) :
    (learnedRate old rise m : Int) = clamp 5 60 (Int.tdiv (3 * old + Int.tdiv (rise * 60) m) 4) := by
  have nonneg (x : Int) : 0 ≤ clamp 5 60 x := by unfold clamp; split_ifs <;> omega
  rw [learnedRate, Int.toNat_of_nonneg (nonneg _), truncDiv_eq_tdiv, truncDiv_eq_tdiv]
  rfl

/-- The ceiling of R17, by multiplication. -/
theorem le_ceilDiv {m n d : Nat} (hd : 1 ≤ d) (h : ((m : Int) - 1) * d < n) : m ≤ ceilDiv n d := by
  rw [ceilDiv, Nat.le_div_iff_mul_le hd]
  zify at *
  rw [Int.sub_mul] at h
  omega

theorem zoneCfg_setZoneCfg_same (s : State) (k : Nat) (x : ZoneCfg) (h1 : 1 ≤ k) (h2 : k ≤ s.cfg.zones.length) :
    (s.setZoneCfg k x).zoneCfg k = x := item_setItem_same _ _ _ _ h1 h2

/-- A part of a zone's record that an update keeps is kept in every zone. -/
theorem zone_setZone_part {β : Type} (f : ZoneRun → β) (s : State) (k : Nat) (z : ZoneRun) (h : f z = f (s.zone k)) (j : Nat) :
    f ((s.setZone k z).zone j) = f (s.zone j) := by
  by_cases hj : j = k
  · subst hj
    by_cases hr : 1 ≤ j ∧ j ≤ s.zones.length
    · rw [zone_setZone_same s j z hr.1 hr.2, h]
    · exact congrArg (fun l => f (item l j .initial)) (setItem_outside _ _ _ (by omega))
  · rw [zone_setZone_other s k j z hj]

/-! #### The later stages (R52) keep the record and the configuration -/

theorem windowDetection_preheat (s : State) (k j : Nat) : ((s.windowDetection k).zone j).preheat = (s.zone j).preheat := by
  rw [State.windowDetection, zone_setZone_part ZoneRun.preheat]
  · exact congrArg ZoneRun.preheat (zone_congr j (by split <;> simp))
  · rfl

theorem demandStage_preheat (s : State) (k j : Nat) : ((s.demandStage k).zone j).preheat = (s.zone j).preheat := by
  unfold State.demandStage
  cases s.freshReading k with
  | some r =>
    simp only [State.regulate]
    rw [zone_setZone_part ZoneRun.preheat]
    rfl
  | none =>
    simp only [State.sensorlessStage]
    rw [zone_setZone_part ZoneRun.preheat]
    · exact congrArg ZoneRun.preheat (zone_congr j (by split <;> simp))
    · rfl

theorem callStage_preheat (s : State) (k j : Nat) : ((s.callStage k).zone j).preheat = (s.zone j).preheat := by
  rw [State.callStage, zone_setZone_part ZoneRun.preheat]
  rfl

/-- The state whose pass of zone `k` is taken: the pass is no longer due (R51). -/
def State.passTaken (s : State) (k : Nat) : State := s.setZone k { s.zone k with passDue := false }

theorem pass_preheat (s : State) (k j : Nat) :
    ((s.pass k).zone j).preheat = (((s.passTaken k).optimumStart k).zone j).preheat := by
  calc ((s.pass k).zone j).preheat
      = ((((((s.passTaken k).optimumStart k).windowDetection k).demandStage k).callStage k).zone j).preheat :=
        congrArg ZoneRun.preheat (zone_congr j (by simp [State.pass, State.passTaken]))
    _ = (((s.passTaken k).optimumStart k).zone j).preheat := by
        rw [callStage_preheat, demandStage_preheat, windowDetection_preheat]

theorem pass_cfg (s : State) (k : Nat) : (s.pass k).cfg = ((s.passTaken k).optimumStart k).cfg := by
  simp [State.pass, State.passTaken]

/-- A due pass, read in the record and the configuration: its first stage's work. -/
theorem exec_regulationPass_reads (k : Nat) (s : State) (ha : s.acting = none) (hdue : (s.zone k).passDue = true) :
    ∃ t, exec (.regulationPass k) s = .next t ∧
      (t.zone k).preheat = (((s.passTaken k).optimumStart k).zone k).preheat ∧
      t.zoneCfg k = ((s.passTaken k).optimumStart k).zoneCfg k := by
  refine ⟨regulationPassEvent k s, rfl, ?_⟩
  rw [regulationPassEvent, if_pos hdue, plantEvent_free _ _ ha, ← pass_preheat]
  exact ⟨congrArg ZoneRun.preheat (zone_congr k), by simp [State.zoneCfg, pass_cfg]⟩

/-! #### The optimum start stage, on a zone's record -/

theorem freshReading_setZone (s : State) (k : Nat) (z : ZoneRun) (h : z.reading = (s.zone k).reading) (j : Nat) :
    (s.setZone k z).freshReading j = s.freshReading j := by
  rw [State.freshReading, State.freshReading, zone_setZone_part ZoneRun.reading s k z h]
  rfl

theorem freshReading_setPreheat (s : State) (k : Nat) (p : Preheat) (j : Nat) :
    (s.setPreheat k p).freshReading j = s.freshReading j := by
  rw [State.setPreheat, freshReading_setZone]
  rfl

/-- The next rise is the first slot ahead with a higher temperature (R17). -/
theorem nextRise_eq_some (s : State) (k i : Nat) : s.nextRise k = some i ↔
    (s.clock.slot < i ∧ i < 288 ∧
      (s.channelCfg k).temperature (s.baseLevel k) < (s.channelCfg k).temperature (s.planLevel k i)) ∧
    ∀ j, s.clock.slot < j → j < i →
      (s.channelCfg k).temperature (s.planLevel k j) ≤ (s.channelCfg k).temperature (s.baseLevel k) := by
  simp only [State.nextRise, List.find?_range_eq_some, Bool.and_eq_true, decide_eq_true_eq, List.mem_range,
    Bool.not_eq_true', Bool.and_eq_false_iff, decide_eq_false_iff_not, not_lt]
  constructor
  · rintro ⟨⟨h1, h2⟩, h3, h4⟩
    exact ⟨⟨h1, h3, h2⟩, fun j hj hji => (h4 j hji).resolve_left (by omega)⟩
  · rintro ⟨⟨h1, h3, h2⟩, h4⟩
    exact ⟨⟨h1, h2⟩, h3, fun j hji => or_iff_not_imp_left.mpr fun hj => h4 j (by omega) hji⟩

theorem nextRise_eq_none (s : State) (k : Nat) : s.nextRise k = none ↔ ∀ i < 288, s.clock.slot < i →
    (s.channelCfg k).temperature (s.planLevel k i) ≤ (s.channelCfg k).temperature (s.baseLevel k) := by
  simp [State.nextRise, List.find?_eq_none]

/-- The search leaves the zone's record where a condition of R17 fails. -/
theorem preheatSearch_idle (s : State) (k : Nat)
    (h : s.clock.clockSet = false ∨ (s.zoneCfg k).preheatEnable = false ∨ s.parked k = true ∨
      (s.zone k).preheat.isEarly = true ∨ s.nextRise k = none) : s.preheatSearch k = s := by
  unfold State.preheatSearch
  cases s.freshReading k with
  | none => rfl
  | some r =>
    dsimp only
    rw [ite_eq_right_iff]
    rintro ⟨hset, hen, hpark, hearly⟩
    have hrise : s.nextRise k = none := by simp_all
    simp [State.preheatStart, hrise]

/-- The search starts the preheat that R17 describes. -/
theorem preheatSearch_starts (s : State) (k : Nat) (r : Temp) (run : PreheatRun) (hr : s.freshReading k = some r)
    (hset : s.clock.clockSet = true) (hen : (s.zoneCfg k).preheatEnable = true) (hpark : s.parked k = false)
    (hearly : (s.zone k).preheat.isEarly = false) (hstart : s.preheatStart k r = some run) :
    s.preheatSearch k = s.setPreheat k (.early run) := by
  simp [State.preheatSearch, hr, hset, hen, hpark, hearly, hstart]

/-- The preheat of a rise that is due: within the limit, below its temperature, and within the lead (R17). -/
theorem preheatStart_eq (s : State) (k i : Nat) (r : Temp) (hrise : s.nextRise k = some i)
    (hrate : 1 ≤ (s.zoneCfg k).rate) (hlimit : 10 * i - s.clock.minuteOfDay ≤ (s.zoneCfg k).preheatLimit)
    (hbelow : r < (s.channelCfg k).temperature (s.planLevel k i))
    (hlead : (((10 * i - s.clock.minuteOfDay : Nat) : Int) - 1) * (s.zoneCfg k).rate <
      ((s.channelCfg k).temperature (s.planLevel k i) - r) * 60) :
    s.preheatStart k r = some
      { target := s.planLevel k i, riseMinute := s.clock.minuteAt i, startElapsed := s.clock.elapsed, startReading := r,
        spoiled := false, learningDone := false } := by
  have lead : 10 * i - s.clock.minuteOfDay ≤
      ceilDiv (((s.channelCfg k).temperature (s.planLevel k i) - r).toNat * 60) (s.zoneCfg k).rate := by
    refine le_ceilDiv hrate ?_
    push_cast
    rwa [Int.toNat_of_nonneg (Int.sub_nonneg_of_le hbelow.le)]
  simp only [State.preheatStart, hrise]
  rw [if_pos ⟨hlimit, Int.sub_pos_of_lt hbelow, le_min lead hlimit⟩]

theorem learnWith_learns (s : State) (k : Nat) (run : PreheatRun) (next : Preheat) (r : Temp)
    (hr : s.freshReading k = some r) (hd : run.learningDone = false)
    (ht : (s.channelCfg k).temperature run.target ≤ r) :
    s.learnWith k run next =
      (s.setZoneCfg k { s.zoneCfg k with rate := s.rateAfter k run r }).setPreheat k next := by
  simp [State.learnWith, hr, hd, ht]

theorem learnWith_waits (s : State) (k : Nat) (run : PreheatRun) (next : Preheat) (r : Temp)
    (hr : s.freshReading k = some r)
    (h : run.learningDone = true ∨ r < (s.channelCfg k).temperature run.target) : s.learnWith k run next = s := by
  simp only [State.learnWith, hr]
  rw [if_neg]
  rintro ⟨hd, ht⟩
  rcases h with h | h
  · exact hd h
  · exact absurd ht (Int.not_le.mpr h)

/-- The rate after a learning, as R21 states it. -/
theorem rateAfter_cast (s : State) (k : Nat) (run : PreheatRun) (r : Temp) (m : Nat)
    (hm : m = minutesSince s.clock.elapsed run.startElapsed) :
    (s.rateAfter k run r : Int) =
      if run.spoiled || decide (m < 10) then ((s.zoneCfg k).rate : Int)
      else clamp 5 60 (Int.tdiv (3 * (s.zoneCfg k).rate + Int.tdiv ((r - run.startReading) * 60) m) 4) := by
  simp only [State.rateAfter, ← hm, Bool.or_eq_true, decide_eq_true_eq]
  by_cases h : run.spoiled = true ∨ m < 10
  · rw [if_pos h, if_pos h]
  · rw [if_neg h, if_neg h, learnedRate_cast]

/-- What learning leaves in the zone's record and its rate (R21). -/
theorem learnWith_learns_reads {s : State} {k : Nat} {run : PreheatRun} {next : Preheat} {r : Temp}
    (h1 : 1 ≤ k) (hz : k ≤ s.zones.length) (hc : k ≤ s.cfg.zones.length) (hr : s.freshReading k = some r)
    (hd : run.learningDone = false) (ht : (s.channelCfg k).temperature run.target ≤ r) :
    ((s.learnWith k run next).zone k).preheat = next ∧
      ((s.learnWith k run next).zoneCfg k).rate = s.rateAfter k run r := by
  rw [learnWith_learns s k run next r hr hd ht]
  constructor
  · rw [State.setPreheat, zone_setZone_same _ _ _ h1 (by simpa using hz)]
  · exact congrArg ZoneCfg.rate (zoneCfg_setZoneCfg_same s k _ h1 hc)

/-- A run with the spoiled-flag check of a pass made, the reading being fresh (R20). -/
def State.spoilRun (s : State) (k : Nat) (run : PreheatRun) : PreheatRun :=
  { run with spoiled := run.spoiled || !(s.channel k).stack.isEmpty || (s.consumer k).deferred }

theorem spoilCheck_eq {s : State} {k : Nat} {r : Temp} (hr : s.freshReading k = some r) :
    s.spoilCheck k = s.setPreheat k ((s.zone k).preheat.mapRun (s.spoilRun k)) := by
  unfold State.spoilCheck State.spoilRun
  congr 2
  funext run
  simp [State.spoils, hr, Bool.or_assoc]

theorem setPreheat_setPreheat (s : State) (k : Nat) (p q : Preheat) (h1 : 1 ≤ k) (hz : k ≤ s.zones.length) :
    (s.setPreheat k p).setPreheat k q = s.setPreheat k q := by
  unfold State.setPreheat
  rw [zone_setZone_same s k _ h1 hz]
  obtain ⟨i, rfl⟩ := Nat.exists_eq_add_of_le' h1
  simp [State.setZone, setItem]

theorem setPreheat_self (s : State) (k : Nat) : s.setPreheat k (s.zone k).preheat = s := by
  simp only [State.setPreheat, State.setZone]
  exact congrArg (fun l => { s with zones := l }) (setItem_item s.zones k .initial)

/-- The first stage where the search leaves the record `p`: the check marks it, and learning reads it marked. -/
theorem optimumStart_of_search {s : State} {k : Nat} {r : Temp} {p : Preheat} (h1 : 1 ≤ k) (hz : k ≤ s.zones.length)
    (hr : s.freshReading k = some r) (hsearch : s.preheatSearch k = s.setPreheat k p) :
    s.optimumStart k = (s.setPreheat k (p.mapRun (s.spoilRun k))).preheatLearn k := by
  have hr' : (s.setPreheat k p).freshReading k = some r := (freshReading_setPreheat ..).trans hr
  have hread : ((s.setPreheat k p).zone k).preheat = p := congrArg ZoneRun.preheat (zone_setZone_same s k _ h1 hz)
  rw [State.optimumStart, hsearch, spoilCheck_eq hr', hread, setPreheat_setPreheat s k _ _ h1 hz]
  rfl

/-- What the first stage leaves where it learns, or does not, with `run` the marked run and `next` the record after
learning. -/
structure LearnsOrWaits (s t : State) (k : Nat) (r : Temp) (run : PreheatRun) (now next : Preheat) : Prop where
  learns : run.learningDone = false → (s.channelCfg k).temperature run.target ≤ r →
    (t.zone k).preheat = next ∧ (t.zoneCfg k).rate = s.rateAfter k run r
  waits : run.learningDone = true ∨ r < (s.channelCfg k).temperature run.target →
    (t.zone k).preheat = now ∧ (t.zoneCfg k).rate = (s.zoneCfg k).rate

theorem learnsOrWaits_learnWith {s : State} {k : Nat} {r : Temp} {run : PreheatRun} {now next : Preheat} (h1 : 1 ≤ k)
    (hz : k ≤ s.zones.length) (hc : k ≤ s.cfg.zones.length) (hr : s.freshReading k = some r) :
    LearnsOrWaits s ((s.setPreheat k now).learnWith k run next) k r run now next := by
  have hr' : (s.setPreheat k now).freshReading k = some r := (freshReading_setPreheat ..).trans hr
  have hz' : k ≤ (s.setPreheat k now).zones.length := by simpa [State.setPreheat, State.setZone, length_setItem] using hz
  refine ⟨fun hd ht => learnWith_learns_reads h1 hz' hc hr' hd ht, fun h => ?_⟩
  rw [learnWith_waits _ _ _ _ _ hr' h]
  exact ⟨congrArg ZoneRun.preheat (zone_setZone_same s k _ h1 hz), rfl⟩

theorem optimumStart_early {s : State} {k : Nat} {r : Temp} {run : PreheatRun} (h1 : 1 ≤ k) (hz : k ≤ s.zones.length)
    (hc : k ≤ s.cfg.zones.length) (hr : s.freshReading k = some r)
    (hsearch : s.preheatSearch k = s.setPreheat k (.early run)) :
    LearnsOrWaits s (s.optimumStart k) k r (s.spoilRun k run) (.early (s.spoilRun k run))
      (.early { s.spoilRun k run with learningDone := true }) := by
  rw [optimumStart_of_search h1 hz hr hsearch, State.preheatLearn, State.setPreheat, zone_setZone_same s k _ h1 hz]
  exact learnsOrWaits_learnWith h1 hz hc hr

theorem optimumStart_watch {s : State} {k : Nat} {r : Temp} {run : PreheatRun} {rise : Elapsed} (h1 : 1 ≤ k)
    (hz : k ≤ s.zones.length) (hc : k ≤ s.cfg.zones.length) (hr : s.freshReading k = some r)
    (hsearch : s.preheatSearch k = s.setPreheat k (.watch run rise)) :
    LearnsOrWaits s (s.optimumStart k) k r (s.spoilRun k run) (.watch (s.spoilRun k run) rise)
      (.idle (s.spoilRun k run).ended) := by
  rw [optimumStart_of_search h1 hz hr hsearch, State.preheatLearn, State.setPreheat, zone_setZone_same s k _ h1 hz]
  exact learnsOrWaits_learnWith h1 hz hc hr

/-! #### The three runs of O24 -/

theorem zones_length {s : State} (h : s.shaped) : s.zones.length = 16 := congrArg (·.2.1) (sizes_of_shaped h)

theorem cfg_zones_length {s : State} (h : s.shaped) : s.cfg.zones.length = 16 := by
  have hcfg := (storedShaped_of_shaped h).1
  simp only [Stored.shaped, Bool.and_eq_true, beq_iff_eq, and_assoc] at hcfg
  obtain ⟨-, hzones, -⟩ := hcfg
  exact hzones

theorem passTaken_zones_length {s : State} (h : s.shaped) {k : Nat} : (s.passTaken k).zones.length = 16 := by
  simpa [State.passTaken, State.setZone, length_setItem] using zones_length h

theorem passTaken_freshReading (s : State) (k : Nat) : (s.passTaken k).freshReading k = s.freshReading k := by
  rw [State.passTaken, freshReading_setZone]
  rfl

/-- A due pass whose first stage learns or waits does so as a command. -/
theorem exec_learnsOrWaits {s : State} {k : Nat} {r : Temp} {run : PreheatRun} {now next : Preheat}
    (hacting : s.acting = none) (hdue : (s.zone k).passDue = true)
    (h : LearnsOrWaits (s.passTaken k) ((s.passTaken k).optimumStart k) k r run now next) :
    ∃ t, exec (.regulationPass k) s = .next t ∧ LearnsOrWaits s t k r run now next := by
  obtain ⟨t, ht, hpre, hcfg⟩ := exec_regulationPass_reads k s hacting hdue
  refine ⟨t, ht, ⟨fun hd htemp => ?_, fun hw => ?_⟩⟩
  · rw [hpre, hcfg]; exact h.learns hd htemp
  · rw [hpre, hcfg]; exact h.waits hw

theorem LearnsOrWaits.learns_rate {s t : State} {k : Nat} {r : Temp} {run : PreheatRun} {now next : Preheat}
    (h : LearnsOrWaits s t k r run now next) (hd : run.learningDone = false)
    (ht : (s.channelCfg k).temperature run.target ≤ r) (m : Nat) (hm : m = minutesSince s.clock.elapsed run.startElapsed) :
    (t.zone k).preheat = next ∧ ((t.zoneCfg k).rate : Int) =
      if run.spoiled || decide (m < 10) then ((s.zoneCfg k).rate : Int)
      else clamp 5 60 (Int.tdiv (3 * (s.zoneCfg k).rate + Int.tdiv ((r - run.startReading) * 60) m) 4) := by
  obtain ⟨hnext, hrate⟩ := h.learns hd ht
  exact ⟨hnext, by rw [hrate, rateAfter_cast s k run r m hm]⟩

/-- A due pass that the search leaves, or puts, in EARLY. -/
theorem exec_pass_early {s : State} {k : Nat} {run : PreheatRun} {r : Temp} (hacting : s.acting = none)
    (hdue : (s.zone k).passDue = true) (h : s.shaped) (h1 : 1 ≤ k) (h2 : k ≤ 16) (hr : s.freshReading k = some r)
    (hsearch : (s.passTaken k).preheatSearch k = (s.passTaken k).setPreheat k (.early run)) :
    ∃ t, exec (.regulationPass k) s = .next t ∧ LearnsOrWaits s t k r (s.spoilRun k run) (.early (s.spoilRun k run))
      (.early { s.spoilRun k run with learningDone := true }) :=
  exec_learnsOrWaits hacting hdue (optimumStart_early h1 (passTaken_zones_length h ▸ h2)
    (cfg_zones_length h ▸ h2) ((passTaken_freshReading s k).trans hr) hsearch)

/-- A due pass that the search leaves in WATCH. -/
theorem exec_pass_watch {s : State} {k : Nat} {run : PreheatRun} {rise : Elapsed} {r : Temp} (hacting : s.acting = none)
    (hdue : (s.zone k).passDue = true) (h : s.shaped) (h1 : 1 ≤ k) (h2 : k ≤ 16) (hr : s.freshReading k = some r)
    (hsearch : (s.passTaken k).preheatSearch k = (s.passTaken k).setPreheat k (.watch run rise)) :
    ∃ t, exec (.regulationPass k) s = .next t ∧ LearnsOrWaits s t k r (s.spoilRun k run) (.watch (s.spoilRun k run) rise)
      (.idle (s.spoilRun k run).ended) :=
  exec_learnsOrWaits hacting hdue (optimumStart_watch h1 (passTaken_zones_length h ▸ h2)
    (cfg_zones_length h ▸ h2) ((passTaken_freshReading s k).trans hr) hsearch)

/-- A record that the search leaves alone. -/
theorem search_leaves {s : State} {k : Nat} {p : Preheat} (hp : (s.zone k).preheat = p)
    (h : s.clock.clockSet = false ∨ (s.zoneCfg k).preheatEnable = false ∨ s.parked k = true ∨ p.isEarly = true ∨
      s.nextRise k = none) : s.preheatSearch k = s.setPreheat k p := by
  subst hp
  rw [preheatSearch_idle s k h, setPreheat_self]

theorem passTaken_preheat (s : State) (k j : Nat) : ((s.passTaken k).zone j).preheat = (s.zone j).preheat := by
  rw [State.passTaken, zone_setZone_part ZoneRun.preheat]
  rfl

/-- Settles O24: the search of R17 as `preheatStart_eq`, then marking and learning as `LearnsOrWaits`. -/
theorem preheatStartsAheadAndLearnsOnce : Obligations.PreheatStartsAheadAndLearnsOnce := by
  refine ⟨?starts, ?early, ?watch⟩
  case starts =>
    intro k i r s hacting hshape h1 h2 hdue hmow hset hen hpark hearly hr hrate hi hlt hrise hfirst hlimit hbelow hlead
    have next : s.nextRise k = some i := (nextRise_eq_some s k i).mpr ⟨⟨hi, hlt, hrise⟩, hfirst⟩
    have notEarly : ((s.passTaken k).zone k).preheat.isEarly = false := by
      rw [passTaken_preheat]
      cases hp : (s.zone k).preheat with
      | early run => exact absurd hp (hearly run)
      | idle run => rfl
      | watch run rise => rfl
    obtain ⟨t, ht, pass⟩ := exec_pass_early hacting hdue hshape h1 h2 hr
      (preheatSearch_starts (s.passTaken k) k r _ ((passTaken_freshReading s k).trans hr) hset hen hpark notEarly
        (preheatStart_eq s k i r next hrate hlimit hbelow hlead))
    obtain ⟨hpre, hcfg⟩ := pass.waits (.inr hbelow)
    refine ⟨t, ht, hpre.trans ?_, hcfg⟩
    have hminute : s.clock.minuteAt i = (s.clock.minuteOfWeek - s.clock.minuteOfDay + 10 * i) % 10080 := by
      simp only [Clock.minuteAt, Clock.day, Clock.minuteOfDay]; omega
    simp [State.spoilRun, hminute]
  case early =>
    intro k run r s hacting hshape h1 h2 hdue hp hr spoiled m hspoiled hm
    obtain ⟨t, ht, pass⟩ := exec_pass_early hacting hdue hshape h1 h2 hr
      (search_leaves ((passTaken_preheat s k k).trans hp) (by simp [Preheat.isEarly]))
    subst hspoiled
    exact ⟨t, ht, fun hd htemp => pass.learns_rate hd htemp m hm, pass.waits⟩
  case watch =>
    intro k run rise r s hacting hshape h1 h2 hdue hp hd hr hidle spoiled m hspoiled hm
    have idle : (s.passTaken k).preheatSearch k = (s.passTaken k).setPreheat k (.watch run rise) := by
      refine search_leaves ((passTaken_preheat s k k).trans hp) ?_
      rcases hidle with h | h | h | h
      · exact .inl h
      · exact .inr (.inl h)
      · exact .inr (.inr (.inl h))
      · exact .inr (.inr (.inr (.inr ((nextRise_eq_none s k).mpr h))))
    obtain ⟨t, ht, pass⟩ := exec_pass_watch hacting hdue hshape h1 h2 hr idle
    subst hspoiled
    exact ⟨t, ht, fun htemp => pass.learns_rate hd htemp m hm, fun h => pass.waits (.inr h)⟩

end Sys2Proof.Machine
end

section
/-! PROOF. The wall minute at a slot boundary (O7). -/

namespace Sys2Proof.Machine

/-! ### The wall minute (R1, R14, R15, R18, R29) -/

theorem clockWallMinute_eq (c : Clock) : c.wallMinute = { c with
    wallSeconds := 0, wallDue := false
    minuteOfWeek := if c.minuteOfWeek = 10079 then 0 else c.minuteOfWeek + 1
    parity := if c.minuteOfWeek = 10079 then c.parity.other else c.parity } := by
  unfold Clock.wallMinute
  by_cases h : c.minuteOfWeek = 10079
  · simp [h]
  · simp [h, show ¬ c.minuteOfWeek + 1 = 10080 by omega]

theorem channels_length {s : State} (h : s.shaped) : s.channels.length = 17 :=
  ((planSizes_iff _).mp (congrArg Prod.fst (sizes_of_shaped h))).1

/-! #### The slot boundary, part by part -/

theorem compileTomorrow_eq (s : State) (c : Nat) : s.compileTomorrow c = (List.range 144).map
    (s.entryLevel c (dayAfter s.clock.day s.clock.parity).1 (dayAfter s.clock.day s.clock.parity).2) :=
  compileDay_eq s c _ _

theorem compileTomorrow_congr {s u : State} (hc : u.clock = s.clock) (hg : u.cfg = s.cfg) (c : Nat) :
    u.compileTomorrow c = s.compileTomorrow c := by
  simp [State.compileTomorrow, compileDay_congr hc hg, hc]

/-- Every plan moves on at midnight (R14). -/
theorem midnightPlans_channel (s : State) (c : Nat) (hlen : s.channels.length = 17) (h1 : 1 ≤ c) (h2 : c ≤ 17) :
    (channelNumbers.foldl State.midnightPlan s).channel c =
      { s.channel c with plan := (s.channel c).plan.drop 144 ++ s.compileTomorrow c } := by
  refine foldl_read (fun u => u.channels.length = 17 ∧ u.clock = s.clock ∧ u.cfg = s.cfg) State.channel State.midnightPlan
    (fun c r => { r with plan := r.plan.drop 144 ++ s.compileTomorrow c }) channelNumbers (numbers_nodup 17) ?_ ?_
    (fun u c d h => channel_setPlan_other u c d _ h) s ⟨hlen, rfl, rfl⟩ c ((mem_numbers 17 c).mpr ⟨h1, h2⟩)
  · exact fun u k _ ⟨hz, hc, hg⟩ =>
      ⟨by simp [State.midnightPlan, length_setItem, hz], by simpa using hc, by simpa using hg⟩
  · intro u d hd ⟨hz, hc, hg⟩
    obtain ⟨hd1, hd2⟩ := (mem_numbers 17 d).mp hd
    rw [State.midnightPlan, channel_setPlan_same u d _ hd1 (by omega), compileTomorrow_congr hc hg]

/-- The plans as a slot boundary leaves them (R14). -/
def State.plansMoved (s : State) : State :=
  if s.clock.minuteOfDay = 0 then channelNumbers.foldl State.midnightPlan s else s

@[simp] theorem plansMoved_keeps (s : State) :
    s.plansMoved.clock = s.clock ∧ s.plansMoved.cfg = s.cfg ∧ s.plansMoved.zones = s.zones := by
  have h := foldl_keeps State.midnightPlan (fun s : State => (s.clock, s.cfg, s.zones)) (by intro s a; simp) channelNumbers s
  simp only [State.plansMoved]
  split
  · simpa using h
  · simp

theorem plansMoved_channels_length (s : State) : s.plansMoved.channels.length = s.channels.length := by
  unfold State.plansMoved
  split
  · exact foldl_keeps State.midnightPlan (·.channels.length) (fun u c => by simp [State.midnightPlan, length_setItem]) _ s
  · rfl

theorem plansMoved_channel (s : State) (c : Nat) (hlen : s.channels.length = 17) (h1 : 1 ≤ c) (h2 : c ≤ 17) :
    s.plansMoved.channel c = { s.channel c with
      plan := if s.clock.minuteOfDay = 0 then (s.channel c).plan.drop 144 ++ s.compileTomorrow c
        else (s.channel c).plan } := by
  unfold State.plansMoved
  split
  · next h => rw [midnightPlans_channel s c hlen h1 h2]
  · next h => rfl

/-- The level that a channel with these plan and stack has, by the clock and the tables of `s` (R15). -/
def State.levelOf (s : State) (c : Nat) (r : ChannelRun) : Level := r.plan.getD s.clock.slot (s.channelCfg c).defaultLevel

theorem baseLevel_eq_levelOf {s u : State} (c : Nat) (hc : u.clock = s.clock) (hg : u.cfg = s.cfg) :
    u.baseLevel c = s.levelOf c (u.channel c) := by
  simp [State.baseLevel, State.planLevel, State.levelOf, State.channelCfg, hc, hg]

/-- A channel whose base level is no longer `old` loses its UNTIL-NEXT layers (R29). -/
def State.untilNextEnded (s : State) (old : Nat → Level) (c : Nat) (r : ChannelRun) : ChannelRun :=
  { r with stack := if s.levelOf c r = old c then r.stack else endUntilNext r.stack }

theorem endUntilNextOf_channel {s u : State} (old : Nat → Level) (c : Nat) (hc : u.clock = s.clock) (hg : u.cfg = s.cfg)
    (h1 : 1 ≤ c) (h2 : c ≤ u.channels.length) :
    (u.endUntilNextOf old c).channel c = s.untilNextEnded old c (u.channel c) := by
  unfold State.endUntilNextOf State.untilNextEnded
  rw [baseLevel_eq_levelOf c hc hg]
  split
  · rfl
  · exact channel_setChannel_same u c _ h1 h2

theorem endUntilNextOf_other (u : State) (old : Nat → Level) (c d : Nat) (h : d ≠ c) :
    (u.endUntilNextOf old c).channel d = u.channel d := by
  unfold State.endUntilNextOf
  split
  · rfl
  · exact channel_setChannel_other u c d _ h

theorem endUntilNexts_channel (s : State) (old : Nat → Level) (c : Nat) (hlen : s.channels.length = 17) (h1 : 1 ≤ c)
    (h2 : c ≤ 17) :
    (channelNumbers.foldl (fun u c => u.endUntilNextOf old c) s).channel c = s.untilNextEnded old c (s.channel c) := by
  refine foldl_read (fun u => u.channels.length = 17 ∧ u.clock = s.clock ∧ u.cfg = s.cfg) State.channel
    (fun u c => u.endUntilNextOf old c) (s.untilNextEnded old) channelNumbers (numbers_nodup 17) ?_ ?_
    (fun u c d h => endUntilNextOf_other u old c d h) s ⟨hlen, rfl, rfl⟩ c ((mem_numbers 17 c).mpr ⟨h1, h2⟩)
  · intro u d _ ⟨hz, hc, hg⟩
    refine ⟨?_, by simpa using hc, by simpa using hg⟩
    unfold State.endUntilNextOf
    split <;> simp [length_setItem, hz]
  · intro u d hd ⟨hz, hc, hg⟩
    obtain ⟨hd1, hd2⟩ := (mem_numbers 17 d).mp hd
    exact endUntilNextOf_channel old d hc hg hd1 (by omega)

/-- Every rise is judged once (R18). -/
theorem preheatRises_zone (s : State) (k : Nat) (hlen : s.zones.length = 16) (h1 : 1 ≤ k) (h2 : k ≤ 16) :
    s.preheatRises.zone k = { s.zone k with
      preheat := (s.zone k).preheat.atMinute s.clock.elapsed s.clock.minuteOfWeek } := by
  refine foldl_read (fun u => u.zones.length = 16 ∧ u.clock = s.clock) State.zone _
    (fun _ z => { z with preheat := z.preheat.atMinute s.clock.elapsed s.clock.minuteOfWeek }) zoneNumbers (numbers_nodup 16)
    ?_ ?_ (fun u c d h => zone_setZone_other u c d _ h) s ⟨hlen, rfl⟩ k ((mem_numbers 16 k).mpr ⟨h1, h2⟩)
  · exact fun u k _ ⟨hz, hc⟩ => ⟨by simp [State.setZone, length_setItem, hz], hc⟩
  · intro u k hk ⟨hz, hc⟩
    obtain ⟨hk1, hk2⟩ := (mem_numbers 16 k).mp hk
    exact (zone_setZone_same u k _ hk1 (by omega)).trans (by rw [hc])

theorem slotBoundary_zone (s : State) (old : Nat → Level) (k : Nat) (hlen : s.zones.length = 16) (h1 : 1 ≤ k) (h2 : k ≤ 16) :
    (s.slotBoundary old).zone k = { s.zone k with
      preheat := (s.zone k).preheat.atMinute s.clock.elapsed s.clock.minuteOfWeek } := by
  have h := foldl_keeps (fun (u : State) c => u.endUntilNextOf old c) (fun u : State => (u.clock, u.zones))
    (by intro s a; simp) channelNumbers s.plansMoved
  simp only [Prod.mk.injEq, plansMoved_keeps] at h
  obtain ⟨hclock, hzones⟩ := h
  change (channelNumbers.foldl (fun u c => u.endUntilNextOf old c) s.plansMoved).preheatRises.zone k = _
  rw [preheatRises_zone _ k (by rw [hzones]; exact hlen) h1 h2, zone_congr (s := s) k hzones, hclock]

theorem slotBoundary_channel (s : State) (old : Nat → Level) (c : Nat) (hlen : s.channels.length = 17) (h1 : 1 ≤ c)
    (h2 : c ≤ 17) : (s.slotBoundary old).channel c = s.untilNextEnded old c (s.plansMoved.channel c) := by
  have hlevel (r : ChannelRun) : s.plansMoved.untilNextEnded old c r = s.untilNextEnded old c r := by
    simp [State.untilNextEnded, State.levelOf, State.channelCfg]
  rw [← hlevel, ← endUntilNexts_channel s.plansMoved old c (by rw [plansMoved_channels_length, hlen]) h1 h2]
  exact channel_congr c (by simp [State.slotBoundary, State.plansMoved])

/-! #### The wall minute as a command -/

/-- The state past a slot boundary of the wall minute, before the exercise entries. -/
def State.slotPassed (s : State) : State := (s.setClock s.clock.wallMinute).slotBoundary s.baseLevel

@[simp] theorem slotPassed_keeps (s : State) :
    s.slotPassed.clock = s.clock.wallMinute ∧ s.slotPassed.cfg = s.cfg ∧ s.slotPassed.store = s.store ∧
    s.slotPassed.claim = s.claim ∧ s.slotPassed.wRequest = s.wRequest ∧ s.slotPassed.table = s.table ∧
    s.slotPassed.heads = s.heads ∧ s.slotPassed.link = s.link ∧ s.slotPassed.arbiter = s.arbiter ∧
    s.slotPassed.boiler = s.boiler ∧ s.slotPassed.field = s.field ∧ s.slotPassed.main = s.main ∧
    s.slotPassed.service = s.service ∧ s.slotPassed.restartPending = s.restartPending ∧
    s.slotPassed.acting = s.acting ∧ s.slotPassed.pending = s.pending := by
  simp [State.slotPassed]

theorem wallMinute_between (s : State) (h : s.clock.wallMinute.minuteOfDay % 10 ≠ 0) :
    s.wallMinute = s.setClock s.clock.wallMinute := by
  simp [State.wallMinute, h]

theorem wallMinute_boundary (s : State) (h : s.clock.wallMinute.minuteOfDay % 10 = 0)
    (hslot : s.clock.wallMinute.slot ≠ s.cfg.boiler.exerciseSlot) : s.wallMinute = s.slotPassed := by
  simp [State.wallMinute, h, hslot, State.slotPassed]

theorem wallMinute_exercise (s : State) (h : s.clock.wallMinute.minuteOfDay % 10 = 0)
    (hslot : s.clock.wallMinute.slot = s.cfg.boiler.exerciseSlot) : s.wallMinute = s.slotPassed.exercise.settle s := by
  simp [State.wallMinute, h, hslot, State.slotPassed]

theorem exec_wallMinute (s : State) (ha : s.acting = none) (hdue : s.clock.wallDue = true) :
    exec .wallMinute s = .next s.wallMinute.endEvent := by
  simp [exec, execWallMinute, wallMinuteEvent, hdue, event_free s _ ha]

/-- At a slot boundary the plans, the stacks and the zones are those of `slotPassed`: settling keeps them. -/
theorem wallMinute_channels_zones (s : State) (h : s.clock.wallMinute.minuteOfDay % 10 = 0) :
    s.wallMinute.channels = s.slotPassed.channels ∧ s.wallMinute.zones = s.slotPassed.zones := by
  by_cases hslot : s.clock.wallMinute.slot = s.cfg.boiler.exerciseSlot
  · simp [wallMinute_exercise s h hslot]
  · simp [wallMinute_boundary s h hslot]

/-- The plan and the stack that a wall minute leaves at a slot boundary (R14, R29). -/
theorem wallMinute_channel {s t : State} (hshape : s.shaped) (h : s.clock.wallMinute.minuteOfDay % 10 = 0)
    (hclock : t.clock = s.clock.wallMinute) (hcfg : t.cfg = s.cfg) (hchannels : t.channels = s.wallMinute.channels)
    (c : Nat) (h1 : 1 ≤ c) (h2 : c ≤ 17) :
    (t.channel c).plan = (if t.clock.minuteOfDay = 0 then (s.channel c).plan.drop 144 ++ t.compileTomorrow c
      else (s.channel c).plan) ∧
    (t.channel c).stack = if t.baseLevel c = s.baseLevel c then (s.channel c).stack
      else endUntilNext (s.channel c).stack := by
  have hlen : (s.setClock s.clock.wallMinute).channels.length = 17 := channels_length hshape
  have hread : t.channel c = (s.setClock s.clock.wallMinute).untilNextEnded s.baseLevel c
      ((s.setClock s.clock.wallMinute).plansMoved.channel c) := by
    rw [← slotBoundary_channel _ s.baseLevel c hlen h1 h2]
    exact channel_congr c (hchannels.trans (wallMinute_channels_zones s h).1)
  have hmoved := plansMoved_channel _ c hlen h1 h2
  have hlevel : t.baseLevel c = (s.setClock s.clock.wallMinute).levelOf c
      ((s.setClock s.clock.wallMinute).plansMoved.channel c) := by
    rw [baseLevel_eq_levelOf (s := s.setClock s.clock.wallMinute) c hclock hcfg, hread]
    rfl
  constructor
  · rw [hread, State.untilNextEnded, hmoved, hclock,
      compileTomorrow_congr (s := s.setClock s.clock.wallMinute) hclock hcfg]
    rfl
  · rw [hlevel, hread, State.untilNextEnded]
    dsimp only
    rw [hmoved]
    rfl

theorem wallMinute_zone {s t : State} (hshape : s.shaped) (h : s.clock.wallMinute.minuteOfDay % 10 = 0)
    (hzones : t.zones = s.wallMinute.zones) (k : Nat) (h1 : 1 ≤ k) (h2 : k ≤ 16) :
    t.zone k = { s.zone k with
      preheat := (s.zone k).preheat.atMinute s.clock.elapsed s.clock.wallMinute.minuteOfWeek } := by
  rw [zone_congr (s := s.slotPassed) k (hzones.trans (wallMinute_channels_zones s h).2), State.slotPassed,
    slotBoundary_zone (s.setClock s.clock.wallMinute) _ k (zones_length hshape) h1 h2]
  simp [State.zone]

/-- The frame of a wall minute at the exercise slot or elsewhere. -/
theorem wallMinute_frame (s : State) : s.wallMinute.endEvent =
    { s with clock := s.wallMinute.endEvent.clock, channels := s.wallMinute.endEvent.channels,
             zones := s.wallMinute.endEvent.zones, arbiter := s.wallMinute.endEvent.arbiter,
             heads := s.wallMinute.endEvent.heads, link := s.wallMinute.endEvent.link,
             boiler := s.wallMinute.endEvent.boiler, table := s.wallMinute.endEvent.table,
             field := s.wallMinute.endEvent.field, main := s.wallMinute.endEvent.main,
             service := s.wallMinute.endEvent.service } := state_ext

/-- The first half of O7: what a wall minute moves, and what it leaves. -/
theorem wallMinute_moves (s : State) (ha : s.acting = none) (hdue : s.clock.wallDue = true) (hshape : s.shaped) :
    ∃ t, exec .wallMinute s = .next t ∧
      t.clock = { s.clock with
        wallSeconds := 0, wallDue := false
        minuteOfWeek := if s.clock.minuteOfWeek = 10079 then 0 else s.clock.minuteOfWeek + 1
        parity := if s.clock.minuteOfWeek = 10079 then s.clock.parity.other else s.clock.parity } ∧
      (t.clock.minuteOfDay % 10 ≠ 0 → t = { s with clock := t.clock, main := t.main, service := t.service }) ∧
      (t.clock.minuteOfDay % 10 = 0 →
        (∀ c, 1 ≤ c → c ≤ 17 →
          (t.channel c).plan =
            (if t.clock.minuteOfDay = 0 then
              (s.channel c).plan.drop 144 ++ (List.range 144).map
                (t.entryLevel c (dayAfter t.clock.day t.clock.parity).1 (dayAfter t.clock.day t.clock.parity).2)
            else (s.channel c).plan) ∧
          (t.channel c).stack =
            if t.baseLevel c = s.baseLevel c then (s.channel c).stack
            else (s.channel c).stack.filter (·.kind != .untilNext)) ∧
        ∀ k, 1 ≤ k → k ≤ 16 → t.zone k = { s.zone k with
          preheat := (s.zone k).preheat.atMinute s.clock.elapsed t.clock.minuteOfWeek }) ∧
      t = { s with clock := t.clock, channels := t.channels, zones := t.zones, arbiter := t.arbiter, heads := t.heads,
                   link := t.link, boiler := t.boiler, table := t.table, field := t.field, main := t.main,
                   service := t.service } ∧
      (t.clock.slot ≠ s.cfg.boiler.exerciseSlot →
        t = { s with clock := t.clock, channels := t.channels, zones := t.zones, main := t.main,
                     service := t.service } ∧ s.portsKept t []) := by
  have hclock : s.wallMinute.endEvent.clock = s.clock.wallMinute := by simp
  refine ⟨_, exec_wallMinute s ha hdue, by rw [hclock, clockWallMinute_eq], fun h => ?between, fun h => ?boundary,
    wallMinute_frame s, fun h => ?quiet⟩
  case between =>
    rw [hclock] at h
    rw [wallMinute_between s h]
    exact state_ext
  case boundary =>
    rw [hclock] at h
    refine ⟨fun c h1 h2 => ?_, fun k h1 h2 => ?_⟩
    · rw [← compileTomorrow_eq]
      exact wallMinute_channel hshape h hclock (by simp) (by simp) c h1 h2
    · rw [hclock]
      exact wallMinute_zone hshape h (by simp) k h1 h2
  case quiet =>
    rw [hclock] at h
    by_cases hb : s.clock.wallMinute.minuteOfDay % 10 = 0
    · rw [wallMinute_boundary s hb h]
      exact ⟨state_ext, portsKept_endEvent (by simp) (by simp) []⟩
    · rw [wallMinute_between s hb]
      exact ⟨state_ext, portsKept_endEvent (by simp) (by simp) []⟩

end Sys2Proof.Machine
end

section
/-! PROOF. The exercise slot (O7). -/

namespace Sys2Proof.Machine

/-! ### The exercise slot (R124) -/

theorem heads_length {s : State} (h : s.shaped) : s.heads.length = 32 := congrArg (·.2.2.2.1) (sizes_of_shaped h)

/-- An entry with its DEFERRED mark aside. -/
def Entry.unmarked (e : Entry) : Entry := { e with deferred := false }

theorem queued_isEmpty (s : State) (v : Nat) : (s.queued v).isEmpty = (s.entryOf v).isNone := by
  rw [Bool.eq_iff_iff]
  simp [State.queued, State.entryOf, List.find?_eq_none]

theorem entryOf_newEntry (s : State) (v w : Nat) (op : MoveOp) (target : Nat) (cls : MoveClass) (h : w ≠ v) :
    (s.newEntry v op target cls).entryOf w = s.entryOf w := by
  simp [State.entryOf, State.newEntry, List.find?_append, h.symm]

theorem exerciseDue_newEntry (s : State) (v w : Nat) (op : MoveOp) (target : Nat) (cls : MoveClass) (h : w ≠ v) :
    (s.newEntry v op target cls).exerciseDue w = s.exerciseDue w := by
  simp only [State.exerciseDue, entryOf_newEntry s v w op target cls h]
  rfl

/-- The exercise entry of slot `v` that comes `i` entries after the counter stood at `n` (R112, R124). -/
def exerciseEntry (n i v : Nat) : Entry := ⟨v, .drive, 100, .exercise, (n + i) % 4294967295 + 1, false⟩

theorem exerciseEntries_unmarked (n : Nat) (vs : List Nat) :
    (vs.mapIdx (exerciseEntry n)).map Entry.unmarked = vs.mapIdx (exerciseEntry n) := by
  refine (List.map_congr_left fun e he => ?_).trans (List.map_id _)
  obtain ⟨i, hi, rfl⟩ := List.mem_mapIdx.mp he
  rfl

theorem nextArrival_eq {n : Nat} (h : n ≤ 4294967295) : nextArrival n = n % 4294967295 + 1 := by
  unfold nextArrival; split <;> omega

/-- A pass over slots: each that is due gets its entry, in order (R124). -/
theorem exerciseFold_queue (vs : List Nat) (hvs : vs.Nodup) (s : State) (h : s.arbiter.arrivals ≤ 4294967295) :
    (vs.foldl (fun s v => if s.exerciseDue v then s.newEntry v .drive 100 .exercise else s) s).arbiter.queue =
      s.arbiter.queue ++ (vs.filter s.exerciseDue).mapIdx (exerciseEntry s.arbiter.arrivals) := by
  induction vs generalizing s with
  | nil => simp
  | cons v vs ih =>
    obtain ⟨hv, hvs⟩ := List.nodup_cons.mp hvs
    rw [List.foldl_cons]
    by_cases hdue : s.exerciseDue v = true
    · have harr : (s.newEntry v .drive 100 .exercise).arbiter.arrivals = s.arbiter.arrivals % 4294967295 + 1 :=
        nextArrival_eq h
      have hqueue : (s.newEntry v .drive 100 .exercise).arbiter.queue =
          s.arbiter.queue ++ [exerciseEntry s.arbiter.arrivals 0 v] := by
        simp [State.newEntry, exerciseEntry, nextArrival_eq h]
      have hrest : vs.filter (s.newEntry v .drive 100 .exercise).exerciseDue = vs.filter s.exerciseDue :=
        List.filter_congr fun w hw => exerciseDue_newEntry s v w _ _ _ (by rintro rfl; exact hv hw)
      have hindex : exerciseEntry (s.arbiter.arrivals % 4294967295 + 1) =
          fun i => exerciseEntry s.arbiter.arrivals (i + 1) := by
        funext i v
        simp only [exerciseEntry, Entry.mk.injEq, true_and, and_true]
        omega
      rw [if_pos hdue, ih hvs _ (by rw [harr]; omega), hqueue, hrest, harr, hindex, List.filter_cons_of_pos hdue,
        List.mapIdx_cons, List.append_assoc]
      rfl
    · rw [if_neg hdue, ih hvs s h, List.filter_cons_of_neg hdue]

/-- The slots that R124 names at the exercise slot. -/
def State.exerciseSlots (s : State) : List Nat :=
  if s.boiler.state = .idle ∨ s.boiler.state = .rest then slotNumbers.filter s.exerciseDue else []

theorem exercise_queue (s : State) (h : s.arbiter.arrivals ≤ 4294967295) :
    s.exercise.arbiter.queue = s.arbiter.queue ++ s.exerciseSlots.mapIdx (exerciseEntry s.arbiter.arrivals) := by
  unfold State.exercise State.exerciseSlots
  by_cases hb : s.boiler.state = .idle ∨ s.boiler.state = .rest
  · rw [if_pos hb, if_pos hb, exerciseFold_queue slotNumbers (numbers_nodup 32) s h]
  · simp [if_neg hb]

theorem exercise_sinkOpen (s : State) : s.exercise.arbiter.sinkOpen = s.arbiter.sinkOpen := by
  unfold State.exercise
  split
  · exact foldl_keeps _ (·.arbiter.sinkOpen) (fun s v => by split <;> rfl) slotNumbers s
  · rfl

/-- A due slot is one of the 32, with no entry in the queue. -/
theorem of_mem_exerciseSlots {s : State} {v : Nat} (h : v ∈ s.exerciseSlots) :
    (1 ≤ v ∧ v ≤ 32) ∧ ∀ e ∈ s.arbiter.queue, e.slot ≠ v := by
  unfold State.exerciseSlots at h
  split at h
  · obtain ⟨hv, hdue⟩ := List.mem_filter.mp h
    refine ⟨(mem_numbers 32 v).mp hv, fun e he => ?_⟩
    simp only [State.exerciseDue, Bool.and_eq_true, State.entryOf, Option.isNone_iff_eq_none, List.find?_eq_none] at hdue
    obtain ⟨⟨-, hnone⟩, -⟩ := hdue
    simpa using hnone e he
  · cases h

/-! #### Settling with a boiler that stays -/

/-- By the conditions of its state the controller makes no move (R129 to R140). -/
theorem boilerMove_of_stays {s : State} (h : s.boilerStays) (before : Nat → Nat) : s.boilerMove before .settle = none := by
  obtain ⟨fault, idle, lead, firing, overrun⟩ := h
  unfold State.boilerMove
  cases hb : s.boiler.state with
  | faulted => simp [fault.mpr hb]
  | idle => rcases idle hb with h | h <;> simp_all
  | lead =>
    obtain ⟨hany, hheld, hsink, htimer⟩ := lead hb
    have hfault : s.faultInput = false := by simpa [hb] using fault
    simp only [hfault, State.leadMove, hany, hheld]
    rcases hsink with h | h <;> rcases htimer with h' | h' <;> simp_all
  | firing =>
    obtain ⟨hcap, hheld, hhold⟩ := firing hb
    have hfault : s.faultInput = false := by simpa [hb] using fault
    simp only [hfault, State.firingMove, hheld, Nat.not_lt.mpr hcap]
    cases hany : s.anyRequest <;> simp_all
  | overrun => have := overrun hb; simp_all
  | rest => simp_all

theorem settle_of_stays {s before : State} (h : s.boilerStays) (hb : s.boiler.state = before.boiler.state) :
    s.settle before = s.remark.grantRound.nextTransaction.setPump := by
  rw [State.settle, State.settleWith, if_pos hb, boilerFuel, boilerMoves, boilerMove_of_stays h]

/-- The conditions of the boiler read neither the clock, the plans and the zones nor the queue. -/
theorem boilerStays_frame {s t : State} (hframe : t = { s with
      clock := t.clock, channels := t.channels, zones := t.zones, arbiter := t.arbiter })
    (hsink : t.arbiter.sinkOpen = s.arbiter.sinkOpen) (h : s.boilerStays) : t.boilerStays := by
  obtain ⟨fault, idle, lead, firing, overrun⟩ := h
  rw [hframe]
  refine ⟨fault, idle, fun hb => ?_, firing, overrun⟩
  obtain ⟨hany, hheld, hcap, htimer⟩ := lead hb
  exact ⟨hany, hheld, hcap.imp id fun h => hsink.trans h, htimer⟩

/-! #### The exercise entry until its grant, and after it (R92, R119) -/

theorem grant_queue (s : State) (e : Entry) : (s.grant e).arbiter.queue = s.arbiter.queue.filter (·.slot != e.slot) := by
  simp [State.grant, State.removeEntry]

theorem grant_head_same (s : State) (e : Entry) (h1 : 1 ≤ e.slot) (h2 : e.slot ≤ s.heads.length) :
    (s.grant e).head e.slot = (s.head e.slot).granted e (s.valveCfg e.slot).stroke := item_setItem_same _ _ _ _ h1 h2

theorem grant_head_other (s : State) (e : Entry) (v : Nat) (h : v ≠ e.slot) : (s.grant e).head v = s.head v :=
  item_setItem_other _ _ _ _ _ h

/-- Slot `v` is to be exercised: its one kind of entry is an exercise entry, or its head moves to 100. -/
def State.exercising (s : State) (v : Nat) : Prop :=
  ((∃ e ∈ s.arbiter.queue, e.slot = v) ∧
      ∀ e ∈ s.arbiter.queue, e.slot = v → e.op = .drive ∧ e.target = 100 ∧ e.cls = .exercise) ∨
    (s.head v).state = .moving ∧ (s.head v).move.map (·.target) = some 100

theorem exercising_grant {s : State} {e : Entry} {v : Nat} (h1 : 1 ≤ v) (h2 : v ≤ s.heads.length) (h : s.exercising v)
    (hgrant : s.nextGrant = some e) : (s.grant e).exercising v := by
  obtain ⟨-, hmem, hel⟩ := nextGrant_some s e hgrant
  obtain ⟨-, -, htakes, -, -⟩ := eligible_spec s e hel
  by_cases hv : e.slot = v
  · subst hv
    rcases h with ⟨-, hall⟩ | ⟨hmoving, -⟩
    · obtain ⟨hop, htarget, -⟩ := hall e hmem rfl
      refine .inr ?_
      rw [grant_head_same s e h1 h2]
      simp [Head.granted, hop, htarget, MoveOp.headState]
    · rw [hmoving] at htakes
      cases hop : e.op <;> simp [hop, headTakes] at htakes
  · rcases h with ⟨⟨f, hf, hfv⟩, hall⟩ | h
    · refine .inl ⟨⟨f, ?_, hfv⟩, fun g hg => hall g ?_⟩
      · simpa [grant_queue, hf, hfv] using Ne.symm hv
      · rw [grant_queue] at hg
        exact (List.mem_filter.mp hg).1
    · exact .inr (by rw [grant_head_other s e v (Ne.symm hv)]; exact h)

theorem exercising_remark {s : State} {v : Nat} (h : s.exercising v) : s.remark.exercising v := by
  refine h.imp (fun ⟨⟨f, hf, hfv⟩, hall⟩ => ⟨⟨_, List.mem_map_of_mem hf, hfv⟩, fun g hg => ?_⟩) id
  obtain ⟨e, he, rfl⟩ := List.mem_map.mp hg
  exact hall e he

theorem exercising_grantRound {s : State} {v : Nat} (h1 : 1 ≤ v) (h2 : v ≤ 32) (hlen : s.heads.length = 32)
    (h : s.exercising v) : s.grantRound.exercising v := by
  have hlenGrant (u : State) (e : Entry) : (u.grant e).heads.length = u.heads.length := by
    simp [State.grant, length_setItem]
  exact (grantRound_induct (fun u => u.heads.length = 32 ∧ u.exercising v)
    (fun u e ⟨hl, hu⟩ hg => ⟨(hlenGrant u e).trans hl, exercising_grant h1 (hl ▸ h2) hu hg⟩) s ⟨hlen, h⟩).2

/-- Each due slot's entry stands in the queue once the exercise slot has been taken. -/
theorem exercising_exercise {s : State} {v : Nat} (h : s.arbiter.arrivals ≤ 4294967295) (hv : v ∈ s.exerciseSlots) :
    s.exercise.exercising v := by
  obtain ⟨-, hnone⟩ := of_mem_exerciseSlots hv
  refine .inl ⟨?_, fun e he hev => ?_⟩
  · obtain ⟨i, hi, rfl⟩ := List.mem_iff_getElem.mp hv
    refine ⟨exerciseEntry s.arbiter.arrivals i s.exerciseSlots[i], ?_, rfl⟩
    rw [exercise_queue s h]
    exact List.mem_append_right _ (List.mem_mapIdx.mpr ⟨i, hi, rfl⟩)
  · rw [exercise_queue s h] at he
    rcases List.mem_append.mp he with he | he
    · exact absurd hev (hnone e he)
    · obtain ⟨i, hi, rfl⟩ := List.mem_mapIdx.mp he
      exact ⟨rfl, rfl, rfl⟩

/-- Read as O7 reads it. -/
theorem exercising_reads {s : State} {v : Nat} (h : s.exercising v) :
    (∃ e ∈ s.queued v, e.op = .drive ∧ e.target = 100 ∧ e.cls = .exercise) ∨
      (s.head v).state = .moving ∧ (s.head v).move.map (·.target) = some 100 := by
  refine h.imp_left fun ⟨⟨e, he, hev⟩, hall⟩ => ?_
  refine ⟨e.unmarked, List.mem_map_of_mem (List.mem_filter.mpr ⟨he, by simpa using hev⟩), hall e he hev⟩

/-- With the supply not OK a grant round grants nothing (R117). -/
theorem grantRound_unsupplied {s : State} (h : s.field.supplyOk = false) : s.grantRound = s := by
  have none : s.nextGrant = none := by
    cases hg : s.nextGrant with
    | none => rfl
    | some e =>
      obtain ⟨-, -, hel⟩ := nextGrant_some s e hg
      obtain ⟨-, hsupply, -⟩ := eligible_spec s e hel
      simp [h] at hsupply
  unfold State.grantRound
  cases s.cfg.boiler.motorAllowance with
  | zero => rfl
  | succ n => rw [grantRoundUpTo, none]

theorem remark_queue_unmarked (s : State) :
    s.remark.arbiter.queue.map Entry.unmarked = s.arbiter.queue.map Entry.unmarked := by
  simp [State.remark, Entry.unmarked]

/-! #### O7 -/

theorem exerciseDue_congr {s u : State} (hcfg : u.cfg = s.cfg) (hheads : u.heads = s.heads)
    (hqueue : u.arbiter.queue = s.arbiter.queue) (helapsed : u.clock.elapsed = s.clock.elapsed) (v : Nat) :
    u.exerciseDue v = s.exerciseDue v := by
  unfold State.exerciseDue State.used State.valveCfg State.head State.entryOf
  rw [hcfg, hheads, hqueue, helapsed]

theorem exerciseDue_eq (s : State) (v : Nat) : s.exerciseDue v =
    (s.used v && (s.head v).state == .ready && (s.queued v).isEmpty &&
      decide (10080 ≤ (s.clock.elapsed - (s.head v).lastMoved).toNat)) := by
  rw [queued_isEmpty]
  rfl

theorem exerciseSlots_slotPassed (s : State) : s.slotPassed.exerciseSlots =
    if s.boiler.state = .idle ∨ s.boiler.state = .rest then
      slotNumbers.filter fun v => s.used v && (s.head v).state == .ready && (s.queued v).isEmpty &&
        decide (10080 ≤ (s.clock.elapsed - (s.head v).lastMoved).toNat)
    else [] := by
  have hdue : s.slotPassed.exerciseDue = fun v => s.used v && (s.head v).state == .ready && (s.queued v).isEmpty &&
      decide (10080 ≤ (s.clock.elapsed - (s.head v).lastMoved).toNat) := by
    funext v
    rw [exerciseDue_congr (s := s) (by simp) (by simp) (by simp) (by simp) v, exerciseDue_eq]
  rw [State.exerciseSlots, hdue]
  simp

/-- The exercise slot's wall minute, with a boiler that stays: its entries, then the marks and the grants. -/
theorem exec_wallMinute_exercise {s : State} (ha : s.acting = none) (hdue : s.clock.wallDue = true) (hstays : s.boilerStays)
    (hslot : s.clock.wallMinute.minuteOfDay = 10 * s.cfg.boiler.exerciseSlot) :
    ∃ t, exec .wallMinute s = .next t ∧ t.heads = s.slotPassed.exercise.remark.grantRound.heads ∧
      t.arbiter = s.slotPassed.exercise.remark.grantRound.arbiter := by
  have hminute : s.clock.wallMinute.minuteOfDay % 10 = 0 := by omega
  have hplan : s.clock.wallMinute.slot = s.cfg.boiler.exerciseSlot := by simp [Clock.slot, hslot]
  have stays : s.slotPassed.exercise.boilerStays :=
    boilerStays_frame state_ext (by rw [exercise_sinkOpen]; simp) hstays
  refine ⟨_, exec_wallMinute s ha hdue, ?_⟩
  rw [wallMinute_exercise s hminute hplan, settle_of_stays stays (by simp)]
  exact ⟨by simp, by simp⟩

/-- Settles O7: the minute's moves are `wallMinute_moves`; the exercise entries are `exercise_queue`, and a grant keeps
`exercising`. -/
theorem wallMinuteMovesTheWeek : Obligations.WallMinuteMovesTheWeek := by
  refine ⟨fun s ha hdue hshape => ?_, fun due s ha hdue hshape hstays hslot harr hlist => ?_⟩
  · obtain ⟨t, ht, hclock, hquiet, hboundary, hrest⟩ := wallMinute_moves s ha hdue hshape
    refine ⟨t, ht, hclock, hquiet, fun h => ⟨(hboundary h).1, fun k h1 h2 => ?_⟩, hrest⟩
    rw [(hboundary h).2 k h1 h2]
    cases (s.zone k).preheat <;> rfl
  · obtain ⟨t, ht, hheads, harbiter⟩ := exec_wallMinute_exercise ha hdue hstays hslot
    have harrivals : s.slotPassed.arbiter.arrivals ≤ 4294967295 := by simpa using harr
    rw [← exerciseSlots_slotPassed] at hlist
    refine ⟨t, ht, fun v hv => ?_, fun hsupply => ?_⟩
    · rw [hlist] at hv
      obtain ⟨⟨h1, h2⟩, -⟩ := of_mem_exerciseSlots hv
      have hlen : s.slotPassed.exercise.remark.heads.length = 32 := by simpa using heads_length hshape
      have granted := exercising_reads (exercising_grantRound h1 h2 hlen (exercising_remark (exercising_exercise harrivals hv)))
      simpa [State.queued, State.head, hheads, harbiter] using granted
    · have hqueue : t.arbiter.queue.map Entry.unmarked = s.slotPassed.exercise.arbiter.queue.map Entry.unmarked := by
        rw [harbiter, grantRound_unsupplied (by simpa using hsupply), remark_queue_unmarked]
      change t.arbiter.queue.map Entry.unmarked = s.arbiter.queue.map Entry.unmarked ++
        due.mapIdx (exerciseEntry s.arbiter.arrivals)
      rw [hlist, hqueue, exercise_queue _ harrivals, List.map_append, exerciseEntries_unmarked]
      simp

end Sys2Proof.Machine
end

section
/-! PROOF. Layer stacks and the operations on them (O55). -/

namespace Sys2Proof.Machine

/-! ## Stacks -/

theorem stackOk_iff (x : List Layer) : stackOk x = true ↔ x.length ≤ 4 ∧ ∀ l ∈ x.dropLast, l.kind ≠ .window := by
  simp [stackOk]

theorem parkLayersOk_iff (x : Park) : x.layersOk = true ↔ x.layers.length ≤ 4 ∧ ∀ l ∈ x.layers, l.kind ≠ .window := by
  simp [Park.layersOk]

/-- A stack without WINDOW layers is well formed where it is short enough. -/
theorem stackOk_of_plain {x : List Layer} (hlen : x.length ≤ 4) (h : ∀ l ∈ x, l.kind ≠ .window) : stackOk x = true :=
  (stackOk_iff x).mpr ⟨hlen, fun l hl => h l (List.dropLast_subset x hl)⟩

/-- A WINDOW layer stands only on top (R24): written with the stack's top split off. -/
theorem stackOk_concat (below : List Layer) (l : Layer) :
    stackOk (below ++ [l]) = true ↔ below.length ≤ 3 ∧ ∀ x ∈ below, x.kind ≠ .window := by
  rw [stackOk_iff, List.dropLast_concat, List.length_append, List.length_singleton, Nat.succ_le_succ_iff]

/-- What leaves layers out keeps a stack well formed. -/
theorem stackOk_sublist {x y : List Layer} (h : y.Sublist x) (hx : stackOk x = true) : stackOk y = true := by
  obtain ⟨hlen, hplain⟩ := (stackOk_iff x).mp hx
  refine (stackOk_iff y).mpr ⟨h.length_le.trans hlen, fun l hl => hplain l (?_)⟩
  have hdrop : y.dropLast.Sublist x.dropLast := by
    simpa [List.tail_reverse] using h.reverse.tail.reverse
  exact hdrop.subset hl

/-- What changes layers but not their kinds keeps a stack well formed. -/
theorem stackOk_map {f : Layer → Layer} (hf : ∀ l, (f l).kind = l.kind) (x : List Layer) :
    stackOk (x.map f) = stackOk x := by
  have hkind : ((·.kind != LayerKind.window) ∘ f) = fun l : Layer => l.kind != .window := by
    funext l; simp [hf]
  simp only [stackOk, List.length_map, ← List.map_dropLast, List.all_map, hkind]

/-- No layer of the stack is a WINDOW (R24, of channel W). -/
abbrev windowless (x : List Layer) : Prop := ∀ l ∈ x, l.kind ≠ .window

theorem windowless_map {f : Layer → Layer} (hf : ∀ l, (f l).kind = l.kind) {x : List Layer} (h : windowless x) :
    windowless (x.map f) := by
  intro l hl
  obtain ⟨m, hm, rfl⟩ := List.mem_map.mp hl
  rw [hf]; exact h m hm

theorem windowless_sublist {x y : List Layer} (h : y.Sublist x) (hx : windowless x) : windowless y :=
  fun l hl => hx l (h.subset hl)

/-! ### The operations on a stack (R26, R27, R30) -/

/-- The stack after room has been made on it (R26 step 1). -/
def roomMade (stack : List Layer) : List Layer := if stackFull stack then stack.tail else stack

theorem roomMade_sublist (x : List Layer) : (roomMade x).Sublist x := by
  unfold roomMade; split
  · exact x.tail_sublist
  · exact List.Sublist.refl x

theorem roomMade_length {x : List Layer} (h : x.length ≤ 4) : (roomMade x).length ≤ 3 := by
  unfold roomMade stackFull; split
  · simp only [List.length_tail]; omega
  · simp_all; omega

/-- The layers of a stack with one placed on it are its own and the new one (R26 step 2). -/
theorem mem_layerPlaced {x : List Layer} {l m : Layer} (h : m ∈ layerPlaced x l) : m ∈ x ∨ m = l := by
  unfold layerPlaced at h; split at h
  · simp only [List.mem_append, List.mem_cons, Option.mem_toList] at h
    rcases h with h | h | h
    · exact .inl (List.dropLast_subset x h)
    · exact .inr h
    · exact .inl (List.mem_of_getLast? h)
  · simpa using h

theorem layerPlaced_stackOk {x : List Layer} {l : Layer} (hlen : x.length ≤ 3) (hx : stackOk x = true)
    (hl : l.kind ≠ .window) : stackOk (layerPlaced x l) = true := by
  rcases List.eq_nil_or_concat' x with rfl | ⟨below, top, rfl⟩
  · simp [layerPlaced, windowOnTop, topLayer, stackOk]
  · obtain ⟨-, hbelow⟩ := (stackOk_concat below top).mp hx
    simp only [List.length_append, List.length_singleton] at hlen
    unfold layerPlaced; split
    · have : (below ++ [top]).dropLast ++ l :: (below ++ [top]).getLast?.toList = (below ++ [l]) ++ [top] := by simp
      rw [this, stackOk_concat]
      refine ⟨by simp; omega, fun y hy => ?_⟩
      rcases List.mem_append.mp hy with hy | hy
      · exact hbelow y hy
      · rw [List.mem_singleton.mp hy]; exact hl
    · next hwin =>
      have htop : top.kind ≠ .window := by simpa [windowOnTop, topLayer] using hwin
      rw [stackOk_concat]
      refine ⟨by simp; omega, fun y hy => ?_⟩
      rcases List.mem_append.mp hy with hy | hy
      · exact hbelow y hy
      · rw [List.mem_singleton.mp hy]; exact htop

theorem windowRefreshed_kind (o : Origin) (n : Nat) (l : Layer) : (windowRefreshed o n l).kind = l.kind := by
  unfold windowRefreshed; repeat' split
  all_goals rfl

/-- The stack with a WINDOW layer of this origin placed (R27). -/
def windowPlaced (stack : List Layer) (origin : Origin) (time : Nat) : List Layer :=
  if stack.any (·.kind == .window) then stack.map (windowRefreshed origin time)
  else roomMade stack ++ [{ kind := .window, setpoint := none, remaining := if origin = .detect then some time else none, origin }]

theorem windowPlaced_stackOk {x : List Layer} (o : Origin) (n : Nat) (hx : stackOk x = true) :
    stackOk (windowPlaced x o n) = true := by
  unfold windowPlaced; split
  · rw [stackOk_map (windowRefreshed_kind o n)]; exact hx
  · next hno =>
    have hplain : windowless x := by simpa using hno
    exact (stackOk_concat _ _).mpr
      ⟨roomMade_length ((stackOk_iff x).mp hx).1, windowless_sublist (roomMade_sublist x) hplain⟩

theorem released_kind {n : Nat} {l m : Layer} (h : Layer.released n l = some m) : m.kind = .timed := by
  unfold Layer.released at h; split at h <;> cases h; rfl

/-- A release takes a layer away or makes it TIMED: in the layers below or above any point likewise (R30). -/
theorem releaseFirst_windowless (p : Layer → Bool) (n : Nat) {x : List Layer} (h : windowless x) :
    windowless (releaseFirst p (Layer.released n) x) := by
  induction x with
  | nil => exact h
  | cons l x ih =>
    obtain ⟨hl, hx⟩ := List.forall_mem_cons.mp h
    unfold releaseFirst; split
    · intro m hm
      rcases List.mem_append.mp hm with hm | hm
      · rw [released_kind (Option.mem_toList.mp hm)]; decide
      · exact hx m hm
    · exact List.forall_mem_cons.mpr ⟨hl, ih hx⟩

theorem releaseFirst_length (p : Layer → Bool) (n : Nat) (x : List Layer) :
    (releaseFirst p (Layer.released n) x).length ≤ x.length := by
  induction x with
  | nil => exact Nat.le_refl _
  | cons l x ih =>
    unfold releaseFirst; split
    · unfold Layer.released; split <;> simp
    · simpa using ih

theorem releaseHold_windowless (n : Nat) {x : List Layer} (h : windowless x) : windowless (releaseHold n x) := by
  intro l hl
  exact releaseFirst_windowless _ n (fun m hm => h m (List.mem_reverse.mp hm)) l (List.mem_reverse.mp hl)

theorem releaseHold_stackOk (n : Nat) {x : List Layer} (hx : stackOk x = true) : stackOk (releaseHold n x) = true := by
  rcases List.eq_nil_or_concat' x with rfl | ⟨below, top, rfl⟩
  · rfl
  · obtain ⟨hlen, hbelow⟩ := (stackOk_concat below top).mp hx
    by_cases htop : top.kind = .hold
    · refine stackOk_of_plain ?_ (releaseHold_windowless n fun l hl => ?_)
      · have := releaseFirst_length (·.kind == .hold) n (below ++ [top]).reverse
        simp only [releaseHold, List.length_reverse, List.length_append, List.length_singleton] at this ⊢
        omega
      · rcases List.mem_append.mp hl with hl | hl
        · exact hbelow l hl
        · rw [List.mem_singleton.mp hl, htop]; decide
    · have hsplit : releaseHold n (below ++ [top]) = releaseHold n below ++ [top] := by
        simp [releaseHold, releaseFirst, htop]
      rw [hsplit, stackOk_concat]
      refine ⟨?_, releaseHold_windowless n hbelow⟩
      have := releaseFirst_length (·.kind == .hold) n below.reverse
      simp only [releaseHold, List.length_reverse] at this ⊢
      omega

end Sys2Proof.Machine
end

section
/-! PROOF. The layer stacks of the state, operation by operation (O55). -/

namespace Sys2Proof.Machine

/-! ## The stacks of the channels -/

/-- Every stack is well formed, and W's holds no WINDOW layer (R24). -/
def State.stacksWell (s : State) : Prop :=
  (∀ r ∈ s.channels, stackOk r.stack = true) ∧ windowless (s.channel channelW).stack

/-- What a stored set and the store have of the stacks (R37, R40). -/
def State.savedWell (s : State) : Prop :=
  s.cfg.stacksOk = true ∧ (s.store.imageValid = true → s.store.image.stacksOk = true) ∧
    s.store.writing.all Stored.stacksOk = true

theorem stacksOk_iff (s : State) : s.stacksOk ↔ s.zones.length ≤ 16 ∧ s.stacksWell ∧ s.savedWell := by
  simp only [State.stacksOk, State.stacksWell, State.savedWell, and_assoc]

theorem zones_length_of_sizes {s t : State} (h : t.sizes = s.sizes) : t.zones.length = s.zones.length :=
  congrArg (·.2.1) h

theorem savedWell_of_kept {s t : State} (h : s.savedWell) (hcfg : t.cfg.stacksOk = s.cfg.stacksOk)
    (hstore : t.store = s.store) : t.savedWell := by
  simpa only [State.savedWell, hcfg, hstore] using h

/-- A state that keeps the zones in number, the stacks' rule, and what is saved, keeps the invariant. -/
theorem stacksOk_of_well {s t : State} (h : s.stacksOk) (hwell : t.stacksWell)
    (hsaved : t.cfg.stacksOk = s.cfg.stacksOk ∧ t.store = s.store) (hzones : t.zones.length = s.zones.length) :
    t.stacksOk := by
  obtain ⟨hcfg, hstore⟩ := hsaved
  obtain ⟨hz, -, hsaved⟩ := (stacksOk_iff s).mp h
  exact (stacksOk_iff t).mpr ⟨hzones ▸ hz, hwell, savedWell_of_kept hsaved hcfg hstore⟩

theorem stacksWell_of_stacksOk {s : State} (h : s.stacksOk) : s.stacksWell := ((stacksOk_iff s).mp h).2.1

theorem stacksWell_congr {s t : State} (h : s.stacksWell) (hchannels : t.channels = s.channels) :
    t.stacksWell := by
  simpa only [State.stacksWell, State.channel, hchannels] using h

/-- A state with the same channels, the same saved, and lists as long, keeps the invariant. -/
theorem stacksOk_of_kept {s t : State} (h : s.stacksOk) (hkept : t.channels = s.channels ∧
    t.cfg.stacksOk = s.cfg.stacksOk ∧ t.store = s.store ∧ t.sizes = s.sizes) : t.stacksOk := by
  obtain ⟨hchannels, hcfg, hstore, hsizes⟩ := hkept
  exact stacksOk_of_well h (stacksWell_congr (stacksWell_of_stacksOk h) hchannels) ⟨hcfg, hstore⟩
    (zones_length_of_sizes hsizes)

theorem item_outside {α : Type} (l : List α) (n : Nat) (d : α) (h : n = 0 ∨ l.length < n) : item l n d = d := by
  cases n with
  | zero => rfl
  | succ k => simp only [item, List.getD]; rw [List.getElem?_eq_none (by omega)]; rfl

/-- Every channel number reads a well-formed stack: one of no channel an empty one. -/
theorem channel_stackOk {s : State} (h : s.stacksWell) (c : Nat) : stackOk (s.channel c).stack = true := by
  by_cases hc : 1 ≤ c ∧ c ≤ s.channels.length
  · exact h.1 _ (item_mem _ _ _ hc.1 hc.2)
  · rw [State.channel, item_outside _ _ _ (by omega)]; rfl

/-- A channel written with a well-formed stack, on W one without WINDOW layers. -/
theorem setChannel_stacksWell {s : State} (h : s.stacksWell) (c : Nat) (r : ChannelRun) (hr : stackOk r.stack = true)
    (hw : c = channelW → windowless r.stack) : (s.setChannel c r).stacksWell := by
  obtain ⟨hall, hW⟩ := h
  refine ⟨fun x hx => ?_, ?_⟩
  · cases c with
    | zero => exact hall x hx
    | succ k =>
      rcases List.mem_or_eq_of_mem_set hx with hx | rfl
      · exact hall x hx
      · exact hr
  · by_cases hc : c = channelW
    · subst hc
      by_cases hlen : channelW ≤ s.channels.length
      · rw [channel_setChannel_same s channelW r (by decide) hlen]; exact hw rfl
      · have hkeep : (s.setChannel channelW r).channel channelW = s.channel channelW := by
          simp [State.channel, setItem_outside s.channels channelW r (by omega)]
        rw [hkeep]; exact hW
    · rw [channel_setChannel_other s c channelW r (Ne.symm hc)]; exact hW

theorem setStack_stacksWell {s : State} (h : s.stacksWell) (c : Nat) (x : List Layer) (hx : stackOk x = true)
    (hw : c = channelW → windowless x) : (s.setStack c x).stacksWell :=
  setChannel_stacksWell h c _ hx hw

/-- A stack of which layers are left out. -/
theorem setStack_sublist_stacksWell {s : State} (h : s.stacksWell) (c : Nat) (x : List Layer)
    (hx : x.Sublist (s.channel c).stack) : (s.setStack c x).stacksWell :=
  setStack_stacksWell h c x (stackOk_sublist hx (channel_stackOk h c))
    (by rintro rfl; exact windowless_sublist hx h.2)

theorem setPlan_stacksWell {s : State} (h : s.stacksWell) (c : Nat) (x : List Level) : (s.setPlan c x).stacksWell :=
  setChannel_stacksWell h c _ (channel_stackOk h c) (by rintro rfl; exact h.2)

/-! ### Placing (R26, R27) -/

@[simp] theorem raise_channel (s : State) (x : Category) (o : ObjectSet) (c : Nat) :
    (s.raise x o).channel c = s.channel c := by simp [State.channel]

/-- The stack of channel `c` once room has been made on it. -/
theorem makeRoom_stack (s : State) (c : Nat) : ((s.makeRoom c).channel c).stack = roomMade (s.channel c).stack := by
  unfold State.makeRoom roomMade
  by_cases hfull : stackFull (s.channel c).stack = true
  · have hc : 1 ≤ c ∧ c ≤ s.channels.length := by
      by_contra hout
      rw [State.channel, item_outside _ _ _ (by omega)] at hfull
      exact absurd hfull (by decide)
    simp only [hfull, if_true]
    rw [raise_channel, State.setStack,
      channel_setChannel_same s c _ hc.1 hc.2]
  · simp [hfull]

theorem makeRoom_stacksWell {s : State} (h : s.stacksWell) (c : Nat) : (s.makeRoom c).stacksWell := by
  unfold State.makeRoom
  dsimp only
  split
  · exact stacksWell_congr (setStack_sublist_stacksWell h c _ (List.tail_sublist _)) (by simp)
  · exact h

theorem placeLayer_stacksWell {s : State} (h : s.stacksWell) (c : Nat) (l : Layer) (hl : l.kind ≠ .window) :
    (s.placeLayer c l).stacksWell := by
  have hroom := makeRoom_stacksWell h c
  refine setStack_stacksWell hroom c _ ?_ ?_
  · refine layerPlaced_stackOk ?_ (channel_stackOk hroom c) hl
    rw [makeRoom_stack]
    exact roomMade_length ((stackOk_iff _).mp (channel_stackOk h c)).1
  · rintro rfl m hm
    rcases mem_layerPlaced hm with hm | rfl
    · exact hroom.2 m hm
    · exact hl

/-- A window is placed as `windowPlaced` says, and raises what making room raises. -/
theorem placeWindow_eq (s : State) (k : Nat) (o : Origin) :
    s.placeWindow k o =
      (if (s.channel k).stack.any (·.kind == .window) then s else s.makeRoom k).setStack k
        (windowPlaced (s.channel k).stack o (s.zoneCfg k).windowTime) := by
  unfold State.placeWindow windowPlaced
  dsimp only
  split
  · rfl
  · rw [makeRoom_stack]

theorem placeWindow_stacksWell {s : State} (h : s.stacksWell) (k : Nat) (o : Origin) (hk : k ≠ channelW) :
    (s.placeWindow k o).stacksWell := by
  rw [placeWindow_eq]
  refine setStack_stacksWell ?_ k _ (windowPlaced_stackOk o _ (channel_stackOk h k)) (fun e => absurd e hk)
  split
  · exact h
  · exact makeRoom_stacksWell h k

end Sys2Proof.Machine
end

section
/-! PROOF. What works on the layer stacks keeps them well formed (O55). -/

namespace Sys2Proof.Machine

/-! ### Contacts and boosts (R37 to R39) -/

/-- A function hands its changes to the stack of a zone, never to W's (R37). -/
def InputFunction.zoned : InputFunction → Prop
  | .window k => k ≠ channelW
  | .none | .inhibit | .boilerFault | .boost _ _ _ => True

theorem ne_channelW_of_isZone {k : Nat} (h : isZone k = true) : k ≠ channelW := by
  rintro rfl; exact absurd h (by decide)

theorem zoned_of_contactOk {x : InputCfg} (h : x.contactOk = true) : x.function.zoned := by
  unfold InputCfg.contactOk at h
  cases hf : x.function with
  | window k => rw [hf] at h; exact ne_channelW_of_isZone h
  | none => trivial
  | inhibit => trivial
  | boilerFault => trivial
  | boost k t m => trivial

theorem inputs_contactOk {s : State} (h : s.cfg.stacksOk = true) : ∀ x ∈ s.cfg.inputs, x.contactOk = true := by
  simp only [Stored.stacksOk, Bool.and_eq_true, List.all_eq_true] at h
  exact h.2

/-- Every input of a well-formed stored set is handed to a zone. -/
theorem inputCfg_zoned {s : State} (h : s.cfg.stacksOk = true) (n : Nat) : (s.inputCfg n).function.zoned := by
  by_cases hn : 1 ≤ n ∧ n ≤ s.cfg.inputs.length
  · exact zoned_of_contactOk (inputs_contactOk h _ (item_mem _ _ _ hn.1 hn.2))
  · rw [State.inputCfg, item_outside _ _ _ (by omega)]; trivial

theorem contactOpens_stacksWell {s : State} (h : s.stacksWell) (k : Nat) (hk : k ≠ channelW) :
    (s.contactOpens k).stacksWell := by
  unfold State.contactOpens; split
  · exact h
  · exact placeWindow_stacksWell h k _ hk

theorem contactCloses_stacksWell {s : State} (h : s.stacksWell) (k : Nat) : (s.contactCloses k).stacksWell := by
  unfold State.contactCloses; split
  · exact h
  · exact setStack_sublist_stacksWell h k _ List.filter_sublist

theorem boost_stacksWell {s : State} (h : s.stacksWell) (k : Nat) (x : Temp) (m : Nat) : (s.boost k x m).stacksWell := by
  unfold State.boost; split
  · exact h
  · exact placeLayer_stacksWell h k _ (by simp [State.pushedLayer])

theorem becomesActive_stacksWell {s : State} (h : s.stacksWell) {f : InputFunction} (hf : f.zoned) :
    (s.becomesActive f).stacksWell := by
  cases f with
  | window k => exact contactOpens_stacksWell h k hf
  | none => exact h
  | inhibit => exact h
  | boilerFault => exact h
  | boost k x m => exact h

theorem becomesInactive_stacksWell {s : State} (h : s.stacksWell) (f : InputFunction) :
    (s.becomesInactive f).stacksWell := by
  cases f with
  | window k => exact contactCloses_stacksWell h k
  | none => exact h
  | inhibit => exact h
  | boilerFault => exact h
  | boost k x m => exact h

theorem edge_stacksWell {s : State} (h : s.stacksWell) (n : Nat) (f : InputFunction) : (s.edge n f).stacksWell := by
  cases f with
  | boost k x m => exact stacksWell_congr (boost_stacksWell h k x m) (by simp [State.edge])
  | none => exact stacksWell_congr h (by simp [State.edge])
  | window k => exact h
  | inhibit => exact h
  | boilerFault => exact h

theorem ite_stacksWell {c : Prop} [Decidable c] {s t : State} (ht : t.stacksWell) (hs : s.stacksWell) :
    (if c then t else s).stacksWell := by split <;> assumption

theorem changeInput_stacksWell {s : State} (h : s.stacksWell) (hc : s.cfg.stacksOk = true) (n : Nat) (b : Bool) :
    (s.changeInput n b).stacksWell := by
  have hzoned := inputCfg_zoned hc n
  unfold State.changeInput
  dsimp only
  suffices h3 : State.stacksWell _ from ite_stacksWell (edge_stacksWell h3 n _) h3
  suffices h2 : State.stacksWell _ from ite_stacksWell (becomesActive_stacksWell h2 hzoned) h2
  suffices h1 : State.stacksWell _ from ite_stacksWell (becomesInactive_stacksWell h1 _) h1
  exact stacksWell_congr h (by simp)

theorem establishInput_stacksWell {s : State} (h : s.stacksWell) (hc : s.cfg.stacksOk = true) (n : Nat) (b : Bool) :
    (s.establishInput n b).stacksWell := by
  have h1 : (s.setInputRec n { s.inputRec n with level := some b }).stacksWell := stacksWell_congr h (by simp)
  exact ite_stacksWell (becomesActive_stacksWell h1 (inputCfg_zoned (by simpa using hc) n)) h1

theorem sampleInput_stacksWell {s : State} (h : s.stacksWell) (hc : s.cfg.stacksOk = true) (n : Nat) (b : Bool) :
    (s.sampleInput n b).stacksWell := by
  unfold State.sampleInput; split
  · exact stacksWell_congr h (by simp)
  · exact establishInput_stacksWell h hc n b
  · exact changeInput_stacksWell h hc n b

theorem reconfigureInput_stacksWell {s : State} (h : s.stacksWell) (n : Nat) (x : InputCfg) (hx : x.function.zoned) :
    (s.reconfigureInput n x).stacksWell := by
  unfold State.reconfigureInput
  dsimp only
  suffices h2 : State.stacksWell _ from ite_stacksWell (becomesActive_stacksWell h2 hx) h2
  suffices h1 : State.stacksWell _ from ite_stacksWell (becomesInactive_stacksWell h1 _) h1
  exact stacksWell_congr h (by simp)

/-! ### Parking (R41, R43) -/

theorem parkIn_stacksWell {s : State} (h : s.stacksWell) (k n : Nat) : (s.parkIn k n).stacksWell :=
  stacksWell_congr (setStack_stacksWell h k [] rfl (fun _ => List.forall_mem_nil _)) (by simp [State.parkIn, State.channel])

/-- What parking saves of a well-formed stack is well formed (R40). -/
theorem parkContext_layersOk {s : State} (h : s.stacksWell) (k : Nat) : (s.parkContext k).layersOk = true := by
  refine (parkLayersOk_iff _).mpr ⟨?_, fun l hl => ?_⟩
  · exact (List.filter_sublist.length_le).trans ((stackOk_iff _).mp (channel_stackOk h k)).1
  · simpa using (List.mem_filter.mp hl).2

/-- The park slots written with what is well formed. -/
theorem setItem_all {α : Type} (p : α → Bool) (l : List α) (n : Nat) (x : α) (hl : l.all p = true) (hx : p x = true) :
    (setItem l n x).all p = true := by
  cases n with
  | zero => exact hl
  | succ k =>
    rw [List.all_eq_true] at hl ⊢
    intro y hy
    rcases List.mem_or_eq_of_mem_set hy with hy | rfl
    · exact hl y hy
    · exact hx

theorem stacksOk_setParks {x : Stored} (h : x.stacksOk = true) (n : Nat) (y : Option Park)
    (hy : y.all Park.layersOk = true) (z : List ZoneCfg) (c : List ChannelCfg) :
    ({ x with parks := setItem x.parks n y, zones := z, channels := c } : Stored).stacksOk = true := by
  simp only [Stored.stacksOk, Bool.and_eq_true] at h ⊢
  exact ⟨setItem_all _ _ n y h.1 hy, h.2⟩

theorem parkIn_cfg_stacksOk {s : State} (h : s.stacksWell) (hc : s.cfg.stacksOk = true) (k n : Nat) :
    (s.parkIn k n).cfg.stacksOk = true :=
  stacksOk_setParks hc n (some (s.parkContext k)) (parkContext_layersOk h k) _ _

theorem unparkFrom_stacksWell {s : State} (h : s.stacksWell) (k n : Nat) (x : Park) (hk : k ≠ channelW)
    (hx : x.layersOk = true) : (s.unparkFrom k n x).stacksWell := by
  obtain ⟨hlen, hplain⟩ := (parkLayersOk_iff x).mp hx
  unfold State.unparkFrom
  dsimp only
  have h1 : ((s.setParks (setItem s.cfg.parks n none)).setStack k x.layers).stacksWell :=
    setStack_stacksWell (stacksWell_congr h (by simp)) k _ (stackOk_of_plain hlen hplain) (fun _ => hplain)
  split
  · exact placeWindow_stacksWell (stacksWell_congr h1 (by simp)) k _ hk
  · exact stacksWell_congr h1 (by simp)

theorem unparkFrom_cfg_stacksOk {s : State} (hc : s.cfg.stacksOk = true) (k n : Nat) (x : Park) :
    (s.unparkFrom k n x).cfg.stacksOk = true := by
  have h1 := fun z c => stacksOk_setParks hc n none rfl z c
  unfold State.unparkFrom
  dsimp only
  split
  · rw [(placeWindow_keeps _ _ _).2.1]; exact h1 _ _
  · exact h1 _ _

/-- A park slot of a well-formed stored set holds well-formed layers. -/
theorem park_layersOk {s : State} (hc : s.cfg.stacksOk = true) {n : Nat} {x : Park}
    (h : item s.cfg.parks n none = some x) : x.layersOk = true := by
  simp only [Stored.stacksOk, Bool.and_eq_true, List.all_eq_true] at hc
  by_cases hn : 1 ≤ n ∧ n ≤ s.cfg.parks.length
  · simpa [h] using hc.1 _ (item_mem s.cfg.parks n none hn.1 hn.2)
  · rw [item_outside _ _ _ (by omega)] at h; cases h

/-! ### The regulation pass (R36), minutes and plans (R14, R28, R29) -/

theorem windowDetection_stacksWell {s : State} (h : s.stacksWell) (k : Nat) (hk : k ≠ channelW) :
    (s.windowDetection k).stacksWell := by
  unfold State.windowDetection
  exact stacksWell_congr (ite_stacksWell (c := s.detects k = true) (placeWindow_stacksWell h k .detect hk) h) (by simp)

theorem pass_stacksWell {s : State} (h : s.stacksWell) (k : Nat) (hk : k ≠ channelW) : (s.pass k).stacksWell :=
  stacksWell_congr (windowDetection_stacksWell (s := (s.passTaken k).optimumStart k)
    (stacksWell_congr h (by simp [State.passTaken])) k hk) (by simp [State.pass, State.passTaken])

@[simp] theorem stacksOk_setChannels (x : Stored) (l : List ChannelCfg) :
    ({ x with channels := l } : Stored).stacksOk = x.stacksOk := rfl

@[simp] theorem stacksOk_setZones (x : Stored) (l : List ZoneCfg) :
    ({ x with zones := l } : Stored).stacksOk = x.stacksOk := rfl

@[simp] theorem stacksOk_setValves (x : Stored) (l : List ValveCfg) :
    ({ x with valves := l } : Stored).stacksOk = x.stacksOk := rfl

@[simp] theorem stacksOk_setBoiler (x : Stored) (b : BoilerCfg) :
    ({ x with boiler := b } : Stored).stacksOk = x.stacksOk := rfl

@[simp] theorem stacksOk_setMasks (s : State) (p : Port) (ms : List Mask) :
    (s.setMasks p ms).cfg.stacksOk = s.cfg.stacksOk := by cases p <;> rfl

@[simp] theorem writeDraft_stacksOk (s : State) (c : Nat) (d : ChannelDraft) :
    (s.writeDraft c d).cfg.stacksOk = s.cfg.stacksOk := by
  unfold State.writeDraft; dsimp only; split <;> rfl

@[simp] theorem preheatLearn_stacksOk (s : State) (k : Nat) : (s.preheatLearn k).cfg.stacksOk = s.cfg.stacksOk := by
  unfold State.preheatLearn State.learnWith; repeat' split
  all_goals rfl

@[simp] theorem pass_stacksOk (s : State) (k : Nat) : (s.pass k).cfg.stacksOk = s.cfg.stacksOk := by
  simp [State.pass, State.optimumStart]

theorem compileAll_stacksWell {s : State} (h : s.stacksWell) : s.compileAll.stacksWell :=
  foldl_induct State.stacksWell State.compile channelNumbers (fun _ c _ hu => setPlan_stacksWell hu c _) s h

theorem endUntilNextOf_stacksWell {s : State} (h : s.stacksWell) (old : Nat → Level) (c : Nat) :
    (s.endUntilNextOf old c).stacksWell := by
  unfold State.endUntilNextOf; split
  · exact h
  · exact setStack_sublist_stacksWell h c _ List.filter_sublist

theorem slotBoundary_stacksWell {s : State} (h : s.stacksWell) (old : Nat → Level) : (s.slotBoundary old).stacksWell := by
  have hplans := foldl_induct State.stacksWell State.midnightPlan channelNumbers
    (fun _ c _ hu => setPlan_stacksWell hu c _) s h
  unfold State.slotBoundary
  dsimp only
  suffices hends : State.stacksWell _ from stacksWell_congr hends (preheatRises_keeps _).2.2.2.2.1
  exact foldl_induct State.stacksWell _ channelNumbers (fun _ c _ hu => endUntilNextOf_stacksWell hu old c) _
    (ite_stacksWell hplans h)

theorem wallMinute_stacksWell {s : State} (h : s.stacksWell) : s.wallMinute.stacksWell := by
  have hb := slotBoundary_stacksWell (s := s.setClock s.clock.wallMinute) (stacksWell_congr h (by simp)) s.baseLevel
  unfold State.wallMinute
  exact ite_stacksWell (ite_stacksWell (stacksWell_congr hb (by simp)) hb) (stacksWell_congr h (by simp))

theorem countDown_kind (l : Layer) : l.countDown.kind = l.kind := rfl

theorem elapsedMinute_stacksWell {s : State} (h : s.stacksWell) : s.elapsedMinute.stacksWell := by
  have hchannels : s.elapsedMinute.channels = s.channels.map ChannelRun.countDown := by
    unfold State.elapsedMinute
    exact foldl_keeps State.duePass State.channels (fun s k => by simp) zoneNumbers _
  refine ⟨fun r hr => ?_, ?_⟩
  · rw [hchannels] at hr
    obtain ⟨x, hx, rfl⟩ := List.mem_map.mp hr
    exact (stackOk_map countDown_kind x.stack).trans (h.1 x hx)
  · rw [elapsedMinute_channel]
    exact windowless_map countDown_kind h.2

theorem draftEffects_stacksWell {s : State} (h : s.stacksWell) (c : Nat) (x y : ChannelDraft) :
    (s.draftEffects c x y).stacksWell := by
  have hcompiled := setPlan_stacksWell h c (s.compilePlan c)
  unfold State.draftEffects
  dsimp only
  suffices h2 : State.stacksWell _ from ite_stacksWell (stacksWell_congr h2 (by simp)) h2
  suffices h1 : State.stacksWell _ from ite_stacksWell (stacksWell_congr h1 (by simp)) h1
  exact ite_stacksWell hcompiled h

/-! ### Requests on layers (R25, R30 to R32) -/

/-- Layers that are no windows, placed on some channels. -/
theorem placeLayers_stacksWell {s : State} (h : s.stacksWell) (l : State → Nat → Layer) (hl : ∀ c, (l s c).kind ≠ .window)
    (cs : List Nat) : (cs.foldl (fun t c => t.placeLayer c (l s c)) s).stacksWell :=
  foldl_induct State.stacksWell _ cs (fun _ c _ hu => placeLayer_stacksWell hu c _ (hl c)) s h

theorem clearStacks_stacksWell {s : State} (h : s.stacksWell) (cs : List Nat) :
    (cs.foldl State.clearStack s).stacksWell :=
  foldl_induct State.stacksWell _ cs (fun _ c _ hu => setStack_sublist_stacksWell hu c _ List.filter_sublist) s h

end Sys2Proof.Machine
end

section
/-! PROOF. Every command keeps the layer stacks well formed (O55). -/

namespace Sys2Proof.Machine

/-! ## What a frame spells is a request command's request -/

/-- A payload that fits its kind spells the request of some request command on that port (R165, R171). -/
theorem parseRequest_requestOf {p : Port} {kind : Byte} {l : List Byte} {r : Request}
    (h : parseRequest p kind l = some r) : ∃ i, requestOf i = some (p, r) := by
  have hno {x : Request} (i : Instr) (hx : requestOf i = some (p, x)) (h : noPayload x l = some r) :
      ∃ i, requestOf i = some (p, r) := by
    cases l <;> cases h; exact ⟨i, hx⟩
  have hone {f : Nat → Request} (i : Nat → Instr) (hf : ∀ n, requestOf (i n) = some (p, f n)) (h : oneByte f l = some r) :
      ∃ i, requestOf i = some (p, r) := by
    obtain ⟨n, -, rfl⟩ := Option.map_eq_some_iff.mp h; exact ⟨i n, hf n⟩
  have hpairs {forms : Nat → Option ValueForm} {f : Nat → List (Nat × Int) → Request} (i : Nat → List (Nat × Int) → Instr)
      (hf : ∀ n fs, requestOf (i n fs) = some (p, f n fs)) (h : byteAndPairs forms f l = some r) :
      ∃ i, requestOf i = some (p, r) := by
    obtain ⟨⟨n, rest⟩, -, h⟩ := Option.bind_eq_some_iff.mp h
    obtain ⟨fs, -, rfl⟩ := Option.map_eq_some_iff.mp h; exact ⟨i n fs, hf n fs⟩
  unfold parseRequest at h
  split at h
  case h_1 =>
    simp only [clockSetForm, Option.bind_eq_some_iff, Option.map_eq_some_iff] at h
    obtain ⟨⟨m, _⟩, -, ⟨sec, _⟩, -, q, -, rfl⟩ := h
    exact ⟨.clockSet p m sec q, rfl⟩
  case h_5 =>
    simp only [roomTempForm, Option.bind_eq_some_iff, Option.map_eq_some_iff] at h
    obtain ⟨⟨k, _⟩, -, t, -, rfl⟩ := h
    exact ⟨.roomTemp p k t, rfl⟩
  case h_6 =>
    simp only [layerPushForm, Option.bind_eq_some_iff, Option.map_eq_some_iff] at h
    obtain ⟨⟨m, _⟩, -, ⟨k, _⟩, -, ⟨t, _⟩, -, d, -, rfl⟩ := h
    exact ⟨.layerPush p m k t d, rfl⟩
  case h_8 =>
    obtain ⟨m, -, rfl⟩ := Option.map_eq_some_iff.mp h
    exact ⟨.layerClear p m, rfl⟩
  case h_9 =>
    simp only [holdReleaseForm, Option.bind_eq_some_iff, Option.map_eq_some_iff] at h
    obtain ⟨⟨c, _⟩, -, n, -, rfl⟩ := h
    exact ⟨.holdRelease p c n, rfl⟩
  case h_16 =>
    obtain ⟨fs, -, rfl⟩ := Option.map_eq_some_iff.mp h
    exact ⟨.boilerSet p fs, rfl⟩
  case h_18 =>
    simp only [inputSetForm, Option.bind_eq_some_iff, Option.map_eq_some_iff] at h
    obtain ⟨⟨n, _⟩, -, ⟨a, _⟩, -, ⟨b, _⟩, -, ⟨z, _⟩, -, ⟨t, _⟩, -, m, -, rfl⟩ := h
    exact ⟨.inputSet p n a b z t m, rfl⟩
  case h_19 =>
    simp only [inputGetForm, Option.bind_eq_some_iff, Option.map_eq_some_iff] at h
    obtain ⟨⟨n, _⟩, -, c, -, rfl⟩ := h
    exact ⟨.inputGet p _ _, rfl⟩
  case h_21 =>
    obtain ⟨items, -, rfl⟩ := Option.map_eq_some_iff.mp h
    exact ⟨.attnMask p items, rfl⟩
  case h_26 =>
    simp only [tableWriteForm, Option.bind_eq_some_iff] at h
    obtain ⟨⟨tag, _⟩, -, ⟨first, _⟩, -, h⟩ := h
    dsimp only at h
    split at h
    · obtain ⟨rs, -, rfl⟩ := Option.map_eq_some_iff.mp h
      exact ⟨.tableWrite p _ first rs, rfl⟩
    · obtain ⟨rs, -, rfl⟩ := Option.map_eq_some_iff.mp h
      exact ⟨.tableWrite p _ first rs, rfl⟩
    · cases h
      exact ⟨.tableWrite p _ first [], rfl⟩
  case h_31 => cases h
  · exact hno (.clockGet p) rfl h
  · exact hpairs (.channelSet p) (fun _ _ => rfl) h
  · exact hone (.channelGet p) (fun _ => rfl) h
  · exact hone (.layerPop p) (fun _ => rfl) h
  · exact hone (.zonePark p) (fun _ => rfl) h
  · exact hone (.zoneUnpark p) (fun _ => rfl) h
  · exact hpairs (.valveSet p) (fun _ _ => rfl) h
  · exact hone (.valveGet p) (fun _ => rfl) h
  · exact hone (.valveHome p) (fun _ => rfl) h
  · exact hno (.linkClear p) rfl h
  · exact hno (.boilerGet p) rfl h
  · exact hno (.attnGet p) rfl h
  · exact hno (.editClaim p) rfl h
  · exact hno (.editCommit p) rfl h
  · exact hno (.editDrop p) rfl h
  · exact hone (.tableRead p) (fun _ => rfl) h
  · exact hno (.storeSave p) rfl h
  · exact hno (.storeErase p) rfl h
  · exact hno (.restart p) rfl h
  · exact hno (.ident p) rfl h

theorem formOf_requestOf {p : Port} {kind : Byte} {l : List Byte} {r : Request} (h : formOf p kind l = .fits r) :
    ∃ i, requestOf i = some (p, r) := by
  unfold formOf at h
  split at h
  · cases hq : parseRequest p kind l with
    | none => simp [hq, Form.ofParse] at h
    | some q =>
      simp only [hq, Form.ofParse, Form.fits.injEq] at h
      exact h ▸ parseRequest_requestOf hq
  · cases h

/-! ## Requests -/

/-- A request's work keeps the stacks' invariant. -/
def Request.KeepsStacks (r : Request) : Prop := ∀ s : State, s.stacksOk → (r.work s).1.stacksOk

/-- A request that leaves the channels alone. -/
theorem keepsStacks_of_channels {r : Request} (h : ∀ s : State, (r.work s).1.channels = s.channels ∧
    (r.work s).1.cfg.stacksOk = s.cfg.stacksOk ∧ (r.work s).1.store = s.store ∧ (r.work s).1.zones.length = s.zones.length) :
    r.KeepsStacks := fun s hs => by
  obtain ⟨hchannels, hcfg, hstore, hzones⟩ := h s
  exact stacksOk_of_well hs (stacksWell_congr (stacksWell_of_stacksOk hs) hchannels) ⟨hcfg, hstore⟩ hzones

@[simp] theorem abandonPreheat_zones_length (s : State) (k : Nat) : (s.abandonPreheat k).zones.length = s.zones.length :=
  zones_length_of_sizes (abandonPreheat_sizes s k)

@[simp] theorem abandonAll_zones_length (s : State) : s.abandonAll.zones.length = s.zones.length :=
  zones_length_of_sizes (abandonAll_sizes s)

@[simp] theorem takeReading_zones_length (s : State) (k : Nat) (x : Temp) :
    (s.takeReading k x).zones.length = s.zones.length := zones_length_of_sizes (takeReading_sizes s k x)

@[simp] theorem draftEffects_zones_length (s : State) (c : Nat) (x y : ChannelDraft) :
    (s.draftEffects c x y).zones.length = s.zones.length := by
  unfold State.draftEffects
  dsimp only
  repeat' split
  all_goals simp [length_setItem]

theorem clockSet_keepsStacks (m sec q : Nat) : (clockSetRequest m sec q).KeepsStacks := by
  intro s h
  simp only [clockSetRequest, clockSetWork]
  split
  · exact h
  · split
    · exact h
    · next q _ _ =>
      have hclock : (s.setClock (s.clock.setTo m sec q)).stacksWell := stacksWell_congr (stacksWell_of_stacksOk h) (by simp)
      exact stacksOk_of_well h (stacksWell_congr (compileAll_stacksWell hclock) (by simp [done])) (by simp [done])
        (by simp [done])

theorem channelSet_keepsStacks (c : Nat) (fs : List (Nat × Int)) : (channelSetRequest c fs).KeepsStacks := by
  intro s h
  simp only [channelSetRequest, channelSetWork]
  split
  · exact h
  split
  · exact h
  next d _ =>
  split
  · exact h
  have hdraft := draftEffects_stacksWell (s := s.writeDraft c d) (stacksWell_congr (stacksWell_of_stacksOk h) (by simp)) c (s.draft c) d
  split
  · exact stacksOk_of_well h hdraft (by simp [done]) (by simp [done])
  · exact stacksOk_of_well h (stacksWell_congr hdraft (by simp [done])) (by simp [done]) (by simp [done])

theorem channelGet_keepsStacks (c : Nat) : (channelGetRequest c).KeepsStacks :=
  keepsStacks_of_channels fun s => by
    simp only [channelGetRequest, channelGetWork]; split <;> simp [refuse, doneWith]

theorem roomTemp_keepsStacks (k : Nat) (x : Temp) : (roomTempRequest k x).KeepsStacks :=
  keepsStacks_of_channels fun s => by
    simp only [roomTempRequest, roomTempWork]; repeat' split
    all_goals simp [refuse]

theorem layerPush_keepsStacks (p : Port) (m : BitVec 24) (k : Nat) (x : Temp) (d : Nat) :
    (layerPushRequest p m k x d).KeepsStacks := by
  intro s h
  simp only [layerPushRequest, layerPushWork]
  split
  · exact h
  · exact h
  next kind hkind _ =>
  split
  · exact h
  split
  · exact h
  have hplain : kind ≠ .window := by rintro rfl; exact hkind rfl
  obtain ⟨hcfg, hstore, -, hsizes⟩ := placeLayers_kept (fun s c => s.pushedLayer c kind (portOrigin p) x d)
    ((maskChannels m).filter (!s.parked ·)) s
  exact stacksOk_of_well h (placeLayers_stacksWell (stacksWell_of_stacksOk h)
    (fun s c => s.pushedLayer c kind (portOrigin p) x d) (fun c => hplain) _)
    ⟨congrArg Stored.stacksOk hcfg, hstore⟩ (zones_length_of_sizes hsizes)

theorem layerPop_keepsStacks (c : Nat) : (layerPopRequest c).KeepsStacks := by
  intro s h
  simp only [layerPopRequest, layerPopWork]
  repeat' split
  case h_2.isFalse =>
    exact stacksOk_of_well h (setStack_sublist_stacksWell (stacksWell_of_stacksOk h) c _ (List.dropLast_sublist _))
      ⟨rfl, rfl⟩ rfl
  all_goals exact h

theorem layerClear_keepsStacks (m : BitVec 24) : (layerClearRequest m).KeepsStacks := by
  intro s h
  have hkept := foldl_keeps State.clearStack (fun s : State => (s.cfg, s.store, s.zones)) (by intro s c; simp)
    (maskChannels m) s
  simp only [Prod.mk.injEq] at hkept
  obtain ⟨hcfg, hstore, hzones⟩ := hkept
  simp only [layerClearRequest, layerClearWork]
  split
  · exact h
  · exact stacksOk_of_well h (clearStacks_stacksWell (stacksWell_of_stacksOk h) _)
      ⟨congrArg Stored.stacksOk hcfg, hstore⟩ (congrArg List.length hzones)

theorem holdRelease_keepsStacks (c n : Nat) : (holdReleaseRequest c n).KeepsStacks := by
  intro s h
  have hw := stacksWell_of_stacksOk h
  simp only [holdReleaseRequest, holdReleaseWork]
  repeat' split
  case isFalse.isFalse =>
    exact stacksOk_of_well h (setStack_stacksWell hw c _ (releaseHold_stackOk _ (channel_stackOk hw c))
      (by rintro rfl; exact releaseHold_windowless _ hw.2)) ⟨rfl, rfl⟩ rfl
  all_goals exact h

theorem zonePark_keepsStacks (k : Nat) : (zoneParkRequest k).KeepsStacks := by
  intro s h
  obtain ⟨hz, hw, hsaved⟩ := (stacksOk_iff s).mp h
  simp only [zoneParkRequest, zoneParkWork]
  split
  · exact h
  split
  · exact h
  split
  · exact h
  next n _ =>
  have hcfg := parkIn_cfg_stacksOk hw hsaved.1 k n
  exact stacksOk_of_well h (stacksWell_congr (parkIn_stacksWell hw k n) (by simp [doneWith]))
    (by simp [doneWith, hcfg, hsaved.1]) (zones_length_of_sizes (by simp [doneWith]))

theorem zoneUnpark_keepsStacks (k : Nat) : (zoneUnparkRequest k).KeepsStacks := by
  intro s h
  obtain ⟨hz, hw, hsaved⟩ := (stacksOk_iff s).mp h
  simp only [zoneUnparkRequest, zoneUnparkWork]
  split
  · exact h
  next hzone =>
  split
  · exact h
  next n _ =>
  split
  · exact h
  next x hx =>
  have hcfg := unparkFrom_cfg_stacksOk hsaved.1 k n x
  have hwell := unparkFrom_stacksWell hw k n x (ne_channelW_of_isZone (not_not.mp hzone)) (park_layersOk hsaved.1 hx)
  exact stacksOk_of_well h (stacksWell_congr hwell (by simp [done])) (by simp [done, hcfg, hsaved.1])
    (zones_length_of_sizes (by simp [done]))

theorem valveSet_keepsStacks (v : Nat) (fs : List (Nat × Int)) : (valveSetRequest v fs).KeepsStacks :=
  keepsStacks_of_channels fun s => by
    simp only [valveSetRequest, valveSetWork]; repeat' split
    all_goals simp [refuse, done]

theorem valveGet_keepsStacks (v : Nat) : (valveGetRequest v).KeepsStacks :=
  keepsStacks_of_channels fun s => by
    simp only [valveGetRequest, valveGetWork]; split <;> simp [refuse, doneWith]

theorem valveHome_keepsStacks (v : Nat) : (valveHomeRequest v).KeepsStacks :=
  keepsStacks_of_channels fun s => by
    simp only [valveHomeRequest, valveHomeWork]; repeat' split
    all_goals simp [refuse, done]

theorem linkClear_keepsStacks : linkClearRequest.KeepsStacks :=
  keepsStacks_of_channels fun s => by
    simp only [linkClearRequest, linkClearWork]; split <;> simp [refuse, done]

theorem boilerSet_keepsStacks (fs : List (Nat × Int)) : (boilerSetRequest fs).KeepsStacks :=
  keepsStacks_of_channels fun s => by
    simp only [boilerSetRequest, boilerSetWork]; repeat' split
    all_goals simp [refuse, done]

/-- A function that INPUT-SET gives an input is handed to a zone (R154). -/
theorem inputFunction_contactOk {code : Nat} {z : Option Nat} {x : Option Temp} {m : Option Nat} {f : InputFunction}
    (h : inputFunction code z x m = some f) (sens : Sensitivity) : InputCfg.contactOk ⟨sens, f⟩ = true := by
  unfold inputFunction at h
  repeat' split at h
  all_goals cases h
  case h_2.isTrue.refl => assumption
  all_goals rfl

theorem inputSet_keepsStacks (n a b : Nat) (z : Option Nat) (x : Option Temp) (m : Option Nat) :
    (inputSetRequest n a b z x m).KeepsStacks := by
  intro s h
  obtain ⟨hz, hw, hsaved⟩ := (stacksOk_iff s).mp h
  simp only [inputSetRequest, inputSetWork]
  split
  · next sens f _ hf =>
    split
    · exact h
    split
    · exact h
    have hok := inputFunction_contactOk hf sens
    have hcfg : (s.reconfigureInput n ⟨sens, f⟩).cfg.stacksOk = true := by
      have hinputs := hsaved.1
      simp only [Stored.stacksOk, Bool.and_eq_true] at hinputs
      have hset : (s.setInputCfg n ⟨sens, f⟩).cfg.stacksOk = true := by
        simp only [Stored.stacksOk, setInputCfg_cfg, Bool.and_eq_true]
        exact ⟨hinputs.1, setItem_all _ _ n _ hinputs.2 hok⟩
      unfold State.reconfigureInput
      dsimp only
      repeat' split
      all_goals simpa using hset
    have hwell := reconfigureInput_stacksWell hw n ⟨sens, f⟩ (zoned_of_contactOk hok)
    exact stacksOk_of_well h (stacksWell_congr hwell (by simp [done])) (by simp [done, hcfg, hsaved.1])
      (zones_length_of_sizes (by simp [done]))
  · exact h

theorem inputGet_keepsStacks (n : Option Nat) (clear : Bool) : (inputGetRequest n clear).KeepsStacks :=
  keepsStacks_of_channels fun s => by
    have hk := foldl_keeps State.clearEdges (fun s : State => (s.cfg, s.store, s.channels, s.zones))
      (by intro s c; simp [State.clearEdges]) (namedInputs n) s
    simp only [inputGetRequest, inputGetWork]; repeat' split
    all_goals simp_all [refuse, doneWith]

theorem attnGet_keepsStacks (p : Port) : (attnGetRequest p).KeepsStacks :=
  keepsStacks_of_channels fun s => by simp [attnGetRequest, attnGetWork, doneWith]

theorem attnMask_keepsStacks (p : Port) (items : List MaskItem) : (attnMaskRequest p items).KeepsStacks :=
  keepsStacks_of_channels fun s => by
    simp only [attnMaskRequest, attnMaskWork]; split
    · exact ⟨rfl, stacksOk_setMasks s p _, rfl, rfl⟩
    · exact ⟨rfl, rfl, rfl, rfl⟩

theorem editClaim_keepsStacks (p : Port) : (editClaimRequest p).KeepsStacks :=
  keepsStacks_of_channels fun s => by
    simp only [editClaimRequest, editClaimWork]; repeat' split
    all_goals exact ⟨rfl, rfl, rfl, rfl⟩

theorem commit_stacksOk {s : State} (h : s.stacksOk) (c : EditClaim) : (s.commit c).stacksOk := by
  have hw : ((s.setCfg { s.cfg with pool := c.pool, programs := c.programs }).setClaim none).stacksWell :=
    stacksWell_congr (stacksWell_of_stacksOk h) (by simp)
  have hcfg : (s.commit c).cfg = { s.cfg with pool := c.pool, programs := c.programs } := by simp [State.commit]
  exact stacksOk_of_well h (stacksWell_congr (compileAll_stacksWell hw) (by simp [State.commit]))
    ⟨(congrArg Stored.stacksOk hcfg).trans rfl, by simp⟩ (by simp [State.commit])

theorem editCommit_keepsStacks (p : Port) : (editCommitRequest p).KeepsStacks := by
  intro s h
  simp only [editCommitRequest, editCommitWork]
  repeat' split
  · exact h
  · exact h
  · exact commit_stacksOk h _

theorem editDrop_keepsStacks (p : Port) : (editDropRequest p).KeepsStacks :=
  keepsStacks_of_channels fun s => by
    simp only [editDropRequest, editDropWork]; split <;> exact ⟨rfl, rfl, rfl, rfl⟩

theorem tableRead_keepsStacks (p : Port) (tag : Nat) : (tableReadRequest p tag).KeepsStacks :=
  keepsStacks_of_channels fun s => by
    simp only [tableReadRequest, tableReadWork, readPart]; repeat' split
    all_goals simp [refuse]

theorem tableWrite_keepsStacks (p : Port) (tag first : Nat) (rs : List TableRecord) :
    (tableWriteRequest p tag first rs).KeepsStacks :=
  keepsStacks_of_channels fun s => by
    simp only [tableWriteRequest, tableWriteWork]; repeat' split
    all_goals exact ⟨rfl, rfl, rfl, rfl⟩

theorem storeSave_keepsStacks : storeSaveRequest.KeepsStacks := by
  intro s h
  obtain ⟨hz, hw, hcfg, himage, -⟩ := (stacksOk_iff s).mp h
  exact (stacksOk_iff _).mpr ⟨hz, hw, hcfg, himage, hcfg⟩

theorem storeErase_keepsStacks : storeEraseRequest.KeepsStacks := by
  intro s h
  obtain ⟨hz, hw, hcfg, -, hwriting⟩ := (stacksOk_iff s).mp h
  exact (stacksOk_iff _).mpr ⟨hz, hw, hcfg, fun hvalid => absurd hvalid (by simp [storeEraseRequest, storeEraseWork, done]), hwriting⟩

/-- The request of every request command keeps the stacks' invariant. -/
theorem requestOf_keepsStacks {i : Instr} {p : Port} {r : Request} (hi : requestOf i = some (p, r)) : r.KeepsStacks := by
  cases i <;> cases hi
  case clockSet => exact clockSet_keepsStacks _ _ _
  case clockGet => exact fun _ h => h
  case channelSet => exact channelSet_keepsStacks _ _
  case channelGet => exact channelGet_keepsStacks _
  case roomTemp => exact roomTemp_keepsStacks _ _
  case layerPush => exact layerPush_keepsStacks _ _ _ _ _
  case layerPop => exact layerPop_keepsStacks _
  case layerClear => exact layerClear_keepsStacks _
  case holdRelease => exact holdRelease_keepsStacks _ _
  case zonePark => exact zonePark_keepsStacks _
  case zoneUnpark => exact zoneUnpark_keepsStacks _
  case valveSet => exact valveSet_keepsStacks _ _
  case valveGet => exact valveGet_keepsStacks _
  case valveHome => exact valveHome_keepsStacks _
  case linkClear => exact linkClear_keepsStacks
  case boilerSet => exact boilerSet_keepsStacks _
  case boilerGet => exact fun _ h => h
  case inputSet => exact inputSet_keepsStacks _ _ _ _ _ _
  case inputGet => exact inputGet_keepsStacks _ _
  case attnGet => exact attnGet_keepsStacks _
  case attnMask => exact attnMask_keepsStacks _ _
  case editClaim => exact editClaim_keepsStacks _
  case editCommit => exact editCommit_keepsStacks _
  case editDrop => exact editDrop_keepsStacks _
  case tableRead => exact tableRead_keepsStacks _ _
  case tableWrite => exact tableWrite_keepsStacks _ _ _ _
  case storeSave => exact storeSave_keepsStacks
  case storeErase => exact storeErase_keepsStacks
  case restart => exact fun _ h => h
  case ident => exact fun _ h => h

/-! ## Events -/

theorem endEvent_stacksOk {s : State} (h : s.stacksOk) : s.endEvent.stacksOk :=
  stacksOk_of_kept h (by simp)

theorem event_stacksOk {s : State} (f : State → State) (h : s.stacksOk) (hf : (f s).stacksOk) : (s.event f).stacksOk := by
  unfold State.event; split
  · exact h
  · exact endEvent_stacksOk hf

theorem plantEvent_stacksOk {s : State} (f : State → State) (h : s.stacksOk) (hf : (f s).stacksOk) :
    (s.plantEvent f).stacksOk := by
  unfold State.plantEvent; split
  · exact h
  · exact endEvent_stacksOk (stacksOk_of_kept hf (by simp))

/-- An effect on the plant that leaves the channels alone. -/
theorem plantEvent_channels {s : State} (f : State → State) (h : s.stacksOk) (hf : (f s).channels = s.channels ∧
    (f s).cfg.stacksOk = s.cfg.stacksOk ∧ (f s).store = s.store ∧ (f s).sizes = s.sizes) : (s.plantEvent f).stacksOk :=
  plantEvent_stacksOk f h (stacksOk_of_kept h hf)

theorem event_channels {s : State} (f : State → State) (h : s.stacksOk) (hf : (f s).channels = s.channels ∧
    (f s).cfg.stacksOk = s.cfg.stacksOk ∧ (f s).store = s.store ∧ (f s).sizes = s.sizes) : (s.event f).stacksOk :=
  event_stacksOk f h (stacksOk_of_kept h hf)

theorem ite_stacksOk {c : Prop} [Decidable c] {s t : State} (h : s.stacksOk) (ht : c → t.stacksOk) :
    (if c then t else s).stacksOk := by
  split
  · exact ht ‹c›
  · exact h

/-! ### Resets (R192) -/

theorem defaults_stacksOk : Stored.defaults.stacksOk = true := by decide

theorem afterReset_stacksOk {x : Store} (h : x.imageValid = true → x.image.stacksOk = true) :
    x.afterReset.imageValid = true → x.afterReset.image.stacksOk = true := by
  by_cases hw : x.writing = none <;> simp_all

theorem loaded_stacksOk {x : Store} (h : x.imageValid = true → x.image.stacksOk = true) : x.loaded.stacksOk = true := by
  unfold Store.loaded; split
  · exact h ‹_›
  · exact defaults_stacksOk

theorem reset_stacksWell : State.reset.stacksWell := by
  have hstack : ∀ r ∈ State.reset.channels, r.stack = [] := fun r hr => by
    rcases List.mem_append.mp hr with hr | hr
    · rw [List.eq_of_mem_replicate hr]; rfl
    · rw [List.mem_singleton.mp hr]; rfl
  have hW : (State.reset.channel channelW).stack = [] := hstack _ (item_mem _ _ _ (by decide) (by decide))
  exact ⟨fun r hr => by rw [hstack r hr]; rfl, by rw [hW]; exact List.forall_mem_nil _⟩

theorem loadedFrom_stacksOk {s : State} (h : s.stacksOk) (cold : Bool) : (s.loadedFrom cold).stacksOk := by
  obtain ⟨-, -, -, himage, -⟩ := (stacksOk_iff s).mp h
  have himage' := afterReset_stacksOk himage
  exact (stacksOk_iff _).mpr ⟨(congrArg (·.2.1) (loadedFrom_sizes s cold)).le, reset_stacksWell, loaded_stacksOk himage', himage', by simp [State.loadedFrom]⟩

theorem resetRaises_stacksOk {s : State} (h : s.stacksOk) (cold : Bool) : (s.resetRaises cold).stacksOk := by
  simp only [State.resetRaises]; repeat' split
  all_goals exact stacksOk_of_kept h (by simp)

theorem startBlocks_stacksOk {s : State} (h : s.stacksOk) : s.startBlocks.stacksOk :=
  stacksOk_of_well h (stacksWell_congr (compileAll_stacksWell (stacksWell_of_stacksOk h)) (by simp [State.startBlocks]))
    (by simp [State.startBlocks]) (by simp [State.startBlocks])

theorem bootFrom_stacksOk {s : State} (h : s.stacksOk) (cold : Bool) : (s.bootFrom cold).stacksOk :=
  startBlocks_stacksOk (resetRaises_stacksOk (loadedFrom_stacksOk h cold) cold)

theorem nextStop_stacksOk {s : State} (h : s.stacksOk) (vs : List Nat) : (s.nextStop vs).stacksOk := by
  cases vs <;> exact h

theorem warmStart_stacksOk {s : State} (h : s.stacksOk) : s.warmStart.stacksOk := by
  obtain ⟨hz, hw, hcfg, himage, hwriting⟩ := (stacksOk_iff s).mp h
  have hkept : s.warmStart.cfg = s.cfg ∧ s.warmStart.store = s.store.afterReset := by simp [State.warmStart]
  have hchannels : s.warmStart.channels = s.channels := by
    unfold State.warmStart State.nextStop; dsimp only; split <;> rfl
  obtain ⟨h1, h2⟩ := hkept
  refine (stacksOk_iff _).mpr ⟨(zones_length_of_sizes (s := s) (by simp)).trans_le hz, stacksWell_congr hw hchannels, ?_⟩
  rw [State.savedWell, h1, h2]
  exact ⟨hcfg, afterReset_stacksOk himage, by simp⟩

/-! ### Time -/

theorem slotBoundary_zones_length (s : State) (old : Nat → Level) :
    (s.slotBoundary old).zones.length = s.zones.length := by
  have hends := fun u : State => foldl_keeps (fun u c => u.endUntilNextOf old c) State.zones
    (fun u c => by unfold State.endUntilNextOf; split <;> simp) channelNumbers u
  have hplans := foldl_keeps State.midnightPlan State.zones (fun u c => by simp [State.midnightPlan]) channelNumbers s
  unfold State.slotBoundary
  dsimp only
  rw [zones_length_of_sizes (preheatRises_sizes _), hends]
  split
  · rw [hplans]
  · rfl

theorem wallMinute_zones_length (s : State) : s.wallMinute.zones.length = s.zones.length := by
  have hb := slotBoundary_zones_length (s.setClock s.clock.wallMinute) s.baseLevel
  unfold State.wallMinute
  dsimp only
  split
  · split
    · exact (zones_length_of_sizes (by simp)).trans hb
    · exact hb
  · rfl

theorem wallMinuteEvent_stacksOk {s : State} (h : s.stacksOk) : (wallMinuteEvent s).stacksOk :=
  ite_stacksOk h fun _ => event_stacksOk _ h
    (stacksOk_of_well h (wallMinute_stacksWell (stacksWell_of_stacksOk h)) (by simp)
      (wallMinute_zones_length s))

theorem elapsedMinuteEvent_stacksOk {s : State} (h : s.stacksOk) : (elapsedMinuteEvent s).stacksOk :=
  ite_stacksOk h fun _ => event_stacksOk _ h (stacksOk_of_well h (elapsedMinute_stacksWell (stacksWell_of_stacksOk h))
    (by simp) (zones_length_of_sizes (by simp)))

theorem secondTickEvent_stacksOk {s : State} (h : s.stacksOk) : (secondTickEvent s).stacksOk := by
  unfold secondTickEvent; split
  · exact stacksOk_of_kept h (by simp)
  · have hm : s.takeMinutes.stacksOk := wallMinuteEvent_stacksOk (elapsedMinuteEvent_stacksOk h)
    exact hm

/-! ### Requests met at a port (R168, R169) -/

theorem met_stacksOk {s : State} (p : Port) (h : s.stacksOk) : (s.met p).stacksOk :=
  stacksOk_of_well h (stacksWell_congr (stacksWell_of_stacksOk h) (by simp)) (by simp) (by simp)

theorem serve_stacksOk {s : State} (f : Form) (h : s.stacksOk) (hf : ∀ r, f = .fits r → r.KeepsStacks) :
    (f.serve s).1.stacksOk := by
  cases f with
  | unknown => exact h
  | malformed => exact h
  | fits r =>
    by_cases hr : s.restartPending = true
    · rw [serve_pending r s hr]; exact h
    simp only [Form.serve, if_neg hr]
    split
    · exact h
    · split
      · exact h
      · exact hf r rfl s h

theorem complete_stacksOk {s : State} (p : Port) (kind : Byte) (f : Form) (h : s.stacksOk)
    (hf : ∀ r, f = .fits r → r.KeepsStacks) : (s.complete p kind f).stacksOk := by
  have hm := met_stacksOk p h
  rw [complete_met]
  simp only [State.meet]
  split
  · exact stacksOk_of_kept (serve_stacksOk f hm hf) (by simp)
  · split <;> exact stacksOk_of_kept hm (by simp)

theorem requestEvent_stacksOk {s : State} {i : Instr} {p : Port} {r : Request} (h : s.stacksOk)
    (hi : requestOf i = some (p, r)) : (requestEvent p r s).stacksOk :=
  event_stacksOk _ h (complete_stacksOk p r.kind _ h (by rintro _ ⟨⟩; exact requestOf_keepsStacks hi))

theorem discardFrame_stacksOk {s : State} (p : Port) (h : s.stacksOk) : (s.discardFrame p).stacksOk :=
  stacksOk_of_kept h (by simp [State.discardFrame])

theorem completeFrame_stacksOk {s : State} (p : Port) (bytes : List Byte) (h : s.stacksOk) :
    (s.completeFrame p bytes).stacksOk := by
  cases bytes with
  | nil => exact stacksOk_of_kept (t := s.setRx p .idle) h (by simp)
  | cons kind payload =>
    refine complete_stacksOk p kind _ h fun r hr => ?_
    obtain ⟨i, hi⟩ := formOf_requestOf hr
    exact requestOf_keepsStacks hi

theorem takeByteAt_stacksOk {s : State} (p : Port) (b : Byte) (h : s.stacksOk) : (s.takeByteAt p b).stacksOk := by
  have hrx (rx : Receiver) : (s.setRx p rx).stacksOk := stacksOk_of_kept h (by simp)
  unfold State.takeByteAt
  split
  · split
    · exact hrx _
    · exact h
  · split
    · exact discardFrame_stacksOk p h
    · exact hrx _
  · split
    · exact hrx _
    · split
      · exact completeFrame_stacksOk p _ h
      · exact discardFrame_stacksOk p h

theorem frameSentEvent_stacksOk {s : State} (p : Port) (h : s.stacksOk) : (frameSentEvent p s).stacksOk := by
  unfold frameSentEvent; split
  · exact h
  · split
    · exact warmStart_stacksOk h
    · exact event_channels _ h (by simp)

/-! ### Contacts, passes and writes -/

/-- A contact's effect on well-formed stacks, as an event of the plant. -/
theorem plantEvent_well {s : State} (f : State → State) (h : s.stacksOk)
    (hf : s.stacksWell → s.cfg.stacksOk = true → (f s).stacksWell)
    (hsaved : (f s).cfg.stacksOk = s.cfg.stacksOk ∧ (f s).store = s.store) (hsizes : (f s).sizes = s.sizes) :
    (s.plantEvent f).stacksOk :=
  have ⟨_, hw, hc, _⟩ := (stacksOk_iff s).mp h
  plantEvent_stacksOk f h (stacksOk_of_well h (hf hw hc) hsaved (zones_length_of_sizes hsizes))

theorem inputSampleEvent_stacksOk {s : State} (n : Nat) (high : Bool) (h : s.stacksOk) :
    (inputSampleEvent n high s).stacksOk := by
  obtain ⟨-, hw, hc, -⟩ := (stacksOk_iff s).mp h
  unfold inputSampleEvent; split
  · exact h
  split
  · exact event_stacksOk _ h (stacksOk_of_well h (sampleInput_stacksWell hw hc n high) (by simp)
      (zones_length_of_sizes (by simp)))
  · exact plantEvent_well _ h (fun hw hc => sampleInput_stacksWell hw hc n high) (by simp) (by simp)

/-- A pass is due of a zone only (R45, R51): channel W has no record of the regulator. -/
theorem ne_channelW_of_passDue {s : State} (h : s.zones.length ≤ 16) {k : Nat} (hd : (s.zone k).passDue = true) :
    k ≠ channelW := by
  rintro rfl
  rw [State.zone, item_outside s.zones channelW _ (.inr (Nat.lt_succ_of_le h))] at hd
  cases hd

theorem regulationPassEvent_stacksOk {s : State} (k : Nat) (h : s.stacksOk) : (regulationPassEvent k s).stacksOk :=
  ite_stacksOk h fun hd =>
    plantEvent_well _ h (fun hw _ => pass_stacksWell hw k (ne_channelW_of_passDue ((stacksOk_iff s).mp h).1 hd)) (by simp)
      (by simp)

theorem writeEnds_stacksOk {s : State} (x : Stored) (h : s.stacksOk) (hx : s.store.writing = some x) :
    (s.writeEnds x).stacksOk := by
  obtain ⟨hz, hw, hcfg, -, hwriting⟩ := (stacksOk_iff s).mp h
  have hx : x.stacksOk = true := by simpa [hx] using hwriting
  refine (stacksOk_iff _).mpr ⟨(zones_length_of_sizes (by simp [State.writeEnds])).trans_le hz,
    stacksWell_congr hw (by simp [State.writeEnds]), ?_⟩
  simp [State.savedWell, State.writeEnds, hcfg, hx]

theorem lapse_stacksOk {s : State} (c : EditClaim) (h : s.stacksOk) : (s.lapse c).stacksOk :=
  stacksOk_of_kept h (by simp [State.lapse])

/-! ## Every command -/

/-- A request command is the request event of its request (R168). -/
theorem exec_requestOf {i : Instr} {p : Port} {r : Request} (hi : requestOf i = some (p, r)) (s : State) :
    exec i s = .next (requestEvent p r s) := by
  cases i <;> cases hi <;> rfl

/-- A command that spells no request is an event, and keeps the stacks' invariant. -/
theorem exec_event_stacksOk {i : Instr} (hi : requestOf i = none) {s : State} (h : s.stacksOk) :
    ∃ t, exec i s = .next t ∧ t.stacksOk := by
  cases i <;> simp only [requestOf, reduceCtorEq] at hi <;> refine ⟨_, rfl, ?_⟩
  case coldReset => exact bootFrom_stacksOk h true
  case warmResetComplete => exact ite_stacksOk h fun _ => bootFrom_stacksOk h false
  case wallMinute => exact wallMinuteEvent_stacksOk h
  case elapsedMinute => exact elapsedMinuteEvent_stacksOk h
  case secondTick => exact secondTickEvent_stacksOk h
  case layerExpiry c =>
    exact event_stacksOk _ h (stacksOk_of_well h
      (setStack_sublist_stacksWell (stacksWell_of_stacksOk h) c _ List.filter_sublist) ⟨rfl, rfl⟩ rfl)
  case watchEnd => exact ite_stacksOk h fun _ => event_channels _ h (by simp)
  case discardedReply => exact h
  case stallRetry => exact ite_stacksOk h fun _ => plantEvent_channels _ h (by simp)
  case minOnElapsed => exact ite_stacksOk h fun _ => plantEvent_channels _ h (by simp)
  case minOffElapsed => exact ite_stacksOk h fun _ => plantEvent_channels _ h (by simp)
  case regulationPass k => exact regulationPassEvent_stacksOk k h
  case goodReply =>
    simp only [goodReplyEvent]; split
    · exact h
    · exact plantEvent_channels _ h (by simp)
  case miss =>
    simp only [missEvent]; split
    · exact h
    · exact plantEvent_channels _ h (by simp)
  case moveTimeout => exact ite_stacksOk h fun _ => plantEvent_channels _ h (by simp)
  case linkFault =>
    unfold linkFaultEvent; split
    · exact h
    · exact plantEvent_channels _ h (by simp)
  case supplyMeasurement => exact plantEvent_channels _ h (by simp)
  case supplyQualified => exact ite_stacksOk h fun _ => plantEvent_channels _ h (by simp)
  case sensorSample => exact ite_stacksOk h fun _ => plantEvent_channels _ h (by simp)
  case inputChange n high =>
    exact ite_stacksOk h fun _ => plantEvent_well _ h (fun hw hc => changeInput_stacksWell hw hc n high) (by simp) (by simp)
  case inputEstablished n high =>
    exact ite_stacksOk h fun _ => plantEvent_well _ h (fun hw hc => establishInput_stacksWell hw hc n high) (by simp)
      (by simp)
  case inputSample n high => exact inputSampleEvent_stacksOk n high h
  case leadExpiry => exact ite_stacksOk h fun _ => plantEvent_channels _ h (by simp)
  case overrunExpiry => exact ite_stacksOk h fun _ => plantEvent_channels _ h (by simp)
  case pumpTimerExpiry => exact ite_stacksOk h fun _ => plantEvent_channels _ h ⟨rfl, rfl, rfl, rfl⟩
  case rampStep => exact ite_stacksOk h fun _ => event_channels _ h (by simp)
  case storeWriteEnd =>
    unfold storeWriteEndEvent; split
    · exact h
    · next x hx => exact event_stacksOk _ h (writeEnds_stacksOk x h hx)
  case editClaimLapse =>
    unfold editClaimLapseEvent; split
    · exact ite_stacksOk h fun _ => event_stacksOk _ h (lapse_stacksOk _ h)
    · exact h
  case frameGap p =>
    unfold frameGapEvent; split
    · exact h
    · exact event_stacksOk _ h (discardFrame_stacksOk p h)
  case frameDiscard p _ => exact ite_stacksOk h fun _ => event_stacksOk _ h (discardFrame_stacksOk p h)
  case frameSent p => exact frameSentEvent_stacksOk p h
  case unknownKind p kind =>
    unfold unknownKindEvent; split
    · exact h
    · exact event_stacksOk _ h (complete_stacksOk p kind _ h (by simp))
  case byteArrival p b => exact event_stacksOk _ h (takeByteAt_stacksOk p b h)
  case warmResetStopEnd =>
    unfold warmResetStopEndEvent; split
    · exact h
    · exact ite_stacksOk h fun _ => nextStop_stacksOk h _

theorem exec_stacksOk (i : Instr) {s : State} (h : s.stacksOk) : ∃ t, exec i s = .next t ∧ t.stacksOk := by
  cases hi : requestOf i with
  | none => exact exec_event_stacksOk hi h
  | some q => exact ⟨_, exec_requestOf hi s, requestEvent_stacksOk h hi⟩

/-- Settles O55: each command keeps the stacks well formed (`exec_stacksOk`); taking the command off the queue changes
no stack. -/
theorem stepsKeepTheLayerStacks : Obligations.StepsKeepTheLayerStacks := by
  intro s t hs hstep
  unfold step at hstep
  split at hstep
  · cases hstep; exact hs
  · next c rest _ =>
    have hrest : State.stacksOk { s with pending := rest } := hs
    obtain ⟨u, hu, hwell⟩ := exec_stacksOk c hrest
    rw [hu] at hstep
    cases hstep
    exact hwell

end Sys2Proof.Machine
end

section
/-! PROOF. The effective setpoint (O20), layers and watches that run out (O9), the reset state (O52). -/

namespace Sys2Proof.Machine

/-! ## The effective setpoint (R33) -/

/-- Frost never exceeds the limit where the configuration is in range: the ranges of R23 do not meet. -/
theorem frost_le_limit {w : Bool} {x : ChannelCfg} (h : x.inRange w = true) : x.frost ≤ x.limit := by
  simp only [ChannelCfg.inRange, Bool.and_eq_true, decide_eq_true_eq, and_assoc] at h
  obtain ⟨-, -, hfrost, hlimit, -⟩ := h
  refine hfrost.trans ?_
  cases w <;> simp at hlimit <;> exact le_trans (by decide) hlimit.1

/-- A channel's configuration is one of the stored ones: W's stands last. -/
theorem channelCfg_inRange {s : State} (h : s.cfg.inRange = true) {c : Nat} (h1 : 1 ≤ c) (h17 : c ≤ 17) :
    ∃ w, (s.channelCfg c).inRange w = true := by
  simp only [Stored.inRange, Bool.and_eq_true, beq_iff_eq, List.all_eq_true, and_assoc] at h
  obtain ⟨hlen, hzones, hw, -⟩ := h
  have hmem : s.channelCfg c ∈ s.cfg.channels.take 16 ++ s.cfg.channels.drop 16 := by
    rw [List.take_append_drop]; exact item_mem _ _ _ h1 (by omega)
  rcases List.mem_append.mp hmem with hmem | hmem
  · exact ⟨false, hzones _ hmem⟩
  · exact ⟨true, hw _ hmem⟩

theorem clamp_mem {lo hi : Temp} (h : lo ≤ hi) (x : Temp) : lo ≤ clamp lo hi x ∧ clamp lo hi x ≤ hi := by
  unfold clamp; grind

theorem clamp_of_mem {lo hi x : Temp} (hlo : lo ≤ x) (hhi : x ≤ hi) : clamp lo hi x = x := by
  unfold clamp; grind

theorem clamp_below {lo hi x : Temp} (h : x < lo) : clamp lo hi x = lo := if_pos h

theorem clamp_above {lo hi x : Temp} (h : lo ≤ hi) (hx : hi < x) : clamp lo hi x = hi := by
  unfold clamp; grind

theorem effectiveSetpoint_parked {s : State} {c : Nat} (h : s.parked c = true) :
    s.effectiveSetpoint c = (s.channelCfg c).frost := if_pos h

theorem effectiveSetpoint_bare {s : State} {c : Nat} (h : s.parked c = false) (hstack : (s.channel c).stack = []) :
    s.effectiveSetpoint c = clamp (s.channelCfg c).frost (s.channelCfg c).limit (s.baseTemp c) := by
  simp [State.effectiveSetpoint, h, hstack, topLayer]

theorem effectiveSetpoint_layer {s : State} {c : Nat} {below : List Layer} {l : Layer} (h : s.parked c = false)
    (hstack : (s.channel c).stack = below ++ [l]) :
    s.effectiveSetpoint c = clamp (s.channelCfg c).frost (s.channelCfg c).limit
      (if l.kind = .window then (s.channelCfg c).frost else l.setpoint.getD (s.channelCfg c).frost) := by
  simp [State.effectiveSetpoint, h, hstack, topLayer]

theorem effectiveSetpoint_mem {s : State} {c : Nat} (h : (s.channelCfg c).frost ≤ (s.channelCfg c).limit) :
    (s.channelCfg c).frost ≤ s.effectiveSetpoint c ∧ s.effectiveSetpoint c ≤ (s.channelCfg c).limit := by
  unfold State.effectiveSetpoint
  dsimp only
  split
  · exact ⟨le_refl _, h⟩
  · exact clamp_mem h _

/-- Settles O20: the setpoint is clamped, and in range the clamp's bounds are in order (`frost_le_limit`). -/
theorem effectiveSetpointStaysWithinFrostAndLimit : Obligations.EffectiveSetpointStaysWithinFrostAndLimit := by
  intro c s h1 h17 hrange
  obtain ⟨w, hw⟩ := channelCfg_inRange hrange h1 h17
  have hle := frost_le_limit hw
  refine ⟨effectiveSetpoint_mem hle, effectiveSetpoint_parked, fun hopen hstack x hlo hhi hx => ?_,
    fun below l hopen hstack => ⟨fun hwindow => ?_, fun x hwindow hx => ?_⟩⟩
  · rw [effectiveSetpoint_bare hopen hstack, hx, clamp_of_mem hlo hhi]
  · rw [effectiveSetpoint_layer hopen hstack, if_pos hwindow, clamp_of_mem (le_refl _) hle]
  · rw [effectiveSetpoint_layer hopen hstack, if_neg hwindow, hx, Option.getD_some]
    exact ⟨clamp_below, clamp_above hle, clamp_of_mem⟩

/-! ## Layers and watches that run out (R28, R18) -/

theorem channel_setStack_other (s : State) (c d : Nat) (x : List Layer) (h : d ≠ c) :
    (s.setStack c x).channel d = s.channel d := channel_setChannel_other s c d _ h

theorem channel_setStack_same (s : State) (c : Nat) (x : List Layer) (h1 : 1 ≤ c) (h2 : c ≤ s.channels.length) :
    (s.setStack c x).channel c = { s.channel c with stack := x } := channel_setChannel_same s c _ h1 h2

/-- A number that is no channel's reads as an empty record, whatever is written there. -/
theorem channel_outside (s : State) (c : Nat) (h : ¬ (1 ≤ c ∧ c ≤ s.channels.length)) : s.channel c = ⟨[], []⟩ :=
  item_outside s.channels c _ (by omega)

theorem setChannel_outside (s : State) (c : Nat) (r : ChannelRun) (h : ¬ (1 ≤ c ∧ c ≤ s.channels.length)) :
    s.setChannel c r = s := by
  unfold State.setChannel; rw [setItem_outside s.channels c r (by omega)]

/-- Filtering a stack reads so whether or not the number is a channel's: no channel has the empty stack. -/
theorem channel_setStack_filter (s : State) (c : Nat) (keep : Layer → Bool) :
    (s.setStack c ((s.channel c).stack.filter keep)).channel c =
      { s.channel c with stack := (s.channel c).stack.filter keep } := by
  by_cases h : 1 ≤ c ∧ c ≤ s.channels.length
  · exact channel_setStack_same s c _ h.1 h.2
  · rw [State.setStack, setChannel_outside s c _ h, channel_outside s c h]; rfl

@[simp] theorem endEvent_channel (s : State) (c : Nat) : s.endEvent.channel c = s.channel c := rfl

@[simp] theorem endEvent_zone (s : State) (k : Nat) : s.endEvent.zone k = s.zone k := rfl

/-- A zone whose record is not the initial one is one of the regulator's (R45). -/
theorem zone_inside {s : State} {k : Nat} (h : s.zone k ≠ .initial) : 1 ≤ k ∧ k ≤ s.zones.length := by
  by_contra hk
  exact h (item_outside s.zones k _ (by omega))

/-- Settles O9: the expired layers are filtered out of the stack; a watch that is over is abandoned. -/
theorem expiredLayersAndWatchesEnd : Obligations.ExpiredLayersAndWatchesEnd := by
  refine ⟨fun c s ha => ?_, fun k run rise s ha hwatch hover => ?_⟩
  · have hexec : exec (.layerExpiry c) s =
        .next (s.setStack c ((s.channel c).stack.filter (!·.expired))).endEvent := by
      simp [exec, execLayerExpiry, layerExpiryEvent, event_free s _ ha]
    have hc := channel_setStack_filter s c (!·.expired)
    refine ⟨_, hexec, state_ext, portsKept_endEvent rfl rfl [], ?_, ?_, fun d hd => ?_⟩
    · rw [endEvent_channel, hc]
    · rw [endEvent_channel, hc]; rfl
    · rw [endEvent_channel, channel_setStack_other _ _ _ _ hd]
  · obtain ⟨h1, h2⟩ := zone_inside (s := s) (k := k) (by intro h; rw [h] at hwatch; cases hwatch)
    have hdue : (s.zone k).preheat.watchOver s.clock.elapsed = true := by
      rw [hwatch]; exact decide_eq_true hover
    have hexec : exec (.watchEnd k) s = .next (s.abandonPreheat k).endEvent := by
      simp [exec, execWatchEnd, watchEndEvent, hdue, event_free s _ ha]
    refine ⟨_, hexec, state_ext, portsKept_endEvent rfl rfl [], ?_, fun j hj => ?_⟩
    · rw [endEvent_zone, State.abandonPreheat, State.setPreheat,
        zone_setZone_same _ _ _ h1 h2, hwatch]
      rfl
    · rw [endEvent_zone, State.abandonPreheat, State.setPreheat, zone_setZone_other _ _ _ _ hj]

/-! ## The reset state (R192) -/

/-- The queue is empty after a reset, and no slot has a wanted target. -/
theorem reset_queueOk : State.reset.queueOk := by
  have hqueue : State.reset.arbiter.queue = [] := rfl
  refine ⟨by simp [hqueue], by simp [hqueue], fun v _ => ?_⟩
  by_cases hv : 1 ≤ v ∧ v ≤ State.reset.arbiter.wanted.length
  · exact List.eq_of_mem_replicate (item_mem State.reset.arbiter.wanted v none hv.1 hv.2)
  · exact item_outside _ _ _ (by omega)

theorem reset_shaped : State.reset.shaped :=
  (shaped_iff _).mpr ⟨⟨defaults_shaped, nofun, rfl, rfl⟩, reset_sizes⟩

theorem reset_stacksOk : State.reset.stacksOk :=
  (stacksOk_iff _).mpr ⟨(congrArg (·.2.1) reset_sizes).le, reset_stacksWell, defaults_stacksOk, nofun, rfl⟩

/-- What of the invariants no quantifier over all numbers keeps from it is evaluated. -/
theorem reset_evaluated : State.reset.portsOrdered ∧ State.reset.movesBounded ∧ State.reset.burnerFollows ∧
    State.reset.pumpFollows ∧ State.reset.tableFollows ∧ State.reset.neverBlocked ∧ State.reset.pathOpen ∧
    State.reset.flowInRange := by decide +kernel

/-- Settles O52: the lists have their lengths, stacks and queue are empty, and the rest is evaluated. -/
theorem resetMeetsEveryInvariant : Obligations.ResetMeetsEveryInvariant :=
  have ⟨hports, hmoves, hburner, hpump, htable, hblocked, hpath, hflow⟩ := reset_evaluated
  ⟨reset_shaped, hports, reset_stacksOk, hmoves, reset_queueOk, hburner, hpump, htable, hblocked, hpath, hflow⟩

end Sys2Proof.Machine
end

section
/-! PROOF. Layers popped, cleared and released (O18). -/

namespace Sys2Proof.Machine

/-! ## A served request whose work leaves the ports -/

@[simp] theorem pushTx_channel (s : State) (p : Port) (f : TxFrame) (c : Nat) :
    (s.pushTx p f).channel c = s.channel c := by cases p <;> rfl

/-- A request that is served and whose work writes the channels alone is answered, and nothing else changes (R168). -/
theorem requestEvent_channels {p : Port} {r : Request} {s t : State} {body : ReplyBody} (h : s.takes p)
    (hwork : r.work (s.met p) = (t, body)) (ht : t = { s.met p with channels := t.channels })
    (hknown : r.known = true) (hstored : r.stored = true → s.storeWriting = false) :
    s.replied (requestEvent p r s) p r.kind body [] ∧
      requestEvent p r s = { s with channels := (requestEvent p r s).channels, claim := s.keptAlive p,
                                    main := (requestEvent p r s).main, service := (requestEvent p r s).service } ∧
      ∀ c, (requestEvent p r s).channel c = t.channel c := by
  have hport (q : Port) : t.port q = (s.met p).port q := by rw [ht]; cases q <;> rfl
  have hreplied := requestEvent_replied p r s [] h hknown hstored (fun q => by simp [hwork, hport])
  have hend := requestEvent_served p r s h hknown hstored
  rw [hwork] at hreplied hend
  refine ⟨hreplied, ?_, fun c => by rw [hend, endEvent_channel, pushTx_channel]⟩
  rw [hend, ht]
  exact state_ext

/-- Steps that write the channels alone make a fold that does. -/
theorem foldl_channels {α : Type} (f : State → α → State) (h : ∀ u a, f u a = { u with channels := (f u a).channels })
    (l : List α) (s : State) : l.foldl f s = { s with channels := (l.foldl f s).channels } := by
  induction l generalizing s with
  | nil => rfl
  | cons a l ih => rw [List.foldl_cons, ih, h s a]

@[simp] theorem met_parked (s : State) (p : Port) (k : Nat) : (s.met p).parked k = s.parked k := by
  simp [State.parked, State.parkSlot]

/-- A window contact's state is read off the inputs and their configurations (R37). -/
theorem windowContact_congr {s t : State} (k : Nat) (hcfg : t.cfg = s.cfg)
    (hfield : t.field = s.field) : t.windowContact k = s.windowContact k := by
  simp [State.windowContact, State.activeInputs, State.inputActive, State.inputCfg, State.inputRec, hcfg, hfield]

@[simp] theorem met_windowContact (s : State) (p : Port) (k : Nat) : (s.met p).windowContact k = s.windowContact k :=
  windowContact_congr k (by simp) (by simp)

theorem windowHeld_eq (s : State) (k : Nat) (l : Layer) :
    s.windowHeld k l = (l.kind == .window && l.origin == .input && s.windowContact k) := rfl

/-- A channel that holds a layer is a channel of the part. -/
theorem channel_inside {s : State} {c : Nat} (h : (s.channel c).stack ≠ []) : 1 ≤ c ∧ c ≤ s.channels.length := by
  by_contra hc
  exact h (by rw [channel_outside s c hc])

theorem isChannel_iff (c : Nat) : isChannel c = true ↔ 1 ≤ c ∧ c ≤ 17 := by simp [isChannel]

/-! ## LAYER-POP (R31) -/

theorem layerPopWork_pops {s : State} {c : Nat} {below : List Layer} {l : Layer} (hc : isChannel c = true)
    (hstack : (s.channel c).stack = below ++ [l]) (hheld : s.windowHeld c l = false) :
    layerPopWork c s = (s.setStack c below, .done {} l.bytes) := by
  simp [layerPopWork, hc, hstack, topLayer, hheld, doneWith]

theorem layerPopWork_empty {s : State} {c : Nat} (hc : isChannel c = true) (hstack : (s.channel c).stack = []) :
    layerPopWork c s = (s, .refused .state) := by
  simp [layerPopWork, hc, hstack, topLayer, refuse]

theorem layerPopWork_held {s : State} {c : Nat} {below : List Layer} {l : Layer} (hc : isChannel c = true)
    (hstack : (s.channel c).stack = below ++ [l]) (hheld : s.windowHeld c l = true) :
    layerPopWork c s = (s, .refused .state) := by
  simp [layerPopWork, hc, hstack, topLayer, hheld, refuse]

theorem layerPop_pops {p : Port} {c : Nat} {s : State} (h : s.takes p) (hc : isChannel c = true) {below : List Layer}
    {l : Layer} (hstack : (s.channel c).stack = below ++ [l])
    (hfree : ¬ (l.kind = .window ∧ l.origin = .input ∧ s.windowContact c = true)) :
    ∃ t, exec (.layerPop p c) s = .next t ∧ s.replied t p 0x14 (.done {} l.bytes) [] ∧
      t = { s with channels := t.channels, claim := s.keptAlive p, main := t.main, service := t.service } ∧
      t.channel c = { s.channel c with stack := below } ∧ ∀ d, d ≠ c → t.channel d = s.channel d := by
  obtain ⟨h1, h2⟩ := channel_inside (s := s) (c := c) (by simp [hstack])
  have hheld : (s.met p).windowHeld c l = false := by
    rw [windowHeld_eq, met_windowContact]; simpa [and_assoc] using hfree
  have hwork : (layerPopRequest c).work (s.met p) = ((s.met p).setStack c below, .done {} l.bytes) :=
    layerPopWork_pops hc (by rwa [met_channel]) hheld
  obtain ⟨hreplied, hframe, hchannel⟩ := requestEvent_channels h hwork rfl rfl nofun
  refine ⟨_, rfl, hreplied, hframe, ?_, fun d hd => ?_⟩
  · rw [hchannel, channel_setStack_same _ _ _ h1 (by simpa using h2), met_channel]
  · rw [hchannel, channel_setStack_other _ _ _ _ hd, met_channel]

theorem layerPop_refuses {p : Port} {c : Nat} {s : State} (h : s.takes p) (hc : isChannel c = true)
    (hstack : (s.channel c).stack = [] ∨ ∃ below l, (s.channel c).stack = below ++ [l] ∧ l.kind = .window ∧
      l.origin = .input ∧ s.windowContact c = true) : refusesWith (.layerPop p c) p 0x14 (.refused .state) s := by
  refine ⟨_, rfl, requestEvent_refused p (layerPopRequest c) s (.refused .state) h rfl nofun ?_⟩
  rcases hstack with hstack | ⟨below, l, hstack, hkind, horigin, hcontact⟩
  · exact layerPopWork_empty hc (by rwa [met_channel])
  · exact layerPopWork_held hc (by rwa [met_channel]) (by simp [windowHeld_eq, hkind, horigin, hcontact])

/-! ## LAYER-CLEAR (R32) -/

theorem maskInRange_iff (mask : BitVec 24) : maskInRange mask = true ↔ mask ≠ 0 ∧ mask.toNat < 2 ^ 17 := by
  simp [maskInRange]

theorem maskChannels_nodup (mask : BitVec 24) : (maskChannels mask).Nodup := (numbers_nodup 17).filter _

theorem mem_maskChannels {mask : BitVec 24} {c : Nat} (h : c ∈ maskChannels mask) : 1 ≤ c ∧ c ≤ 17 :=
  (mem_numbers 17 c).mp (List.mem_filter.mp h).1

theorem clearStack_other (s : State) (c d : Nat) (h : d ≠ c) : (s.clearStack c).channel d = s.channel d :=
  channel_setStack_other _ _ _ _ h

theorem clearStacks_channel (s : State) {cs : List Nat} (hcs : cs.Nodup) {c : Nat} (hc : c ∈ cs) :
    (cs.foldl State.clearStack s).channel c =
      { s.channel c with stack := (s.channel c).stack.filter (s.windowHeld c) } :=
  foldl_read (fun u => u.cfg = s.cfg ∧ u.field = s.field) State.channel State.clearStack
    (fun c r => { r with stack := r.stack.filter (s.windowHeld c) }) cs hcs (fun _ _ _ h => h)
    (fun u c _ ⟨hcfg, hfield⟩ => by
      have hheld : u.windowHeld c = s.windowHeld c := by
        funext l; rw [windowHeld_eq, windowHeld_eq, windowContact_congr c hcfg hfield]
      rw [State.clearStack, channel_setStack_filter, hheld])
    clearStack_other s ⟨rfl, rfl⟩ c hc

theorem layerClear_clears {p : Port} {mask : BitVec 24} {s : State} (h : s.takes p) (hmask : maskInRange mask = true) :
    ∃ t, exec (.layerClear p mask) s = .next t ∧ s.replied t p 0x15 (.done {} []) [] ∧
      t = { s with channels := t.channels, claim := s.keptAlive p, main := t.main, service := t.service } ∧
      (∀ c ∈ maskChannels mask, t.channel c = { s.channel c with
        stack := (s.channel c).stack.filter fun l =>
          l.kind == .window && l.origin == .input && s.windowContact c }) ∧
      ∀ c, c ∉ maskChannels mask → t.channel c = s.channel c := by
  have hwork : (layerClearRequest mask).work (s.met p) =
      ((maskChannels mask).foldl State.clearStack (s.met p), .done {} []) := by
    simp [layerClearRequest, layerClearWork, hmask, done]
  obtain ⟨hreplied, hframe, hchannel⟩ := requestEvent_channels h hwork (foldl_channels _ (fun _ _ => rfl) _ _)
    rfl nofun
  refine ⟨_, rfl, hreplied, hframe, fun c hc => ?_, fun c hc => ?_⟩
  · have hheld : (s.met p).windowHeld c = fun l => l.kind == .window && l.origin == .input && s.windowContact c := by
      funext l; rw [windowHeld_eq, met_windowContact]
    rw [hchannel, clearStacks_channel _ (maskChannels_nodup mask) hc, met_channel, hheld]
  · rw [hchannel, foldl_read_other State.channel State.clearStack clearStack_other _ c hc, met_channel]

/-! ## HOLD-RELEASE (R30) -/

/-- What does not satisfy `p` is passed over. -/
theorem releaseFirst_append (p : Layer → Bool) (f : Layer → Option Layer) {x : List Layer} (h : ∀ l ∈ x, p l = false)
    (y : List Layer) : releaseFirst p f (x ++ y) = x ++ releaseFirst p f y := by
  induction x with
  | nil => rfl
  | cons l x ih =>
    obtain ⟨hl, hx⟩ := List.forall_mem_cons.mp h
    simp [releaseFirst, hl, ih hx]

/-- The topmost HOLD layer is released in its place (R30). -/
theorem releaseHold_split (n : Nat) (below above : List Layer) (l : Layer) (hl : l.kind = .hold)
    (habove : ∀ x ∈ above, x.kind ≠ .hold) :
    releaseHold n (below ++ l :: above) = below ++ (Layer.released n l).toList ++ above := by
  have h := releaseFirst_append (·.kind == .hold) (Layer.released n) (x := above.reverse)
    (fun x hx => by simpa using habove x (List.mem_reverse.mp hx)) (l :: below.reverse)
  have htop : releaseFirst (·.kind == .hold) (Layer.released n) (l :: below.reverse) =
      (Layer.released n l).toList ++ below.reverse := by simp [releaseFirst, hl]
  have hrev : (Layer.released n l).toList.reverse = (Layer.released n l).toList := by cases Layer.released n l <;> rfl
  rw [releaseHold, List.reverse_append, List.reverse_cons, List.append_assoc, List.singleton_append, h, htop]
  simp [hrev]

theorem released_clamped (n : Nat) (l : Layer) : (Layer.released (min n 1440) l).toList =
    if n = 0 then [] else [{ l with kind := .timed, remaining := some (min n 1440) }] := by
  unfold Layer.released
  by_cases h : n = 0
  · simp [h]
  · rw [if_neg (by omega), if_neg h]; rfl

theorem holdReleaseWork_releases {s : State} {c : Nat} (n : Nat) (hc : isChannel c = true) (hparked : s.parked c = false)
    (hhold : (s.channel c).stack.any (·.kind == .hold) = true) :
    holdReleaseWork c n s = (s.setStack c (releaseHold (min n 1440) (s.channel c).stack),
      .done { clamped := decide (1440 < n) } []) := by
  simp only [holdReleaseWork, hc, hparked, hhold]; rfl

theorem holdReleaseWork_refused {s : State} {c : Nat} (n : Nat) (hc : isChannel c = true)
    (h : s.parked c = true ∨ (s.channel c).stack.any (·.kind == .hold) = false) :
    holdReleaseWork c n s = (s, .refused .state) := by
  have h : s.parked c = true ∨ ¬ (s.channel c).stack.any (·.kind == .hold) = true := by simpa using h
  simp only [holdReleaseWork, hc, if_pos h, refuse]; rfl

theorem holdRelease_releases {p : Port} {c n : Nat} {s : State} (h : s.takes p) (hc : isChannel c = true)
    {below above : List Layer} {l : Layer} (hstack : (s.channel c).stack = below ++ l :: above) (hl : l.kind = .hold)
    (habove : ∀ x ∈ above, x.kind ≠ .hold) (hopen : s.parked c = false) :
    ∃ t, exec (.holdRelease p c n) s = .next t ∧
      s.replied t p 0x16 (.done { clamped := decide (1440 < n) } []) [] ∧
      t = { s with channels := t.channels, claim := s.keptAlive p, main := t.main, service := t.service } ∧
      t.channel c = { s.channel c with
        stack := below ++ (if n = 0 then [] else [{ l with kind := .timed, remaining := some (min n 1440) }])
          ++ above } ∧
      ∀ d, d ≠ c → t.channel d = s.channel d := by
  obtain ⟨h1, h2⟩ := channel_inside (s := s) (c := c) (by simp [hstack])
  have hwork := holdReleaseWork_releases (s := s.met p) n hc (by simpa using hopen) (by simp [hstack, hl])
  rw [met_channel, hstack, releaseHold_split _ _ _ _ hl habove, released_clamped] at hwork
  obtain ⟨hreplied, hframe, hchannel⟩ := requestEvent_channels (r := holdReleaseRequest c n) h hwork rfl rfl nofun
  refine ⟨_, rfl, hreplied, hframe, ?_, fun d hd => ?_⟩
  · rw [hchannel, channel_setStack_same _ _ _ h1 (by simpa using h2), met_channel]
  · rw [hchannel, channel_setStack_other _ _ _ _ hd, met_channel]

theorem holdRelease_refuses {p : Port} {c n : Nat} {s : State} (h : s.takes p) (hc : isChannel c = true)
    (hno : s.parked c = true ∨ ∀ l ∈ (s.channel c).stack, l.kind ≠ .hold) :
    refusesWith (.holdRelease p c n) p 0x16 (.refused .state) s :=
  ⟨_, rfl, requestEvent_refused p (holdReleaseRequest c n) s (.refused .state) h rfl nofun
    (holdReleaseWork_refused n hc (by simpa using hno))⟩

/-- Settles O18: each of the three requests, where it acts and where it is refused. -/
theorem layersArePoppedClearedAndReleased : Obligations.LayersArePoppedClearedAndReleased := by
  refine ⟨⟨fun p c s h h1 h2 => ?_, fun p mask s h _ => ⟨fun hne hlt => ?_, fun hout => ?_⟩⟩, fun p c n s h h1 h2 => ?_⟩
  · have hc := (isChannel_iff c).mpr ⟨h1, h2⟩
    exact ⟨fun _ _ => layerPop_pops h hc, layerPop_refuses h hc⟩
  · exact layerClear_clears h ((maskInRange_iff mask).mpr ⟨hne, hlt⟩)
  · have hmask : maskInRange mask = false := by
      rw [← Bool.not_eq_true, maskInRange_iff]; rintro ⟨hne, hlt⟩; exact hout.elim hne (by omega)
    exact ⟨_, rfl, requestEvent_refused p (layerClearRequest mask) s (.refused .range) h rfl nofun
      (by simp [layerClearRequest, layerClearWork, hmask, refuse])⟩
  · have hc := (isChannel_iff c).mpr ⟨h1, h2⟩
    exact ⟨fun _ _ _ => holdRelease_releases h hc, holdRelease_refuses h hc⟩

end Sys2Proof.Machine
end

section
/-! PROOF. What the ports keep where attention is raised (R176), for the statements that follow. -/

namespace Sys2Proof.Machine

/-- Between `s` and `t` the ports kept receiver and cursor, and their attention but for raises of these categories. -/
def State.onlyRaises (s t : State) (cs : List Category) : Prop :=
  ∀ p, (t.port p).rx = (s.port p).rx ∧ (t.port p).cursor = (s.port p).cursor ∧
    (t.port p).attn.length = (s.port p).attn.length ∧ s.attentionKept t p cs ∧
    ∀ n o, holdsObjects ((s.port p).attn.getD n none) o = true → holdsObjects ((t.port p).attn.getD n none) o = true

theorem onlyRaises_of_ports {s t : State} (cs : List Category) (hmain : t.main = s.main)
    (hservice : t.service = s.service) : s.onlyRaises t cs := fun p => by
  have hp : t.port p = s.port p := by cases p <;> assumption
  rw [hp]
  exact ⟨rfl, rfl, rfl, fun _ _ => by rw [hp], fun _ _ h => h⟩

theorem onlyRaises_refl (s : State) (cs : List Category) : s.onlyRaises s cs := onlyRaises_of_ports cs rfl rfl

theorem onlyRaises_trans {s t u : State} {cs : List Category} (h : s.onlyRaises t cs) (h' : t.onlyRaises u cs) :
    s.onlyRaises u cs := fun p =>
  have ⟨hrx, hcursor, hlen, hkept, hheld⟩ := h p
  have ⟨hrx', hcursor', hlen', hkept', hheld'⟩ := h' p
  ⟨hrx'.trans hrx, hcursor'.trans hcursor, hlen'.trans hlen, fun n hn => (hkept' n hn).trans (hkept n hn),
    fun n o ho => hheld' n o (hheld n o ho)⟩

theorem onlyRaises_mono {s t : State} {cs ds : List Category} (h : s.onlyRaises t cs) (hsub : cs ⊆ ds) :
    s.onlyRaises t ds := fun p =>
  have ⟨hrx, hcursor, hlen, hkept, hheld⟩ := h p
  ⟨hrx, hcursor, hlen, fun n hn => hkept n fun hc => hn (List.map_subset _ hsub hc), hheld⟩

/-- States that differ in nothing of their ports. -/
theorem onlyRaises_congr {s t u : State} {cs : List Category} (h : s.onlyRaises t cs) (hmain : u.main = t.main)
    (hservice : u.service = t.service) : s.onlyRaises u cs :=
  onlyRaises_trans h (onlyRaises_of_ports cs hmain hservice)

theorem onlyRaises_raise (s : State) {cs : List Category} (c : Category) (o : ObjectSet) (h : c ∈ cs) :
    s.onlyRaises (s.raise c o) cs := fun p => by
  rw [raise_port]
  exact ⟨raise_rx .., raise_cursor .., raise_attn_length .., fun n hn => by
    rw [raise_port]
    exact raise_attn_other _ _ _ _ _ _ fun e => hn (e ▸ List.mem_map_of_mem h), fun n o' => raise_holds _ _ _ _ _ _ n⟩

theorem onlyRaises_endEvent (s : State) (cs : List Category) : s.onlyRaises s.endEvent cs := fun p => by
  simp only [endEvent_port]
  exact ⟨startNext_rx _, startNext_cursor _, by rw [startNext_attn], fun n _ => by simp,
    fun n o h => by rwa [startNext_attn]⟩

theorem onlyRaises_pushTx (s : State) (p : Port) (f : TxFrame) (cs : List Category) : s.onlyRaises (s.pushTx p f) cs := by
  intro q
  have hattn : ((s.pushTx p f).port q).attn = (s.port q).attn := by rw [pushTx_port]; split <;> simp_all
  refine ⟨?_, ?_, by rw [hattn], fun n _ => by rw [hattn], fun n o h => by rwa [hattn]⟩
  all_goals rw [pushTx_port]; split <;> simp_all

theorem portsKept_of_onlyRaises {s t : State} {cs : List Category} (h : s.onlyRaises t cs) : s.portsKept t cs := fun p =>
  have ⟨hrx, hcursor, _, hkept, _⟩ := h p
  ⟨hrx, hcursor, hkept⟩

/-- What is raised stays raised. -/
theorem raised_of_onlyRaises {s t : State} {cs : List Category} (h : s.onlyRaises t cs) {p : Port} {c : Category}
    {o : ObjectSet} (ho : s.raised p c o) : t.raised p c o :=
  have ⟨_, _, _, _, hheld⟩ := h p
  (raised_iff t p c o).mpr (hheld _ _ ((raised_iff s p c o).mp ho))

theorem attn_length_of_onlyRaises {s t : State} {cs : List Category} (h : s.onlyRaises t cs) (p : Port) :
    (t.port p).attn.length = (s.port p).attn.length :=
  have ⟨_, _, hlen, _⟩ := h p
  hlen

theorem raised_raise {s : State} (p : Port) (c : Category) (o : ObjectSet) (h : (s.port p).attn.length = 16) :
    (s.raise c o).raised p c o := by
  rw [raised_iff, raise_port]
  exact raise_raises _ _ _ _ _ _ h (by simp)

theorem attn_length {s : State} (h : s.shaped) (p : Port) : (s.port p).attn.length = 16 :=
  have ⟨_, _, _, _, _, _, _, _, _, _, _, hattn⟩ := h
  hattn p

@[simp] theorem met_attn (s : State) (p q : Port) : ((s.met p).port q).attn = (s.port q).attn := by
  rw [met_port]; split
  · next h => rw [h]
  · rfl

/-- A fold of steps that only raise these categories only raises them. -/
theorem onlyRaises_foldl {α : Type} (cs : List Category) (f : State → α → State) (l : List α)
    (h : ∀ (u : State) a, a ∈ l → u.onlyRaises (f u a) cs) (s : State) : s.onlyRaises (l.foldl f s) cs :=
  foldl_induct (s.onlyRaises · cs) f l (fun (u : State) a ha hu => onlyRaises_trans hu (h u a ha)) s (onlyRaises_refl s cs)

/-- A request that is served and whose work only raises these categories is answered; what its work raised is raised. -/
theorem requestEvent_worked {p : Port} {r : Request} {s t : State} {body : ReplyBody} {cs : List Category}
    (h : s.takes p) (hwork : r.work (s.met p) = (t, body)) (ht : (s.met p).onlyRaises t cs)
    (hknown : r.known = true) (hstored : r.stored = true → s.storeWriting = false) :
    s.replied (requestEvent p r s) p r.kind body cs ∧
      requestEvent p r s = (t.pushTx p (.served ⟨r.kind, body⟩)).endEvent ∧ t.onlyRaises (requestEvent p r s) cs := by
  have hreplied := requestEvent_replied p r s cs h hknown hstored fun q => by
    rw [hwork]
    obtain ⟨hrx, hcursor, -, hkept, -⟩ := ht q
    exact ⟨hrx, hcursor, hkept⟩
  have hend := requestEvent_served p r s h hknown hstored
  rw [hwork] at hreplied hend
  refine ⟨hreplied, hend, ?_⟩
  rw [hend]
  exact onlyRaises_trans (onlyRaises_pushTx t p _ cs) (onlyRaises_endEvent _ cs)

end Sys2Proof.Machine
end

section
/-! PROOF. Layers placed on the channels of a mask (O17). -/

namespace Sys2Proof.Machine

/-! ## Placing (R26) -/

theorem makeRoom_full {s : State} {c : Nat} (h : 4 ≤ (s.channel c).stack.length) :
    s.makeRoom c = (s.setStack c (s.channel c).stack.tail).raise .stack (object c) := by
  simp [State.makeRoom, stackFull, h]

theorem makeRoom_free {s : State} {c : Nat} (h : ¬ 4 ≤ (s.channel c).stack.length) : s.makeRoom c = s := by
  simp [State.makeRoom, stackFull, h]

theorem roomMade_eq (x : List Layer) : roomMade x = if 4 ≤ x.length then x.tail else x := by
  simp [roomMade, stackFull]

theorem makeRoom_onlyRaises (s : State) (c : Nat) {cs : List Category} (hcs : .stack ∈ cs) :
    s.onlyRaises (s.makeRoom c) cs := by
  unfold State.makeRoom; dsimp only; split
  · exact onlyRaises_trans (onlyRaises_of_ports cs rfl rfl) (onlyRaises_raise (s.setStack c _) .stack _ hcs)
  · exact onlyRaises_refl s cs

theorem placeLayer_onlyRaises (s : State) (c : Nat) (l : Layer) {cs : List Category} (hcs : .stack ∈ cs) :
    s.onlyRaises (s.placeLayer c l) cs :=
  onlyRaises_congr (makeRoom_onlyRaises s c hcs) rfl rfl

theorem makeRoom_channel_other (s : State) (c d : Nat) (h : d ≠ c) : (s.makeRoom c).channel d = s.channel d := by
  by_cases hfull : 4 ≤ (s.channel c).stack.length
  · rw [makeRoom_full hfull, raise_channel, channel_setStack_other _ _ _ _ h]
  · rw [makeRoom_free hfull]

@[simp] theorem makeRoom_channels_length (s : State) (c : Nat) : (s.makeRoom c).channels.length = s.channels.length := by
  unfold State.makeRoom; dsimp only; split <;> simp [length_setItem]

theorem makeRoom_plan (s : State) (c : Nat) : ((s.makeRoom c).channel c).plan = (s.channel c).plan := by
  by_cases hfull : 4 ≤ (s.channel c).stack.length
  · obtain ⟨h1, h2⟩ := channel_inside (s := s) (c := c) (by intro h; simp [h] at hfull)
    rw [makeRoom_full hfull, raise_channel, channel_setStack_same _ _ _ h1 h2]
  · rw [makeRoom_free hfull]

theorem placeLayer_channel_other (s : State) (c d : Nat) (l : Layer) (h : d ≠ c) :
    (s.placeLayer c l).channel d = s.channel d := by
  rw [State.placeLayer, channel_setStack_other _ _ _ _ h, makeRoom_channel_other s c d h]

theorem placeLayer_channel_same (s : State) (c : Nat) (l : Layer) (h1 : 1 ≤ c) (h2 : c ≤ s.channels.length) :
    (s.placeLayer c l).channel c = { s.channel c with stack := layerPlaced (roomMade (s.channel c).stack) l } := by
  rw [State.placeLayer, channel_setStack_same _ _ _ h1 (by simpa using h2), makeRoom_stack]
  simp [makeRoom_plan]

@[simp] theorem placeLayer_channels_length (s : State) (c : Nat) (l : Layer) :
    (s.placeLayer c l).channels.length = s.channels.length := by simp [State.placeLayer, length_setItem]

theorem placeLayer_raises {s : State} {c : Nat} (l : Layer) (h : 4 ≤ (s.channel c).stack.length) (p : Port)
    (hattn : (s.port p).attn.length = 16) : (s.placeLayer c l).raised p .stack (object c) := by
  have hroom : (s.makeRoom c).raised p .stack (object c) := by
    rw [makeRoom_full h]; exact raised_raise p _ _ (by simpa [State.port] using hattn)
  exact raised_of_onlyRaises (onlyRaises_of_ports [] rfl rfl) hroom

/-! ## Layers placed one after the other -/

/-- The state with a layer placed on each of some channels (R25). -/
def State.placeLayers (s : State) (l : Nat → Layer) (cs : List Nat) : State := cs.foldl (fun t c => t.placeLayer c (l c)) s

theorem placeLayers_onlyRaises (s : State) (l : Nat → Layer) (cs : List Nat) :
    s.onlyRaises (s.placeLayers l cs) [.stack] :=
  onlyRaises_foldl [.stack] _ cs (fun u c _ => placeLayer_onlyRaises u c (l c) (List.mem_singleton_self _)) s

theorem placeLayers_channel_other (s : State) (l : Nat → Layer) {cs : List Nat} {c : Nat} (h : c ∉ cs) :
    (s.placeLayers l cs).channel c = s.channel c :=
  foldl_read_other State.channel (fun t c => t.placeLayer c (l c)) (fun u c d => placeLayer_channel_other u c d (l c)) cs c h s

theorem placeLayers_channel (s : State) (l : Nat → Layer) {cs : List Nat} (hcs : cs.Nodup)
    (hin : ∀ c ∈ cs, 1 ≤ c ∧ c ≤ s.channels.length) {c : Nat} (h : c ∈ cs) :
    (s.placeLayers l cs).channel c = { s.channel c with stack := layerPlaced (roomMade (s.channel c).stack) (l c) } :=
  foldl_read (fun u => u.channels.length = s.channels.length) State.channel (fun t c => t.placeLayer c (l c))
    (fun c r => { r with stack := layerPlaced (roomMade r.stack) (l c) }) cs hcs
    (fun u c _ hu => (placeLayer_channels_length u c (l c)).trans hu)
    (fun u c hc hu => placeLayer_channel_same u c (l c) (hin c hc).1 (hu ▸ (hin c hc).2))
    (fun u c d => placeLayer_channel_other u c d (l c)) s rfl c h

/-- The layers placed on other channels leave a full stack full till its turn comes, and what it raises raised. -/
theorem placeLayers_raises {s : State} (l : Nat → Layer) {cs : List Nat} (hcs : cs.Nodup) {c : Nat} (h : c ∈ cs)
    (hfull : 4 ≤ (s.channel c).stack.length) (p : Port) (hattn : (s.port p).attn.length = 16) :
    (s.placeLayers l cs).raised p .stack (object c) := by
  obtain ⟨before, after, rfl⟩ := List.append_of_mem h
  have hc : c ∉ before := fun hc => (List.nodup_append.mp hcs).2.2 c hc c List.mem_cons_self rfl
  have hstep : (((s.placeLayers l before).placeLayer c (l c)).raised p .stack (object c)) :=
    placeLayer_raises (l c) (by rwa [placeLayers_channel_other s l hc]) p
      (by rw [attn_length_of_onlyRaises (placeLayers_onlyRaises s l before) p, hattn])
  rw [State.placeLayers, List.foldl_append, List.foldl_cons]
  exact raised_of_onlyRaises (placeLayers_onlyRaises _ l after) hstep

@[simp] theorem placeLayers_keeps (s : State) (l : Nat → Layer) (cs : List Nat) :
    (s.placeLayers l cs).clock = s.clock ∧ (s.placeLayers l cs).cfg = s.cfg ∧ (s.placeLayers l cs).store = s.store ∧
    (s.placeLayers l cs).claim = s.claim ∧ (s.placeLayers l cs).zones = s.zones ∧
    (s.placeLayers l cs).wRequest = s.wRequest ∧ (s.placeLayers l cs).table = s.table ∧
    (s.placeLayers l cs).heads = s.heads ∧ (s.placeLayers l cs).link = s.link ∧
    (s.placeLayers l cs).arbiter = s.arbiter ∧ (s.placeLayers l cs).boiler = s.boiler ∧
    (s.placeLayers l cs).field = s.field ∧ (s.placeLayers l cs).restartPending = s.restartPending ∧
    (s.placeLayers l cs).acting = s.acting ∧ (s.placeLayers l cs).pending = s.pending := by
  have h := foldl_keeps (fun t c => t.placeLayer c (l c)) (fun u : State => { u with channels := [], main := s.main, service := s.service })
    (by intro u c; simp) cs s
  simpa [State.placeLayers] using h

/-! ## LAYER-PUSH (R25) -/

@[simp] theorem met_channelCfg (s : State) (p : Port) (c : Nat) : (s.met p).channelCfg c = s.channelCfg c := by
  simp [State.channelCfg]

/-- A push clamps on some channel where one that it clamps is open. -/
theorem isEmpty_filter_eq_any (p : Nat → Bool) (l : List Nat) : (!(l.filter p).isEmpty) = l.any p := by
  induction l with
  | nil => rfl
  | cons a l ih => by_cases h : p a <;> simp [h, ← ih]

/-- The channels of the mask that are open (R25, R42). -/
def State.openChannels (s : State) (mask : BitVec 24) : List Nat := (maskChannels mask).filter fun c => !s.parked c

theorem mem_openChannels {s : State} {mask : BitVec 24} {c : Nat} :
    c ∈ s.openChannels mask ↔ c ∈ maskChannels mask ∧ s.parked c = false := by simp [State.openChannels]

@[simp] theorem met_openChannels (s : State) (p : Port) (mask : BitVec 24) :
    (s.met p).openChannels mask = s.openChannels mask := by simp [State.openChannels]

/-- The reply of a push that is served (R25, log 8). -/
def State.pushReply (s : State) (mask : BitVec 24) (kind : LayerKind) (x : Temp) (dur : Nat) : ReplyBody :=
  .done { clamped := (s.openChannels mask).any fun c => s.pushClamps c kind x dur }
    (channelSetOf ((maskChannels mask).filter s.parked) ++
      channelSetOf ((maskChannels mask).filter fun c => !s.parked c && s.pushClamps c kind x dur) ++
      channelSetOf ((maskChannels mask).filter fun c => !s.parked c && decide (4 ≤ (s.channel c).stack.length)))

theorem layerPushWork_places {p : Port} {mask : BitVec 24} {code : Nat} {kind : LayerKind} {x : Temp} {dur : Nat}
    {s : State} (hcode : LayerKind.ofCode code = some kind) (hkind : kind ≠ .window) (hmask : maskInRange mask = true)
    (hopen : s.openChannels mask ≠ []) :
    layerPushWork p mask code x dur s =
      (s.placeLayers (fun c => s.pushedLayer c kind (portOrigin p) x dur) (s.openChannels mask),
        s.pushReply mask kind x dur) := by
  have hnot : ¬ (s.openChannels mask).isEmpty = true := by simpa using hopen
  cases kind
  case window => exact absurd rfl hkind
  all_goals
    simp only [State.openChannels] at hnot
    simp only [layerPushWork, hcode, hmask, not_true_eq_false, if_false, if_neg hnot, isEmpty_filter_eq_any,
      List.any_filter, List.filter_filter, Bool.and_comm, State.pushReply, State.placeLayers, State.openChannels, stackFull]

theorem portOrigin_eq (p : Port) : portOrigin p = if p = .main then .main else .service := by cases p <;> rfl

theorem pushedLayer_eq (s : State) (c : Nat) (kind : LayerKind) (p : Port) (x : Temp) (dur : Nat) :
    s.pushedLayer c kind (portOrigin p) x dur =
      { kind, setpoint := some (clamp (s.channelCfg c).frost (s.channelCfg c).limit x)
        remaining := if kind = .timed then some (clampNat 1 1440 dur) else none
        origin := if p = .main then .main else .service } := by rw [← portOrigin_eq]; rfl

theorem met_pushedLayer (s : State) (q : Port) (c : Nat) (kind : LayerKind) (o : Origin) (x : Temp) (dur : Nat) :
    (s.met q).pushedLayer c kind o x dur = s.pushedLayer c kind o x dur := by simp [State.pushedLayer]

theorem met_pushReply (s : State) (q : Port) (mask : BitVec 24) (kind : LayerKind) (x : Temp) (dur : Nat) :
    (s.met q).pushReply mask kind x dur = s.pushReply mask kind x dur := by
  have hparked : (s.met q).parked = s.parked := funext (met_parked s q)
  simp [State.pushReply, State.pushClamps, hparked]

theorem layerPush_places {p : Port} {mask : BitVec 24} {code : Nat} {kind : LayerKind} {x : Temp} {dur : Nat} {s : State}
    (h : s.takes p) (hshape : s.shaped) (hcode : LayerKind.ofCode code = some kind) (hkind : kind ≠ .window)
    (hmask : maskInRange mask = true) (hopen : s.openChannels mask ≠ []) :
    ∃ t, exec (.layerPush p mask code x dur) s = .next t ∧
      t = { s with channels := t.channels, claim := s.keptAlive p, main := t.main, service := t.service } ∧
      s.replied t p 0x13 (s.pushReply mask kind x dur) [.stack] ∧
      (∀ c ∈ s.openChannels mask,
        t.channel c = { s.channel c with
          stack := layerPlaced (roomMade (s.channel c).stack) (s.pushedLayer c kind (portOrigin p) x dur) } ∧
        (4 ≤ (s.channel c).stack.length → ∀ q, t.raised q .stack (object c))) ∧
      ∀ c, c ∉ s.openChannels mask → t.channel c = s.channel c := by
  have hlen := channels_length hshape
  have hnodup : (s.openChannels mask).Nodup := (maskChannels_nodup mask).filter _
  have hin : ∀ c ∈ s.openChannels mask, 1 ≤ c ∧ c ≤ (s.met p).channels.length := fun c hc => by
    simpa [hlen] using mem_maskChannels (mem_openChannels.mp hc).1
  have hwork := layerPushWork_places (p := p) (x := x) (dur := dur) (s := s.met p) hcode hkind hmask (by simpa using hopen)
  simp only [met_openChannels, met_pushReply, met_pushedLayer] at hwork
  obtain ⟨hreplied, hend, hraises⟩ := requestEvent_worked (r := layerPushRequest p mask code x dur) h hwork
    (placeLayers_onlyRaises _ _ _) rfl nofun
  refine ⟨_, rfl, ?_, hreplied, fun c hc => ⟨?_, fun hfull q => ?_⟩, fun c hc => ?_⟩
  · rw [hend]; exact state_ext
  · rw [hend, endEvent_channel, pushTx_channel, placeLayers_channel _ _ hnodup hin hc, met_channel]
  · exact raised_of_onlyRaises hraises (placeLayers_raises _ hnodup hc (by rwa [met_channel]) q (by
      rw [met_attn]; exact attn_length hshape q))
  · rw [hend, endEvent_channel, pushTx_channel, placeLayers_channel_other _ _ hc, met_channel]

theorem layerPushWork_range {p : Port} {mask : BitVec 24} {code : Nat} {x : Temp} {dur : Nat} (s : State)
    (h : 2 < code ∨ maskInRange mask = false) : layerPushWork p mask code x dur s = (s, .refused .range) := by
  unfold layerPushWork
  split
  · rfl
  · rfl
  next kind hkind hcode =>
  have hlow : ¬ 2 < code := fun hlow => by
    rcases Nat.lt_or_ge 3 code with h3 | h3
    · obtain ⟨n, rfl⟩ := Nat.exists_eq_add_of_lt h3
      rw [show 3 + n + 1 = n + 4 by omega] at hcode; cases hcode
    · obtain rfl : code = 3 := by omega
      cases hcode; exact hkind rfl
  rw [if_pos (by simp [h.resolve_left hlow])]; rfl

theorem layerPushWork_parked {p : Port} {mask : BitVec 24} {code : Nat} {x : Temp} {dur : Nat} {s : State}
    (hcode : code ≤ 2) (hmask : maskInRange mask = true) (h : s.openChannels mask = []) :
    layerPushWork p mask code x dur s = (s, .refused .state) := by
  have hempty : (List.filter (fun c => !s.parked c) (maskChannels mask)).isEmpty = true := by
    simpa [State.openChannels] using h
  unfold layerPushWork
  split
  next hnone => interval_cases code <;> cases hnone
  next hwindow => interval_cases code <;> cases hwindow
  next kind _ _ =>
  rw [if_neg (by simp [hmask])]
  exact if_pos hempty

/-- Settles O17: where the push is served it places as `layerPush_places` says; its refusals go by kind and mask, then by
the parked zones. -/
theorem layerPushPlacesOnOpenChannels : Obligations.LayerPushPlacesOnOpenChannels := by
  intro p mask code x dur s h hshape
  refine ⟨fun kind hcode hkind hne hlt ⟨c, hc, hopen⟩ => ?_, fun hout => ?_, fun hcode hne hlt hparked => ?_⟩
  · have hmask := (maskInRange_iff mask).mpr ⟨hne, hlt⟩
    obtain ⟨t, hexec, hframe, hreplied, hnamed, hothers⟩ := layerPush_places (x := x) (dur := dur) h hshape hcode hkind
      hmask (List.ne_nil_of_mem (mem_openChannels.mpr ⟨hc, hopen⟩))
    refine ⟨t, hexec, hframe, hreplied, fun c hc hopen => ?_, fun c hc => hothers c ?_⟩
    · obtain ⟨hchannel, hraised⟩ := hnamed c (mem_openChannels.mpr ⟨hc, hopen⟩)
      rw [pushedLayer_eq, roomMade_eq] at hchannel
      exact ⟨hchannel, hraised⟩
    · rw [mem_openChannels]
      rintro ⟨hnamed, hopen⟩
      exact hc.elim (absurd hnamed) (by simp [hopen])
  · refine ⟨_, rfl, requestEvent_refused p (layerPushRequest p mask code x dur) s (.refused .range) h rfl nofun
      (layerPushWork_range _ (hout.imp_right fun hmask => ?_))⟩
    rw [← Bool.not_eq_true, maskInRange_iff]
    rintro ⟨hne, hlt⟩
    exact hmask.elim hne (by omega)
  · exact ⟨_, rfl, requestEvent_refused p (layerPushRequest p mask code x dur) s (.refused .state) h rfl nofun
      (layerPushWork_parked hcode ((maskInRange_iff mask).mpr ⟨hne, hlt⟩) (by simpa [State.openChannels] using hparked))⟩

end Sys2Proof.Machine
end

section
/-! PROOF. What settling keeps (log 4): the inputs of the controller and of the flow setpoint, the requests of the
consumer table, the wanted targets of the zones' slots (O19, O21). -/

namespace Sys2Proof.Machine

/-! ## The consumer table judged again (R70, R71) -/

theorem servedLevelOf_judged (n : Nat) (w : Bool) (es : List Consumer) :
    servedLevelOf (es.map (Consumer.judged n w)) = servedLevelOf es := by
  simp only [servedLevelOf, List.foldl_map]; rfl

/-- The flags are judged from request and level alone, which judging keeps. -/
theorem judged_judged (t : ConsumerTable) (w v : Bool) : (t.judged w).judged v = t.judged v := by
  simp only [ConsumerTable.judged, servedLevelOf_judged, List.map_map]; rfl

theorem judged_servedLevel (t : ConsumerTable) (w v : Bool) : (t.judged w).servedLevel = (t.judged v).servedLevel := rfl

/-- A consumer of a table that is judged. -/
theorem consumer_judged {s t : State} {w : Bool} (h : t.table = s.table.judged w) (c : Nat) :
    t.consumer c = (s.consumer c).judged (servedLevelOf s.table.entries) w := by
  rw [State.consumer, h]
  exact item_map _ s.table.entries c .initial

theorem judged_any_requesting (t : ConsumerTable) (w : Bool) :
    (t.judged w).entries.any (·.requesting) = t.entries.any (·.requesting) := by
  simp only [ConsumerTable.judged, List.any_map]; rfl

/-! ## The relation -/

/-- What settling, and each thing it does, leaves as it is from `s` to `t`; a grant lets no committed position rise. -/
structure State.SettlesTo (s t : State) : Prop where
  clock : t.clock = s.clock
  cfg : t.cfg = s.cfg
  channels : t.channels = s.channels
  zones : t.zones = s.zones
  inputs : t.field.inputs = s.field.inputs
  flow : t.field.flow = s.field.flow
  outdoor : t.field.outdoor = s.field.outdoor
  fault : t.link.fault = s.link.fault
  committed : ∀ v, (t.head v).committed ≤ (s.head v).committed
  table : t.table = s.table ∨ ∃ w, t.table = s.table.judged w
  wanted : ∀ v k dump, (s.valveCfg v).role = .zone k dump → t.wantedOf v = s.wantedOf v
  ports : s.onlyRaises t [.boiler, .capacity, .sink]

namespace State.SettlesTo

theorem refl (s : State) : s.SettlesTo s :=
  ⟨rfl, rfl, rfl, rfl, rfl, rfl, rfl, rfl, fun _ => le_rfl, .inl rfl, fun _ _ _ _ => rfl, onlyRaises_refl s _⟩

theorem trans {s t u : State} (h : s.SettlesTo t) (h' : t.SettlesTo u) : s.SettlesTo u where
  clock := h'.clock.trans h.clock
  cfg := h'.cfg.trans h.cfg
  channels := h'.channels.trans h.channels
  zones := h'.zones.trans h.zones
  inputs := h'.inputs.trans h.inputs
  flow := h'.flow.trans h.flow
  outdoor := h'.outdoor.trans h.outdoor
  fault := h'.fault.trans h.fault
  committed := fun v => (h'.committed v).trans (h.committed v)
  table := by
    rcases h'.table with ht' | ⟨w', ht'⟩
    · rw [ht']; exact h.table
    · rcases h.table with ht | ⟨w, ht⟩
      · exact .inr ⟨w', by rw [ht', ht]⟩
      · exact .inr ⟨w', by rw [ht', ht, judged_judged]⟩
  wanted := fun v k dump hv =>
    (h'.wanted v k dump (by rw [State.valveCfg, h.cfg]; exact hv)).trans (h.wanted v k dump hv)
  ports := onlyRaises_trans h.ports h'.ports

end State.SettlesTo

/-! ## What settling is made of -/

theorem settlesTo_setBoiler (s : State) (b : Boiler) : s.SettlesTo (s.setBoiler b) :=
  ⟨rfl, rfl, rfl, rfl, rfl, rfl, rfl, rfl, fun _ => le_rfl, .inl rfl, fun _ _ _ _ => rfl, onlyRaises_of_ports _ rfl rfl⟩

theorem settlesTo_setQueue (s : State) (q : List Entry) : s.SettlesTo (s.setQueue q) :=
  ⟨rfl, rfl, rfl, rfl, rfl, rfl, rfl, rfl, fun _ => le_rfl, .inl rfl, fun _ _ _ _ => rfl, onlyRaises_of_ports _ rfl rfl⟩

/-- What is written of the relays and of the ramp is none of it. -/
theorem settlesTo_setField (s : State) (output : Nat) (ramp : Option Ramp) (burner pump : Bool) :
    s.SettlesTo (s.setField { s.field with output, ramp, burner, pump }) :=
  ⟨rfl, rfl, rfl, rfl, rfl, rfl, rfl, rfl, fun _ => le_rfl, .inl rfl, fun _ _ _ _ => rfl, onlyRaises_of_ports _ rfl rfl⟩

theorem settlesTo_raise (s : State) (c : Category) (o : ObjectSet) (hc : c ∈ [Category.boiler, .capacity, .sink]) :
    s.SettlesTo (s.raise c o) :=
  ⟨rfl, rfl, rfl, rfl, rfl, rfl, rfl, rfl, fun _ => le_rfl, .inl rfl, fun _ _ _ _ => rfl, onlyRaises_raise s c o hc⟩

theorem remark_settlesTo (s : State) : s.SettlesTo s.remark := settlesTo_setQueue s _

theorem setPump_settlesTo (s : State) : s.SettlesTo s.setPump := settlesTo_setField s _ _ _ _

theorem nextTransaction_settlesTo (s : State) : s.SettlesTo s.nextTransaction := by
  unfold State.nextTransaction
  have hlink (transaction : Option Transaction) (commands : List Command) :
      s.SettlesTo (s.setLink { s.link with transaction, commands }) :=
    ⟨rfl, rfl, rfl, rfl, rfl, rfl, rfl, rfl, fun _ => le_rfl, .inl rfl, fun _ _ _ _ => rfl, onlyRaises_of_ports _ rfl rfl⟩
  repeat' split
  · exact .refl s
  · exact hlink _ _
  · exact hlink _ _
  · exact .refl s

/-! ### Wanted targets formed and offered (R106, R110) -/

theorem joinDrive_wanted (s : State) (v n : Nat) (c : MoveClass) : (s.joinDrive v n c).arbiter.wanted = s.arbiter.wanted := by
  unfold State.joinDrive; split <;> rfl

theorem dropRegulated_wanted (s : State) (v : Nat) : (s.dropRegulated v).arbiter.wanted = s.arbiter.wanted := by
  unfold State.dropRegulated; split
  · split <;> rfl
  · rfl

theorem offer_wanted (s : State) (v : Nat) : (s.offer v).arbiter.wanted = s.arbiter.wanted := by
  unfold State.offer
  split
  · rfl
  split
  · rfl
  · split
    · exact joinDrive_wanted ..
    · exact dropRegulated_wanted ..
  · split
    · exact joinDrive_wanted ..
    · rfl

theorem formAndOffer_wantedOf_other (s : State) (v w : Nat) (h : w ≠ v) :
    (s.formAndOffer v).wantedOf w = s.wantedOf w := by
  rw [State.wantedOf, State.formAndOffer, offer_wanted]
  exact item_setItem_other _ _ _ _ _ h

theorem formAll_wantedOf_other (s : State) {vs : List Nat} {v : Nat} (h : v ∉ vs) :
    (s.formAll vs).wantedOf v = s.wantedOf v :=
  foldl_read_other State.wantedOf State.formAndOffer formAndOffer_wantedOf_other vs v h s

/-- Slots of no zone have their wanted targets formed. -/
theorem formAll_settlesTo (s : State) (vs : List Nat) (h : ∀ v ∈ vs, ∀ k dump, (s.valveCfg v).role ≠ .zone k dump) :
    s.SettlesTo (s.formAll vs) where
  clock := by simp
  cfg := by simp
  channels := by simp
  zones := by simp
  inputs := by simp
  flow := by simp
  outdoor := by simp
  fault := by simp
  committed v := by simp [State.head]
  table := .inl (by simp)
  wanted v k dump hv := formAll_wantedOf_other s fun hmem => h v hmem k dump hv
  ports := onlyRaises_of_ports _ (by simp) (by simp)

theorem cylinderSlots_no_zone (s : State) : ∀ v ∈ s.cylinderSlots, ∀ k dump, (s.valveCfg v).role ≠ .zone k dump := by
  intro v hv k dump h
  have hrole := (List.mem_filter.mp hv).2
  rw [h] at hrole; cases hrole

theorem sinkSlots_no_zone (s : State) : ∀ v ∈ s.sinkSlots, ∀ k dump, (s.valveCfg v).role ≠ .zone k dump := by
  intro v hv k dump h
  have hrole := (List.mem_filter.mp hv).2
  rw [h] at hrole; cases hrole

theorem judgeTable_table (s : State) : s.judgeTable.table = s.table.judged s.boiler.state.warm := by
  unfold State.judgeTable; dsimp only; split <;> simp

theorem judgeTable_settlesTo (s : State) : s.SettlesTo s.judgeTable := by
  have ht : s.SettlesTo (s.setTable (s.table.judged s.boiler.state.warm)) :=
    ⟨rfl, rfl, rfl, rfl, rfl, rfl, rfl, rfl, fun _ => le_rfl, .inr ⟨_, rfl⟩, fun _ _ _ _ => rfl, onlyRaises_of_ports _ rfl rfl⟩
  unfold State.judgeTable; dsimp only; split
  · exact ht
  · exact ht.trans (formAll_settlesTo _ _ (cylinderSlots_no_zone _))

theorem setSinkOpen_settlesTo (s : State) (b : Bool) : s.SettlesTo (s.setSinkOpen b) := by
  have hopen : s.SettlesTo (s.setArbiter { s.arbiter with sinkOpen := b }) :=
    ⟨rfl, rfl, rfl, rfl, rfl, rfl, rfl, rfl, fun _ => le_rfl, .inl rfl, fun _ _ _ _ => rfl, onlyRaises_of_ports _ rfl rfl⟩
  unfold State.setSinkOpen; split
  · exact .refl s
  · exact hopen.trans (formAll_settlesTo _ _ (sinkSlots_no_zone _))

/-! ### Grants (R92, R117 to R119) -/

/-- The entry an arbiter grants moves the head from where it stands, or homes it. -/
theorem granted_committed_le {h : Head} {e : Entry} (stroke : Nat) (htakes : headTakes h.state e.op = true) :
    (h.granted e stroke).committed ≤ h.committed := by
  cases hop : e.op with
  | home => simp [Head.granted, Head.committed, hop, MoveOp.headState]
  | drive =>
    have hready : h.state = .ready := by simpa [hop, headTakes] using htakes
    simp [Head.granted, Head.committed, hop, MoveOp.headState, hready]

theorem grant_settlesTo {s : State} {e : Entry} (h : s.nextGrant = some e) : s.SettlesTo (s.grant e) where
  clock := by simp
  cfg := by simp
  channels := by simp
  zones := by simp
  inputs := by simp
  flow := by simp
  outdoor := by simp
  fault := rfl
  committed v := by
    obtain ⟨-, -, hel⟩ := nextGrant_some s e h
    obtain ⟨-, -, htakes, -, -⟩ := eligible_spec s e hel
    by_cases hv : v = e.slot
    · subst hv
      by_cases hin : 1 ≤ e.slot ∧ e.slot ≤ s.heads.length
      · rw [grant_head_same s e hin.1 hin.2]
        exact granted_committed_le _ htakes
      · have hkeep : (s.grant e).head e.slot = s.head e.slot :=
          congrArg (item · e.slot Head.initial) (setItem_outside s.heads e.slot _ (by omega))
        rw [hkeep]
    · rw [grant_head_other s e v hv]
  table := .inl (by simp)
  wanted _ _ _ _ := rfl
  ports := onlyRaises_of_ports _ (by simp) (by simp)

theorem grantRound_settlesTo (s : State) : s.SettlesTo s.grantRound :=
  grantRound_induct s.SettlesTo (fun _ _ hu he => hu.trans (grant_settlesTo he)) s (.refl s)

/-! ### The boiler's moves (R129 to R140) -/

theorem enterState_settlesTo (s : State) (b : Boiler) : s.SettlesTo (s.enterState b) :=
  (((settlesTo_setBoiler s b).trans (judgeTable_settlesTo _)).trans (remark_settlesTo _)).trans (grantRound_settlesTo _)

theorem closeSinks_settlesTo (s : State) : s.SettlesTo s.closeSinks := by
  unfold State.closeSinks; split
  · exact .refl s
  · exact setSinkOpen_settlesTo s false

theorem openSinksIfShort_settlesTo (s : State) : s.SettlesTo s.openSinksIfShort := by
  unfold State.openSinksIfShort; split
  · exact setSinkOpen_settlesTo s true
  · exact .refl s

theorem handRamp_settlesTo (s : State) (a b : Nat) : s.SettlesTo (s.handRamp a b) := by
  unfold State.handRamp; split <;> exact settlesTo_setField s _ _ _ _

theorem withFlow_settlesTo (s : State) : s.SettlesTo s.withFlow := settlesTo_setBoiler s _

theorem recomputeFlow_settlesTo (s : State) : s.SettlesTo s.recomputeFlow := by
  unfold State.recomputeFlow; dsimp only; split
  · exact (withFlow_settlesTo s).trans (handRamp_settlesTo _ _ _)
  · exact withFlow_settlesTo s

theorem enterIdle_settlesTo (s : State) : s.SettlesTo s.enterIdle :=
  (closeSinks_settlesTo s).trans (enterState_settlesTo _ _)

theorem enterRest_settlesTo (s : State) : s.SettlesTo s.enterRest :=
  (closeSinks_settlesTo s).trans (enterState_settlesTo _ _)

theorem enterLead_settlesTo (s : State) : s.SettlesTo s.enterLead :=
  ((settlesTo_setBoiler s _).trans (openSinksIfShort_settlesTo _)).trans (enterState_settlesTo _ _)

theorem enterFiring_settlesTo (s : State) : s.SettlesTo s.enterFiring :=
  ((settlesTo_setField s _ _ _ _).trans (handRamp_settlesTo _ _ _)).trans (enterState_settlesTo _ _)

theorem endHold_settlesTo (s : State) : s.SettlesTo s.endHold := by
  unfold State.endHold; split
  · exact (settlesTo_setBoiler s _).trans (withFlow_settlesTo _)
  · exact .refl s

theorem burnerOut_settlesTo (s : State) : s.SettlesTo s.burnerOut :=
  (((endHold_settlesTo s).trans (settlesTo_setField _ _ _ _ _)).trans (settlesTo_setField _ _ _ _ _)).trans
    (settlesTo_setBoiler _ _)

theorem enterOverrun_settlesTo (s : State) : s.SettlesTo s.enterOverrun :=
  (burnerOut_settlesTo s).trans (enterState_settlesTo _ _)

theorem enterFaulted_settlesTo (s : State) : s.SettlesTo s.enterFaulted := by
  have hout : s.SettlesTo (if s.boiler.state = .firing then s.burnerOut else s) := by
    split
    · exact burnerOut_settlesTo s
    · exact .refl s
  exact (hout.trans (settlesTo_raise _ .boiler _ (by simp))).trans (enterState_settlesTo _ _)

theorem leadExpiry_settlesTo (s : State) : s.SettlesTo s.leadExpiry := by
  unfold State.leadExpiry
  dsimp only
  split
  · exact settlesTo_setBoiler s _
  split
  · exact enterFiring_settlesTo s
  split
  · exact settlesTo_setBoiler s _
  · exact ((settlesTo_setBoiler s _).trans (settlesTo_raise _ .sink _ (by simp))).trans (enterRest_settlesTo _)

theorem leadMove_settlesTo {s t : State} (h : s.leadMove = some t) : s.SettlesTo t := by
  unfold State.leadMove at h
  repeat' split at h
  all_goals cases h
  · exact enterIdle_settlesTo s
  · exact setSinkOpen_settlesTo s true
  · exact leadExpiry_settlesTo s

theorem firingMove_settlesTo {s t : State} {before : Nat → Nat} {cue : Cue} (h : s.firingMove before cue = some t) :
    s.SettlesTo t := by
  unfold State.firingMove at h
  repeat' split at h
  all_goals cases h
  · exact (settlesTo_raise s .capacity _ (by simp)).trans (enterOverrun_settlesTo _)
  · exact enterOverrun_settlesTo s
  · exact (settlesTo_setBoiler s _).trans (recomputeFlow_settlesTo _)
  · exact enterOverrun_settlesTo s
  · exact (settlesTo_setBoiler s _).trans (recomputeFlow_settlesTo _)

theorem boilerMove_settlesTo {s t : State} {before : Nat → Nat} {cue : Cue} (h : s.boilerMove before cue = some t) :
    s.SettlesTo t := by
  unfold State.boilerMove at h
  split at h
  · split at h <;> cases h; exact enterRest_settlesTo s
  split at h
  · cases h; exact enterFaulted_settlesTo s
  split at h
  · split at h <;> cases h; exact enterLead_settlesTo s
  · exact leadMove_settlesTo h
  · exact firingMove_settlesTo h
  · split at h <;> cases h; exact enterRest_settlesTo s
  · split at h <;> cases h; exact enterIdle_settlesTo s
  · cases h

theorem settle_settlesTo (s before : State) : s.SettlesTo (s.settle before) :=
  settleWith_induct s.SettlesTo _ _ s (fun _ _ _ hu h => hu.trans (boilerMove_settlesTo h))
    (fun u hu => hu.trans (remark_settlesTo u)) (fun _ _ hu h => hu.trans (grant_settlesTo h))
    (fun u hu => hu.trans (nextTransaction_settlesTo u)) (fun u hu => hu.trans (setPump_settlesTo u)) (.refl s)

end Sys2Proof.Machine
end

section
/-! PROOF. Flow setpoint, modulation target and ramp while the plant settles (R72, R130, R149, R163; O19, O21). -/

namespace Sys2Proof.Machine

/-! ## What the relation says of the controller's inputs -/

/-- The table's flags are judged: judging it again changes heat-available at most (R70, R71). -/
def State.TableStands (s : State) : Prop := ∃ w, s.table = s.table.judged w

theorem judged_stands {s : State} {t : ConsumerTable} {w : Bool} (h : s.table = t.judged w) : s.TableStands :=
  ⟨w, by rw [h, judged_judged]⟩

namespace State.SettlesTo

variable {s t : State} (h : s.SettlesTo t)
include h

theorem requesting (c : Nat) : (t.consumer c).requesting = (s.consumer c).requesting := by
  rcases h.table with ht | ⟨w, ht⟩
  · rw [State.consumer, State.consumer, ht]
  · rw [consumer_judged ht]; rfl

theorem level (c : Nat) : (t.consumer c).level = (s.consumer c).level := by
  rcases h.table with ht | ⟨w, ht⟩
  · rw [State.consumer, State.consumer, ht]
  · rw [consumer_judged ht]; rfl

theorem anyRequest : t.anyRequest = s.anyRequest := by
  rcases h.table with ht | ⟨w, ht⟩
  · rw [State.anyRequest, State.anyRequest, ht]
  · rw [State.anyRequest, ht, judged_any_requesting]; rfl

theorem stands (hs : s.TableStands) : t.TableStands := by
  rcases h.table with ht | ⟨w, ht⟩
  · obtain ⟨w, hw⟩ := hs; exact ⟨w, by rw [ht]; exact hw⟩
  · exact judged_stands ht

theorem deferred (hs : s.TableStands) (c : Nat) : (t.consumer c).deferred = (s.consumer c).deferred := by
  obtain ⟨v, hv⟩ := hs
  rcases h.table with ht | ⟨w, ht⟩
  · rw [State.consumer, State.consumer, ht]
  · rw [consumer_judged ht, consumer_judged (s := s) (t := s) hv]; rfl

theorem servedLevel (hs : s.TableStands) : t.table.servedLevel = s.table.servedLevel := by
  obtain ⟨v, hv⟩ := hs
  rcases h.table with ht | ⟨w, ht⟩
  · rw [ht]
  · rw [ht, judged_servedLevel _ w v, ← hv]

theorem served (hs : s.TableStands) (c : Nat) : (t.consumer c).served = (s.consumer c).served := by
  rw [Consumer.served, Consumer.served, h.requesting, h.deferred hs]

theorem servedSet (hs : s.TableStands) : t.servedSet = s.servedSet := by
  rw [State.servedSet, State.servedSet, funext (h.served hs)]

theorem activeInputs (f : InputFunction) : t.activeInputs f = s.activeInputs f := by
  simp only [State.activeInputs, State.inputActive, State.inputCfg, State.inputRec, h.cfg, h.inputs]

theorem faultInput : t.faultInput = s.faultInput := by rw [State.faultInput, State.faultInput, h.activeInputs]

theorem held : t.held = s.held := by
  rw [State.held, State.held, State.inhibitInput, State.inhibitInput, h.activeInputs, h.flow]

theorem effectiveSetpoint (c : Nat) : t.effectiveSetpoint c = s.effectiveSetpoint c := by
  simp only [State.effectiveSetpoint, State.parked, State.parkSlot, State.channelCfg, State.channel, State.baseTemp,
    State.baseTempLevel, State.baseLevel, State.planLevel, State.zone, h.cfg, h.channels, h.zones, h.clock] <;> rfl

theorem flowParts (hs : s.TableStands) : t.flowParts = s.flowParts := by
  simp only [State.flowParts, State.servedZones, State.highestDemand, State.outdoorUsed, State.zone, h.servedSet hs,
    h.served hs, h.effectiveSetpoint, h.cfg, h.zones, h.outdoor] <;> rfl

theorem sinkMinimum : t.sinkMinimum = s.sinkMinimum := by rw [State.sinkMinimum, State.sinkMinimum, h.cfg]

end State.SettlesTo

/-! ### Committed capacity (R75 to R78) -/

theorem rawSumWith_mono (s : State) {f g : Nat → Nat} (h : ∀ v, f v ≤ g v) : s.rawSumWith f ≤ s.rawSumWith g := by
  have hfold : ∀ (l : List Nat) (a b : Nat), a ≤ b →
      l.foldl (fun sum v => if s.used v then sum + (s.valveCfg v).weight * f v else sum) a ≤
        l.foldl (fun sum v => if s.used v then sum + (s.valveCfg v).weight * g v else sum) b := by
    intro l
    induction l with
    | nil => exact fun _ _ hab => hab
    | cons v l ih =>
      intro a b hab
      refine ih _ _ ?_
      have := Nat.mul_le_mul_left (s.valveCfg v).weight (h v)
      dsimp only; split <;> omega
  exact hfold _ _ _ (le_refl _)

theorem rawSumWith_congr {s t : State} (h : t.cfg = s.cfg) (f : Nat → Nat) : t.rawSumWith f = s.rawSumWith f := by
  simp only [State.rawSumWith, State.used, State.valveCfg, h] <;> rfl

theorem capacityOf_mono {m n : Nat} (h : m ≤ n) : capacityOf m ≤ capacityOf n := by
  unfold capacityOf; omega

theorem capacity_mono {s t : State} (hcfg : t.cfg = s.cfg) (h : ∀ v, t.committed v ≤ s.committed v) :
    t.capacity ≤ s.capacity := by
  rw [State.capacity, State.capacity, State.rawSum, State.rawSum, rawSumWith_congr hcfg]
  exact capacityOf_mono (rawSumWith_mono s h)

theorem State.SettlesTo.capacity_le {s t : State} (h : s.SettlesTo t) : t.capacity ≤ s.capacity :=
  capacity_mono h.cfg fun v => by
    unfold State.committed
    rw [h.fault]
    split
    · exact le_refl _
    · exact h.committed v

theorem capacity_congr {s t : State} (hcfg : t.cfg = s.cfg) (hheads : t.heads = s.heads)
    (hfault : t.link.fault = s.link.fault) : t.capacity = s.capacity := by
  have hcommitted : t.committed = s.committed := by
    funext v; rw [State.committed, State.committed, State.head, State.head, hheads, hfault]
  rw [State.capacity, State.capacity, State.rawSum, State.rawSum, rawSumWith_congr hcfg, hcommitted]

/-- A granted entry takes its slot to the trial position, or leaves it where it stands above that (R78). -/
theorem trialCapacity_le_grant {s : State} {e : Entry} (h : s.eligible e = true) :
    s.trialCapacity e ≤ (s.grant e).capacity := by
  obtain ⟨hfault, -, htakes, -, -⟩ := eligible_spec s e h
  rw [State.trialCapacity, State.capacity, State.rawSum, rawSumWith_congr (s := s) (by simp)]
  refine capacityOf_mono (rawSumWith_mono s fun v => ?_)
  have hcommitted (u : State) (hu : u.link.fault = false) : u.committed v = (u.head v).committed := by
    rw [State.committed, hu]; rfl
  rw [hcommitted (s.grant e) hfault]
  split
  · next hv =>
    subst hv
    unfold State.trialPosition
    cases hop : e.op with
    | home => exact Nat.zero_le _
    | drive =>
      have hready : (s.head e.slot).state = .ready := by simpa [hop, headTakes] using htakes
      rw [hcommitted s hfault]
      by_cases hin : 1 ≤ e.slot ∧ e.slot ≤ s.heads.length
      · rw [grant_head_same s e hin.1 hin.2]
        simp [Head.granted, Head.committed, hop, MoveOp.headState, hready]
      · have hkeep : (s.grant e).head e.slot = s.head e.slot :=
          congrArg (item · e.slot Head.initial) (setItem_outside s.heads e.slot _ (by omega))
        rw [hkeep]
        exact Nat.min_le_left _ _
  · next hv => rw [grant_head_other s e v hv, hcommitted s hfault]

/-! ### Blockers and the water path (R129, R137) -/

/-- Something keeps the burner from firing: a blocker, no request, or capacity short of the sink minimum. -/
def State.Barred (s : State) : Prop :=
  s.faultInput = true ∨ s.held = true ∨ s.anyRequest = false ∨ s.capacity < s.sinkMinimum

theorem State.SettlesTo.barred {s t : State} (h : s.SettlesTo t) (hs : s.Barred) : t.Barred := by
  unfold State.Barred
  rw [h.faultInput, h.held, h.anyRequest, h.sinkMinimum]
  have := h.capacity_le
  exact hs.imp_right (.imp_right (.imp_right fun hcap => by omega))

/-- Where no capacity is lost, nothing comes to bar the burner. -/
theorem State.SettlesTo.not_barred {s t : State} (h : s.SettlesTo t) (hs : ¬ s.Barred)
    (hcap : s.sinkMinimum ≤ s.capacity → s.sinkMinimum ≤ t.capacity) : ¬ t.Barred := by
  unfold State.Barred at hs ⊢
  rw [h.faultInput, h.held, h.anyRequest, h.sinkMinimum]
  push Not at hs ⊢
  obtain ⟨hfault, hheld, hany, hpath⟩ := hs
  exact ⟨hfault, hheld, hany, hcap hpath⟩

/-- In a gated state a grant keeps the water path open (R121). -/
theorem not_barred_grant {s : State} {e : Entry} (hgates : s.boiler.gates = true) (hs : ¬ s.Barred)
    (hgrant : s.nextGrant = some e) : ¬ (s.grant e).Barred := by
  obtain ⟨-, -, hel⟩ := nextGrant_some s e hgrant
  obtain ⟨-, -, -, -, hgated⟩ := eligible_spec s e hel
  refine (grant_settlesTo hgrant).not_barred hs fun hpath => ?_
  have htrial := trialCapacity_le_grant hel
  simp only [State.gatedClosing, hgates, Bool.true_and, Bool.and_eq_false_iff, decide_eq_false_iff_not, not_lt] at hgated
  omega

end Sys2Proof.Machine
end

section
/-! PROOF. The boiler's moves: where they lead, and what they make of the flow setpoint (R128 to R140, R149; O19, O21). -/

namespace Sys2Proof.Machine

/-! ## The flow setpoint's record (R149) -/

/-- Parts, flow setpoint and modulation target as the record has them. -/
def State.flowValues (s : State) : FlowParts × Temp × Nat :=
  (s.boiler.parts, s.boiler.flowSetpoint, s.boiler.modulationTarget)

/-- What a recomputation puts there. -/
def State.flowResult (s : State) : FlowParts × Temp × Nat :=
  (s.flowParts, s.flowParts.setpoint s.cfg.boiler, modulationOf (s.flowParts.setpoint s.cfg.boiler))

/-- The modulation target of a recomputation. -/
def State.flowTarget (s : State) : Nat := modulationOf (s.flowParts.setpoint s.cfg.boiler)

theorem flowComputed_iff (s : State) : s.flowComputed ↔ s.flowValues = s.flowResult := by
  show (s.boiler.parts = s.flowParts ∧ s.boiler.flowSetpoint = s.flowParts.setpoint s.cfg.boiler ∧
      s.boiler.modulationTarget = modulationOf s.boiler.flowSetpoint) ↔
    (s.boiler.parts, s.boiler.flowSetpoint, s.boiler.modulationTarget) = (s.flowParts, _, modulationOf _)
  rw [Prod.mk.injEq, Prod.mk.injEq]
  refine and_congr_right fun _ => and_congr_right fun h => ?_
  rw [h]

theorem State.SettlesTo.flowResult {s t : State} (h : s.SettlesTo t) (hs : s.TableStands) :
    t.flowResult = s.flowResult := by
  show (t.flowParts, t.flowParts.setpoint t.cfg.boiler, modulationOf (t.flowParts.setpoint t.cfg.boiler)) = _
  rw [h.flowParts hs, h.cfg]; rfl

theorem State.SettlesTo.flowTarget {s t : State} (h : s.SettlesTo t) (hs : s.TableStands) :
    t.flowTarget = s.flowTarget := congrArg (·.2.2) (h.flowResult hs)

theorem handRamp_boiler (s : State) (a b : Nat) : (s.handRamp a b).boiler = s.boiler := by simp

theorem recomputeFlow_boiler (s : State) : s.recomputeFlow.boiler = s.withFlow.boiler := by
  rw [recomputeFlow_eq]; rfl

theorem recomputeFlow_flowValues (s : State) : s.recomputeFlow.flowValues = s.flowResult := by
  show (s.recomputeFlow.boiler.parts, _, _) = _
  rw [recomputeFlow_boiler]; rfl

theorem recomputeFlow_state (s : State) : s.recomputeFlow.boiler.state = s.boiler.state := by
  rw [recomputeFlow_boiler]; rfl

/-- A recomputed record is computed for the served set as it stands. -/
theorem recomputeFlow_computed {s : State} (hs : s.TableStands) : s.recomputeFlow.flowComputed := by
  rw [flowComputed_iff, recomputeFlow_flowValues, (recomputeFlow_settlesTo s).flowResult hs]

/-! ## Moves outside FIRING -/

theorem enterState_boiler (s : State) (b : Boiler) : (s.enterState b).boiler = b := by simp [State.enterState]

theorem setSinkOpen_boiler (s : State) (b : Bool) : (s.setSinkOpen b).boiler = s.boiler := by simp

/-- A move that neither lights the burner nor puts it out: output, ramp and flow setpoint stay. -/
structure State.KeepsUnlit (s t : State) : Prop where
  state : t.boiler.state ≠ .firing
  field : t.field = s.field
  values : t.flowValues = s.flowValues

theorem flowValues_congr {s t : State} (hparts : t.boiler.parts = s.boiler.parts)
    (hflow : t.boiler.flowSetpoint = s.boiler.flowSetpoint)
    (htarget : t.boiler.modulationTarget = s.boiler.modulationTarget) : t.flowValues = s.flowValues := by
  show (t.boiler.parts, t.boiler.flowSetpoint, t.boiler.modulationTarget) = _
  rw [hparts, hflow, htarget]; rfl

theorem enterState_keepsUnlit {s u : State} {b : Boiler} (hb : b.state ≠ .firing) (hfield : u.field = s.field)
    (hparts : b.parts = s.boiler.parts) (hflow : b.flowSetpoint = s.boiler.flowSetpoint)
    (htarget : b.modulationTarget = s.boiler.modulationTarget) : s.KeepsUnlit (u.enterState b) where
  state := by rw [enterState_boiler]; exact hb
  field := by simp [hfield]
  values := flowValues_congr (by rw [enterState_boiler, hparts]) (by rw [enterState_boiler, hflow])
    (by rw [enterState_boiler, htarget])

theorem enterIdle_keepsUnlit (s : State) : s.KeepsUnlit s.enterIdle :=
  enterState_keepsUnlit (by simp) (by simp) (by simp [Boiler.cleared]) (by simp [Boiler.cleared]) (by simp [Boiler.cleared])

theorem enterRest_keepsUnlit (s : State) : s.KeepsUnlit s.enterRest :=
  enterState_keepsUnlit (by simp) (by simp) (by simp [Boiler.cleared]) (by simp [Boiler.cleared]) (by simp [Boiler.cleared])

theorem enterLead_keepsUnlit (s : State) : s.KeepsUnlit s.enterLead :=
  enterState_keepsUnlit (by simp) (by simp) (by simp [Boiler.cleared]) (by simp [Boiler.cleared]) (by simp [Boiler.cleared])

theorem enterFaulted_keepsUnlit {s : State} (h : s.boiler.state ≠ .firing) : s.KeepsUnlit s.enterFaulted := by
  unfold State.enterFaulted
  rw [if_neg h]
  exact enterState_keepsUnlit (by simp) (by simp) (by simp [Boiler.cleared]) (by simp [Boiler.cleared])
    (by simp [Boiler.cleared])

theorem setBoiler_keepsUnlit {s : State} {b : Boiler} (hb : b.state ≠ .firing) (hparts : b.parts = s.boiler.parts)
    (hflow : b.flowSetpoint = s.boiler.flowSetpoint) (htarget : b.modulationTarget = s.boiler.modulationTarget) :
    s.KeepsUnlit (s.setBoiler b) :=
  ⟨hb, rfl, flowValues_congr hparts hflow htarget⟩

/-- A lead expiry in LEAD lights the burner only with the water path open (R133). -/
theorem leadExpiry_outside {s : State} (h : s.boiler.state ≠ .firing) :
    s.KeepsUnlit s.leadExpiry ∨ s.leadExpiry = s.enterFiring ∧ s.sinkMinimum ≤ s.capacity := by
  unfold State.leadExpiry
  dsimp only
  split
  · exact .inl (setBoiler_keepsUnlit h rfl rfl rfl)
  split
  · next hcap => exact .inr ⟨rfl, hcap⟩
  split
  · exact .inl (setBoiler_keepsUnlit h rfl rfl rfl)
  · refine .inl ?_
    obtain ⟨hstate, hfield, hvalues⟩ := enterRest_keepsUnlit
      ((s.setBoiler { s.boiler with restMark := s.clock.elapsed }).raise .sink (objectsOf s.sinkSlots))
    exact ⟨hstate, hfield, hvalues⟩

theorem leadMove_outside {s t : State} (hstate : s.boiler.state ≠ .firing) (hfault : s.faultInput = false)
    (h : s.leadMove = some t) : s.KeepsUnlit t ∨ t = s.enterFiring ∧ ¬ s.Barred := by
  unfold State.leadMove at h
  split at h
  · cases h; exact .inl (enterIdle_keepsUnlit s)
  next hcalm =>
  split at h
  · cases h
    exact .inl ⟨by rw [setSinkOpen_boiler]; exact hstate, by simp,
      flowValues_congr (by simp) (by simp) (by simp)⟩
  split at h
  · cases h
    refine (leadExpiry_outside hstate).imp_right fun ⟨heq, hcap⟩ => ⟨heq, ?_⟩
    unfold State.Barred
    simp only [Bool.or_eq_true, Bool.not_eq_true', not_or, Bool.not_eq_false, Bool.not_eq_true] at hcalm
    simp [hfault, hcalm.1, hcalm.2, hcap]
  · cases h

/-- A move outside FIRING leaves the burner out, or lights it where nothing bars it. -/
theorem boilerMove_outside {s t : State} {before : Nat → Nat} {cue : Cue} (hstate : s.boiler.state ≠ .firing)
    (h : s.boilerMove before cue = some t) : s.KeepsUnlit t ∨ t = s.enterFiring ∧ ¬ s.Barred := by
  unfold State.boilerMove at h
  split at h
  · split at h <;> cases h; exact .inl (enterRest_keepsUnlit s)
  split at h
  · cases h; exact .inl (enterFaulted_keepsUnlit hstate)
  next hfault =>
  split at h
  · split at h <;> cases h; exact .inl (enterLead_keepsUnlit s)
  · exact leadMove_outside hstate (by simpa using hfault) h
  · next hfiring => exact absurd hfiring hstate
  · split at h <;> cases h; exact .inl (enterRest_keepsUnlit s)
  · split at h <;> cases h; exact .inl (enterIdle_keepsUnlit s)
  · cases h

/-! ## Moves in FIRING -/

/-- A move that puts the burner out: the flow setpoint is recomputed where a hold ends with it (R136, R149). -/
structure State.GoesOut (s t : State) : Prop where
  state : t.boiler.state ≠ .firing
  values : t.flowValues = s.flowValues ∨ t.flowValues = s.flowResult

theorem burnerOut_values (s : State) : s.burnerOut.flowValues = s.flowValues ∨ s.burnerOut.flowValues = s.flowResult := by
  by_cases hhold : s.boiler.minOnHold = true
  · refine .inr ?_
    have hend : s.endHold = (s.setBoiler { s.boiler with minOnHold := false }).withFlow := if_pos hhold
    show s.endHold.flowValues = _
    rw [hend]; rfl
  · refine .inl ?_
    have hend : s.endHold = s := if_neg hhold
    show s.endHold.flowValues = _
    rw [hend]

theorem enterState_goesOut {s u : State} {b : Boiler} (hb : b.state ≠ .firing)
    (hparts : b.parts = u.boiler.parts) (hflow : b.flowSetpoint = u.boiler.flowSetpoint)
    (htarget : b.modulationTarget = u.boiler.modulationTarget)
    (hu : u.flowValues = s.flowValues ∨ u.flowValues = s.flowResult) : s.GoesOut (u.enterState b) where
  state := by rw [enterState_boiler]; exact hb
  values := by
    rwa [flowValues_congr (s := u) (t := u.enterState b) (by rw [enterState_boiler, hparts])
      (by rw [enterState_boiler, hflow]) (by rw [enterState_boiler, htarget])]

theorem enterOverrun_goesOut (s : State) : s.GoesOut s.enterOverrun :=
  enterState_goesOut (by simp) rfl rfl rfl (burnerOut_values s)

theorem enterFaulted_goesOut {s : State} (h : s.boiler.state = .firing) : s.GoesOut s.enterFaulted := by
  unfold State.enterFaulted
  rw [if_pos h]
  exact enterState_goesOut (by simp) rfl rfl rfl (burnerOut_values s)

/-- A move in FIRING: something bars the burner and it goes out, or the min-on hold begins or ends and the flow setpoint
is recomputed (R135, R149). The hold begins with no request only, and ends where it is in force. -/
theorem boilerMove_firing {s t : State} {before : Nat → Nat} {cue : Cue} (hstate : s.boiler.state = .firing)
    (h : s.boilerMove before cue = some t) :
    s.Barred ∧ s.GoesOut t ∨
      (s.Barred ∨ s.boiler.minOnHold = true) ∧
        ∃ hold, t = (s.setBoiler { s.boiler with minOnHold := hold }).recomputeFlow := by
  unfold State.boilerMove at h
  rw [if_neg (by simp [hstate])] at h
  split at h
  · next hfault => cases h; exact .inl ⟨.inl hfault, enterFaulted_goesOut hstate⟩
  rw [hstate] at h
  dsimp only at h
  unfold State.firingMove at h
  split at h
  · next hcap =>
    cases h
    obtain ⟨hout, hvalues⟩ := enterOverrun_goesOut (s.raise .capacity (objectsOf (s.fallenSlots before)))
    exact .inl ⟨.inr (.inr (.inr hcap)), hout, hvalues⟩
  split at h
  · next hheld => cases h; exact .inl ⟨.inr (.inl hheld), enterOverrun_goesOut s⟩
  split at h
  · split at h
    · next hhold => cases h; exact .inr ⟨.inr hhold, _, rfl⟩
    · cases h
  next hany =>
  have hbarred : s.Barred := .inr (.inr (.inl (by simpa using hany)))
  split at h
  · cases h
  split at h
  · cases h; exact .inl ⟨hbarred, enterOverrun_goesOut s⟩
  split at h
  · cases h
  · cases h; exact .inr ⟨.inl hbarred, _, rfl⟩

/-- Whatever a move does to the record's flow setpoint, it leaves it or computes it afresh. -/
theorem boilerMove_values {s t : State} {before : Nat → Nat} {cue : Cue} (h : s.boilerMove before cue = some t) :
    t.flowValues = s.flowValues ∨ t.flowValues = s.flowResult := by
  by_cases hstate : s.boiler.state = .firing
  · rcases boilerMove_firing hstate h with ⟨-, hout⟩ | ⟨-, hold, rfl⟩
    · exact hout.values
    · exact .inr (recomputeFlow_flowValues _)
  · rcases boilerMove_outside hstate h with hout | ⟨rfl, -⟩
    · exact .inl hout.values
    · refine .inl (flowValues_congr ?_ ?_ ?_) <;>
        simp only [State.enterFiring, enterState_boiler, Boiler.cleared, handRamp_boiler] <;> rfl

/-! ### The burner lit within the event (R131, R134) -/

/-- The burner was lit by nothing that a further move could take back. -/
def State.Lit (s : State) : Prop := s.boiler.state = .firing ∧ s.boiler.minOnHold = false ∧ ¬ s.Barred

theorem lit_stays {s t : State} {before : Nat → Nat} {cue : Cue} (hs : s.Lit) : s.boilerMove before cue ≠ some t := by
  obtain ⟨hstate, hhold, hclear⟩ := hs
  intro h
  rcases boilerMove_firing hstate h with ⟨hbarred, -⟩ | ⟨hbarred | hhold', -⟩
  · exact hclear hbarred
  · exact hclear hbarred
  · simp [hhold] at hhold'

theorem lit_grant {s : State} {e : Entry} (hs : s.Lit) (hgrant : s.nextGrant = some e) : (s.grant e).Lit := by
  obtain ⟨hstate, hhold, hclear⟩ := hs
  exact ⟨by simp [hstate], by simp [hhold], not_barred_grant (by simp [Boiler.gates, hstate]) hclear hgrant⟩

theorem lit_congr {s t : State} (h : s.SettlesTo t) (hboiler : t.boiler = s.boiler) (hheads : t.heads = s.heads)
    (hs : s.Lit) : t.Lit := by
  obtain ⟨hstate, hhold, hclear⟩ := hs
  exact ⟨by rw [hboiler, hstate], by rw [hboiler, hhold],
    h.not_barred hclear fun hpath => by rwa [capacity_congr h.cfg hheads h.fault]⟩

/-- A firing record entered where nothing bars the burner. -/
theorem enterState_lit {s : State} {b : Boiler} (h : ¬ s.Barred) (hstate : b.state = .firing)
    (hhold : b.minOnHold = false) : (s.enterState b).Lit := by
  refine grantRound_induct State.Lit (fun _ _ hu he => lit_grant hu he) _ ?_
  have hset : (s.setBoiler b).Lit :=
    ⟨hstate, hhold, (settlesTo_setBoiler s b).not_barred h fun hpath =>
      hpath.trans_eq (capacity_congr (s := s) (t := s.setBoiler b) rfl rfl rfl).symm⟩
  have hjudge := lit_congr (judgeTable_settlesTo _) (by simp) (by simp) hset
  exact lit_congr (remark_settlesTo _) rfl rfl hjudge

theorem enterFiring_lit {s : State} (h : ¬ s.Barred) : s.enterFiring.Lit := by
  have hramp : s.SettlesTo ((s.setField { s.field with burner := true }).handRamp 0 s.boiler.modulationTarget) :=
    (settlesTo_setField s _ _ _ _).trans (handRamp_settlesTo _ _ _)
  refine enterState_lit (hramp.not_barred h fun hpath => hpath.trans_eq (capacity_congr ?_ ?_ ?_).symm) rfl rfl
  all_goals unfold State.handRamp; split <;> rfl

end Sys2Proof.Machine
end

section
/-! PROOF. Flow setpoint and ramp follow the modulation target through an event that settles (R72, R130, R149, R163;
O19, O21). -/

namespace Sys2Proof.Machine

/-! ## The ramp handed over (R130, R163) -/

/-- The ramp a recomputation with modulation target `target` leaves in FIRING. -/
def State.rampTo (s : State) (target : Nat) : Option Ramp :=
  if target = s.boiler.modulationTarget then s.field.ramp
  else if target = s.field.output then none
  else some { start := s.field.output, target, next := 1, timer := s.cfg.boiler.rampStep }

/-- In `u` output and ramp are those of `s` with the modulation target that `u` has: the old one or `target`. -/
structure State.RampsTo (s : State) (target : Nat) (u : State) : Prop where
  boiler : u.cfg.boiler = s.cfg.boiler
  output : u.field.output = s.field.output
  ramp : u.field.ramp = s.rampTo u.boiler.modulationTarget
  target : u.boiler.modulationTarget = s.boiler.modulationTarget ∨ u.boiler.modulationTarget = target

theorem rampTo_same (s : State) : s.rampTo s.boiler.modulationTarget = s.field.ramp := if_pos rfl

/-- A state of the same ramp and modulation target, before anything is recomputed. -/
theorem rampsTo_of_same {s u : State} (target : Nat) (hcfg : u.cfg.boiler = s.cfg.boiler) (hfield : u.field = s.field)
    (hboiler : u.boiler = s.boiler) : s.RampsTo target u :=
  ⟨hcfg, by rw [hfield], by rw [hboiler, rampTo_same, hfield], .inl (by rw [hboiler])⟩

theorem recomputeFlow_modulationTarget (s : State) : s.recomputeFlow.boiler.modulationTarget = s.flowTarget := by
  rw [recomputeFlow_boiler]; rfl

theorem recomputeFlow_output (s : State) : s.recomputeFlow.field.output = s.field.output := by
  rw [recomputeFlow_eq]; rfl

/-- In FIRING a recomputation hands over the ramp to its target. -/
theorem recomputeFlow_ramp {s : State} (h : s.boiler.state = .firing) :
    s.recomputeFlow.field.ramp = s.rampTo s.flowTarget := by
  rw [recomputeFlow_eq]
  show (if s.boiler.state = .firing ∧ s.flowTarget ≠ s.boiler.modulationTarget then _ else s.field.ramp) = _
  rw [State.rampTo]
  by_cases hsame : s.flowTarget = s.boiler.modulationTarget
  · rw [if_neg (fun hand => hand.2 hsame), if_pos hsame]
  · rw [if_pos ⟨h, hsame⟩, if_neg hsame]; rfl

theorem recomputeFlow_field {s : State} (h : s.boiler.state ≠ .firing) : s.recomputeFlow.field = s.field := by
  rw [recomputeFlow_eq, if_neg fun hand => h hand.1]; rfl

/-- Recomputing once more with the same target hands over nothing new. -/
theorem rampTo_rampsTo {s u : State} {target : Nat} (h : s.RampsTo target u) : u.rampTo target = s.rampTo target := by
  obtain ⟨hcfg, houtput, hramp, htarget⟩ := h
  rw [State.rampTo, houtput, hcfg]
  by_cases hsame : target = u.boiler.modulationTarget
  · rw [if_pos hsame, hramp, hsame]
  · have hold : u.boiler.modulationTarget = s.boiler.modulationTarget := htarget.resolve_right (Ne.symm hsame)
    rw [if_neg hsame, State.rampTo, ← hold, if_neg hsame]

theorem recomputeFlow_rampsTo {s u : State} (hstate : u.boiler.state = .firing) (h : s.RampsTo u.flowTarget u) :
    s.RampsTo u.flowTarget u.recomputeFlow where
  boiler := by rw [(recomputeFlow_settlesTo u).cfg, h.boiler]
  output := by rw [recomputeFlow_output, h.output]
  ramp := by rw [recomputeFlow_ramp hstate, recomputeFlow_modulationTarget, rampTo_rampsTo h]
  target := .inr (recomputeFlow_modulationTarget u)

/-! ## From the event's own effect to its end -/

/-- What an event may have done to flow setpoint and ramp since `s`, in a state that settles: its table is judged, the
boiler is where it was, and output and ramp are those of the modulation target. -/
structure State.FlowBegun (s a : State) : Prop where
  stands : a.TableStands
  state : a.boiler.state = s.boiler.state
  firing : s.boiler.state = .firing → s.RampsTo a.flowTarget a
  outside : s.boiler.state ≠ .firing → a.field.output = s.field.output ∧ a.field.ramp = s.field.ramp

/-- An effect that judges the table and leaves boiler and relays as they are. -/
theorem flowBegun_of_same {s a : State} (hstands : a.TableStands) (hcfg : a.cfg.boiler = s.cfg.boiler)
    (hfield : a.field = s.field) (hboiler : a.boiler = s.boiler) : s.FlowBegun a :=
  ⟨hstands, by rw [hboiler], fun _ => rampsTo_of_same _ hcfg hfield hboiler, fun _ => by rw [hfield]; exact ⟨rfl, rfl⟩⟩

theorem flowTarget_recomputeFlow {a : State} (h : a.TableStands) : a.recomputeFlow.flowTarget = a.flowTarget :=
  (recomputeFlow_settlesTo a).flowTarget h

theorem State.FlowBegun.recompute {s a : State} (h : s.FlowBegun a) : s.FlowBegun a.recomputeFlow where
  stands := (recomputeFlow_settlesTo a).stands h.stands
  state := by rw [recomputeFlow_state, h.state]
  firing hs := by
    rw [flowTarget_recomputeFlow h.stands]
    exact recomputeFlow_rampsTo (h.state.trans hs) (h.firing hs)
  outside hs := by
    rw [recomputeFlow_field (fun ha => hs (h.state.symm.trans ha))]
    exact h.outside hs

/-- What holds of output and ramp while the plant settles: the burner fires on with the ramp of its target, is out for
good, is lit for good, or was and stays out. -/
inductive State.RampCourse (s : State) (target : Nat) (u : State) : Prop where
  | fires (hs : s.boiler.state = .firing) (hu : u.boiler.state = .firing) (h : s.RampsTo target u)
  | wentOut (hs : s.boiler.state = .firing) (hu : u.boiler.state ≠ .firing) (h : u.Barred)
  | lit (hs : s.boiler.state ≠ .firing) (h : u.Lit)
  | out (hs : s.boiler.state ≠ .firing) (hu : u.boiler.state ≠ .firing)
      (h : u.field.output = s.field.output ∧ u.field.ramp = s.field.ramp)

/-- A step that leaves boiler, output and ramp leaves the course, if a burner lit stays so. -/
theorem State.RampCourse.keep {s u t : State} {target : Nat} (h : s.RampCourse target u) (hset : u.SettlesTo t)
    (hboiler : t.boiler = u.boiler) (houtput : t.field.output = u.field.output) (hramp : t.field.ramp = u.field.ramp)
    (hlit : u.Lit → t.Lit) : s.RampCourse target t := by
  cases h with
  | fires hs hu h =>
    obtain ⟨hcfg, hout, hr, htarget⟩ := h
    exact .fires hs (by rw [hboiler, hu])
      ⟨by rw [hset.cfg, hcfg], by rw [houtput, hout], by rw [hramp, hr, hboiler], by rwa [hboiler]⟩
  | wentOut hs hu h => exact .wentOut hs (by rwa [hboiler]) (hset.barred h)
  | lit hs h => exact .lit hs (hlit h)
  | out hs hu h => exact .out hs (by rwa [hboiler]) (by rwa [houtput, hramp])

/-- A move of the controller leaves the course. -/
theorem State.RampCourse.move {s u t : State} {before : Nat → Nat} {cue : Cue} (hstands : u.TableStands)
    (h : s.RampCourse u.flowTarget u) (hmove : u.boilerMove before cue = some t) : s.RampCourse u.flowTarget t := by
  cases h with
  | fires hs hu h =>
    rcases boilerMove_firing hu hmove with ⟨hbarred, hout, -⟩ | ⟨-, hold, rfl⟩
    · exact .wentOut hs hout ((boilerMove_settlesTo hmove).barred hbarred)
    · have htarget : (u.setBoiler { u.boiler with minOnHold := hold }).flowTarget = u.flowTarget :=
        (settlesTo_setBoiler u _).flowTarget hstands
      have hheld : s.RampsTo u.flowTarget (u.setBoiler { u.boiler with minOnHold := hold }) :=
        ⟨h.boiler, h.output, h.ramp, h.target⟩
      rw [← htarget] at hheld ⊢
      exact .fires hs (by rw [recomputeFlow_state]; exact hu) (recomputeFlow_rampsTo hu hheld)
  | wentOut hs hu h =>
    rcases boilerMove_outside hu hmove with hout | ⟨-, hclear⟩
    · exact .wentOut hs hout.state ((boilerMove_settlesTo hmove).barred h)
    · exact absurd h hclear
  | lit hs h => exact absurd hmove (lit_stays h)
  | out hs hu h =>
    rcases boilerMove_outside hu hmove with hout | ⟨rfl, hclear⟩
    · exact .out hs hout.state (by rwa [hout.field])
    · exact .lit hs (enterFiring_lit hclear)

/-- What is kept from `a` on while it settles. -/
structure State.Course (s a u : State) : Prop where
  settles : a.SettlesTo u
  values : u.flowValues = a.flowValues ∨ u.flowValues = a.flowResult
  ramp : s.RampCourse a.flowTarget u

/-- A step that leaves the boiler's record, output and ramp. -/
theorem State.Course.keep {s a u t : State} (h : s.Course a u) (hset : u.SettlesTo t) (hboiler : t.boiler = u.boiler)
    (houtput : t.field.output = u.field.output) (hramp : t.field.ramp = u.field.ramp) (hlit : u.Lit → t.Lit) :
    s.Course a t where
  settles := h.settles.trans hset
  values := by
    rw [flowValues_congr (s := u) (t := t) (by rw [hboiler]) (by rw [hboiler]) (by rw [hboiler])]; exact h.values
  ramp := h.ramp.keep hset hboiler houtput hramp hlit

theorem State.Course.move {s a u t : State} {before : Nat → Nat} {cue : Cue} (hstands : a.TableStands)
    (h : s.Course a u) (hmove : u.boilerMove before cue = some t) : s.Course a t where
  settles := h.settles.trans (boilerMove_settlesTo hmove)
  values := by
    rcases boilerMove_values hmove with hkeep | hnew
    · rw [hkeep]; exact h.values
    · rw [hnew, h.settles.flowResult hstands]; exact .inr rfl
  ramp := by
    have hramp := h.ramp
    rw [← h.settles.flowTarget hstands] at hramp ⊢
    exact hramp.move (h.settles.stands hstands) hmove

theorem State.FlowBegun.course {s a : State} (h : s.FlowBegun a) : s.Course a a where
  settles := .refl a
  values := .inl rfl
  ramp := by
    by_cases hs : s.boiler.state = .firing
    · exact .fires hs (h.state.trans hs) (h.firing hs)
    · exact .out hs (fun ha => hs (h.state.symm.trans ha)) (h.outside hs)

theorem settle_course {s a : State} (before : State) (h : s.FlowBegun a) : s.Course a (a.settle before) := by
  refine settleWith_induct (s.Course a) _ _ a (fun u cue t hu hmove => hu.move h.stands hmove)
    (fun u hu => hu.keep (remark_settlesTo u) rfl rfl rfl (lit_congr (remark_settlesTo u) rfl rfl))
    (fun u e hu he => hu.keep (grant_settlesTo he) (by simp) (by simp) (by simp) fun hlit => lit_grant hlit he)
    (fun u hu => hu.keep (nextTransaction_settlesTo u) (by simp) (by simp) (by simp)
      (lit_congr (nextTransaction_settlesTo u) (by simp) (by simp)))
    (fun u hu => hu.keep (setPump_settlesTo u) rfl rfl rfl (lit_congr (setPump_settlesTo u) rfl rfl)) h.course

/-- Where the record was computed for the served set as it stands, it is so when the plant has settled. -/
theorem settle_computed {s a : State} (before : State) (h : s.FlowBegun a) (ha : a.flowComputed) :
    (a.settle before).flowComputed := by
  rw [flowComputed_iff] at ha ⊢
  rw [(settle_settlesTo a before).flowResult h.stands]
  rcases (settle_course before h).values with hkeep | hnew
  · rw [hkeep, ha]
  · exact hnew

/-- The ramp followed the modulation target (R130, R163). -/
theorem settle_rampFollows {s a : State} (before : State) (h : s.FlowBegun a) : s.rampFollows (a.settle before) := by
  refine ⟨fun hs ht => ?_, fun hs ht => ?_⟩
  · cases (settle_course before h).ramp with
    | fires _ _ hramp =>
      refine ⟨hramp.output, ?_⟩
      rw [hramp.ramp, State.rampTo, ← hramp.boiler]
    | wentOut _ hout _ => exact absurd ht hout
    | lit hs' _ => exact absurd hs hs'
    | out hs' _ _ => exact absurd hs hs'
  · cases (settle_course before h).ramp with
    | fires hs' _ _ => exact absurd hs' hs
    | wentOut hs' _ _ => exact absurd hs' hs
    | lit _ hlit => exact absurd hlit.1 ht
    | out _ _ hkeep => exact hkeep

/-- An event whose own effect computed the flow setpoint afresh where served level or served set changed keeps to it. -/
theorem settle_flowFollows {s a : State} (before : State) (h : s.FlowBegun a)
    (hchange : a.table.servedLevel ≠ s.table.servedLevel ∨ a.servedSet ≠ s.servedSet → a.flowComputed) :
    s.flowFollows (a.settle before) := by
  refine ⟨fun hne => settle_computed before h (hchange ?_), settle_rampFollows before h⟩
  rwa [(settle_settlesTo a before).servedLevel h.stands, (settle_settlesTo a before).servedSet h.stands] at hne

end Sys2Proof.Machine
end

section
/-! PROOF. A request handed to the consumer table (R69 to R72; O19, O21). -/

namespace Sys2Proof.Machine

/-- The table with a request entered, not yet judged (R69). -/
def State.requested (s : State) (c level : Nat) : State :=
  s.setTable { s.table with entries := setItem s.table.entries c ((s.consumer c).request level) }

/-- A request handed over is entered and judged; a changed served level or served set recomputes (R70, R72). -/
theorem handRequest_cases (s : State) (c level : Nat) :
    s.handRequest c level = (s.requested c level).judgeTable ∧
        (s.handRequest c level).table.servedLevel = s.table.servedLevel ∧ (s.handRequest c level).servedSet = s.servedSet ∨
      s.handRequest c level = (s.requested c level).judgeTable.recomputeFlow := by
  by_cases hsame : (s.requested c level).judgeTable.table.servedLevel = s.table.servedLevel ∧
      (s.requested c level).judgeTable.servedSet = s.servedSet
  · have heq : s.handRequest c level = (s.requested c level).judgeTable := if_pos hsame
    exact .inl ⟨heq, heq ▸ hsame⟩
  · exact .inr (if_neg hsame)

theorem requested_settlesTo (s : State) (c level : Nat) : (s.requested c level).SettlesTo (s.handRequest c level) := by
  rcases handRequest_cases s c level with ⟨heq, -⟩ | heq
  · rw [heq]; exact judgeTable_settlesTo _
  · rw [heq]; exact (judgeTable_settlesTo _).trans (recomputeFlow_settlesTo _)

theorem judgeTable_stands (s : State) : s.judgeTable.TableStands := judged_stands (judgeTable_table s)

theorem handRequest_stands (s : State) (c level : Nat) : (s.handRequest c level).TableStands := by
  rcases handRequest_cases s c level with ⟨heq, -⟩ | heq
  · rw [heq]; exact judgeTable_stands _
  · rw [heq]; exact (recomputeFlow_settlesTo _).stands (judgeTable_stands _)

/-- A changed served level or served set is computed for. -/
theorem handRequest_computed {s : State} {c level : Nat}
    (h : (s.handRequest c level).table.servedLevel ≠ s.table.servedLevel ∨ (s.handRequest c level).servedSet ≠ s.servedSet) :
    (s.handRequest c level).flowComputed := by
  rcases handRequest_cases s c level with ⟨-, hlevel, hset⟩ | heq
  · exact absurd hset (h.resolve_left (not_not_intro hlevel))
  · rw [heq]; exact recomputeFlow_computed (judgeTable_stands _)

/-- Boiler and relays since `s` are as they were, or recomputed with the table. -/
theorem handRequest_flowBegun {s u : State} (c level : Nat) (hcfg : u.cfg.boiler = s.cfg.boiler)
    (hfield : u.field = s.field) (hboiler : u.boiler = s.boiler) : s.FlowBegun (u.handRequest c level) := by
  have hjudged : s.FlowBegun (u.requested c level).judgeTable := by
    refine flowBegun_of_same (judgeTable_stands _) ?_ ?_ ?_
    · rw [(judgeTable_settlesTo _).cfg]; exact hcfg
    · rw [show (u.requested c level).judgeTable.field = u.field by simp [State.requested], hfield]
    · rw [show (u.requested c level).judgeTable.boiler = u.boiler by simp [State.requested], hboiler]
  rcases handRequest_cases u c level with ⟨heq, -⟩ | heq
  · rw [heq]; exact hjudged
  · rw [heq]; exact hjudged.recompute

/-- What is requested stands in the table. -/
theorem requested_consumer (s : State) (c level : Nat) (h1 : 1 ≤ c) (h2 : c ≤ s.table.entries.length) :
    (s.requested c level).consumer c = (s.consumer c).request level := item_setItem_same _ _ _ _ h1 h2

theorem handRequest_settle_level {s t : State} {c level : Nat} (h : (s.handRequest c level).SettlesTo t) (h1 : 1 ≤ c)
    (h2 : c ≤ s.table.entries.length) :
    (t.consumer c).level = level ∧ ((t.consumer c).requesting = true ↔ (t.consumer c).level ≠ 0) := by
  have hfrom := (requested_settlesTo s c level).trans h
  have hreq := requested_consumer s c level h1 h2
  have hlevel : (t.consumer c).level = level := by rw [hfrom.level, hreq]; rfl
  refine ⟨hlevel, ?_⟩
  rw [hlevel, hfrom.requesting, hreq]
  exact bne_iff_ne

end Sys2Proof.Machine
end

section
/-! PROOF. Parking and unparking (O19). -/

namespace Sys2Proof.Machine

/-! ## A served request, as the states before and after it -/

/-- A request has been received: the claim's timer is set back, the port's lists are others (R166, R184). -/
abbrev State.receiving (s : State) (p : Port) (main service : PortState) : State :=
  { s with claim := s.keptAlive p, main, service }

theorem met_receiving (s : State) (p : Port) : ∃ main service, s.met p = s.receiving p main service :=
  ⟨(s.met p).main, (s.met p).service, by cases p <;> rfl⟩

/-- A request served ends as its work does, but for the ports' lists. -/
theorem requestEvent_form {p : Port} {r : Request} {s t : State} {body : ReplyBody} {cs : List Category}
    (h : s.takes p) (hwork : r.work (s.met p) = (t, body)) (ht : (s.met p).onlyRaises t cs)
    (hknown : r.known = true) (hstored : r.stored = true → s.storeWriting = false) :
    ∃ main service, requestEvent p r s = { t with main, service } ∧
      s.replied { t with main, service } p r.kind body cs ∧ t.onlyRaises { t with main, service } cs := by
  obtain ⟨hreplied, hend, hraises⟩ := requestEvent_worked h hwork ht hknown hstored
  have hform : requestEvent p r s =
      { t with main := (requestEvent p r s).main, service := (requestEvent p r s).service } := by
    rw [hend]; cases p <;> rfl
  exact ⟨_, _, hform, hform ▸ hreplied, hform ▸ hraises⟩

/-! ## A zone's request formed again, and the plant settled (R63, log 4) -/

theorem table_length {s : State} (h : s.shaped) : s.table.entries.length = 17 :=
  have ⟨_, _, _, _, _, _, _, htable, _⟩ := h
  htable

theorem handZoneRequest_onlyRaises (s : State) (k : Nat) (cs : List Category) :
    s.onlyRaises (s.handZoneRequest k) cs := onlyRaises_of_ports cs (by simp) (by simp)

theorem handZoneRequest_settle_onlyRaises (s u : State) (k : Nat) :
    u.onlyRaises ((u.handZoneRequest k).settle s) [.boiler, .capacity, .sink] :=
  onlyRaises_trans (handZoneRequest_onlyRaises u k _) (settle_settlesTo _ s).ports

theorem zoneRequest_congr {s t : State} (k : Nat) (hcfg : t.cfg = s.cfg) (hzones : t.zones = s.zones) :
    t.zoneRequest k = s.zoneRequest k := by
  simp only [State.zoneRequest, State.zone, State.channelCfg, hcfg, hzones] <;> rfl

/-- The zone's consumer has the request of its calls. -/
theorem handZoneRequest_settle_level (s u : State) {k : Nat} (h1 : 1 ≤ k) (h2 : k ≤ u.table.entries.length) :
    (((u.handZoneRequest k).settle s).consumer k).level = u.zoneRequest k ∧
      ((((u.handZoneRequest k).settle s).consumer k).requesting = true ↔
        (((u.handZoneRequest k).settle s).consumer k).level ≠ 0) :=
  handRequest_settle_level (settle_settlesTo _ s) h1 h2

theorem servedSet_congr {s t : State} (h : t.table = s.table) : t.servedSet = s.servedSet := by
  simp only [State.servedSet, State.consumer, h]

/-- An effect that leaves boiler, relays and table reaches the flow setpoint through the request alone. -/
theorem handZoneRequest_settle_flowFollows {s u : State} (k : Nat) (hcfg : u.cfg.boiler = s.cfg.boiler)
    (hfield : u.field = s.field) (hboiler : u.boiler = s.boiler) (htable : u.table = s.table) :
    s.flowFollows ((u.handZoneRequest k).settle s) := by
  refine settle_flowFollows s (handRequest_flowBegun k _ hcfg hfield hboiler) fun hchange => handRequest_computed ?_
  rw [htable, servedSet_congr htable]
  exact hchange

/-- From `u`, which an event's own effect made of `s`, to `w`: zone `k`'s request is formed again and the plant settles. -/
structure State.Handed (s u w : State) (k : Nat) : Prop where
  frame : w = { u with table := w.table, heads := w.heads, link := w.link, arbiter := w.arbiter, boiler := w.boiler,
                       field := w.field, main := w.main, service := w.service }
  ports : u.onlyRaises w [.boiler, .capacity, .sink]
  level : (w.consumer k).level = u.zoneRequest k
  requesting : (w.consumer k).requesting = true ↔ (w.consumer k).level ≠ 0
  follows : s.flowFollows w

theorem handZoneRequest_settle_handed {s u : State} {k : Nat} (hframe : u = { s with
      cfg := u.cfg, channels := u.channels, zones := u.zones, main := u.main, service := u.service })
    (hcfg : u.cfg.boiler = s.cfg.boiler) (h1 : 1 ≤ k) (h2 : k ≤ s.table.entries.length) :
    s.Handed u ((u.handZoneRequest k).settle s) k := by
  have htable : u.table = s.table := (congrArg State.table hframe :)
  obtain ⟨hlevel, hrequesting⟩ := handZoneRequest_settle_level s u h1 (htable ▸ h2)
  exact ⟨state_ext, handZoneRequest_settle_onlyRaises s u k, hlevel, hrequesting,
    handZoneRequest_settle_flowFollows k hcfg (congrArg State.field hframe :) (congrArg State.boiler hframe :) htable⟩

namespace State.Handed

variable {s u w : State} {k : Nat} (h : s.Handed u w k)
include h

theorem cfg : w.cfg = u.cfg := (congrArg State.cfg h.frame :)

theorem channel (c : Nat) : w.channel c = u.channel c := (congrArg (State.channel · c) h.frame :)

theorem zone (j : Nat) : w.zone j = u.zone j := (congrArg (State.zone · j) h.frame :)

theorem zones : w.zones = u.zones := (congrArg State.zones h.frame :)

theorem channelCfg (c : Nat) : w.channelCfg c = u.channelCfg c := (congrArg (State.channelCfg · c) h.frame :)

end State.Handed

/-! ## Park slots (R40, R41) -/

theorem freeParkFrom_first {l : List (Option Park)} {i : Nat} (n : Nat) (hfree : l[i]? = some none)
    (hbelow : ∀ j < i, ∃ x, l[j]? = some (some x)) : freeParkFrom n l = some (n + i) := by
  induction l generalizing n i with
  | nil => simp at hfree
  | cons p l ih =>
    cases i with
    | zero =>
      obtain rfl : p = none := by simpa using hfree
      rfl
    | succ i =>
      obtain ⟨x, hx⟩ := hbelow 0 (by omega)
      obtain rfl : p = some x := by simpa using hx
      rw [freeParkFrom, ih (n + 1) (by simpa using hfree) fun j hj => by simpa using hbelow (j + 1) (by omega)]
      congr 1; omega

theorem freeParkFrom_full {l : List (Option Park)} (n : Nat) (h : ∀ x ∈ l, x ≠ none) : freeParkFrom n l = none := by
  induction l generalizing n with
  | nil => rfl
  | cons p l ih =>
    cases p with
    | none => exact absurd rfl (h none (by simp))
    | some x => exact ih (n + 1) fun y hy => h y (by simp [hy])

theorem parkSlotFrom_first {l : List (Option Park)} {i : Nat} {x : Park} (n : Nat) (hx : l[i]? = some (some x))
    (hbelow : ∀ j < i, ∀ y, l[j]? = some (some y) → y.zone ≠ x.zone) : parkSlotFrom x.zone n l = some (n + i) := by
  induction l generalizing n i with
  | nil => simp at hx
  | cons p l ih =>
    cases i with
    | zero =>
      obtain rfl : p = some x := by simpa using hx
      simp [parkSlotFrom]
    | succ i =>
      have hp : p.any (·.zone == x.zone) = false := by
        cases p with
        | none => rfl
        | some y => simpa using hbelow 0 (by omega) y rfl
      rw [parkSlotFrom, hp, if_neg (by simp), ih (n + 1) (by simpa using hx) fun j hj y hy =>
        hbelow (j + 1) (by omega) y (by simpa using hy)]
      congr 1; omega

/-- A zone whose context some slot holds is parked. -/
theorem parkSlotFrom_isSome {l : List (Option Park)} {x : Park} (n : Nat) (h : some x ∈ l) :
    (parkSlotFrom x.zone n l).isSome = true := by
  induction l generalizing n with
  | nil => simp at h
  | cons p l ih =>
    rw [parkSlotFrom]
    split
    · rfl
    · next hp =>
      rcases List.mem_cons.mp h with rfl | h
      · simp at hp
      · exact ih (n + 1) h

/-! ## ZONE-PARK (R41) -/

theorem isZone_of_mem {k : Nat} (h1 : 1 ≤ k) (h16 : k ≤ 16) : isZone k = true := by simp [isZone, h1, h16]

theorem isZone_outside {k : Nat} (h : k = 0 ∨ 16 < k) : isZone k = false := by
  simp only [isZone, Bool.and_eq_false_iff, decide_eq_false_iff_not]; omega

theorem cfg_channels_length {s : State} (h : s.shaped) : s.cfg.channels.length = 17 := by
  have hcfg := h.1
  simp only [Stored.shaped, Bool.and_eq_true, beq_iff_eq, and_assoc] at hcfg
  exact hcfg.1

theorem parkIn_channel_same (s : State) {k : Nat} (n : Nat) (h1 : 1 ≤ k) (h2 : k ≤ s.channels.length) :
    (s.parkIn k n).channel k = { s.channel k with stack := [] } := channel_setStack_same s k [] h1 h2

theorem parkIn_channel_other (s : State) {k c : Nat} (n : Nat) (h : c ≠ k) : (s.parkIn k n).channel c = s.channel c :=
  channel_setStack_other s k c [] h

theorem parkIn_zone_same (s : State) {k : Nat} (n : Nat) (h1 : 1 ≤ k) (h2 : k ≤ s.zones.length) :
    (s.parkIn k n).zone k =
      { s.zone k with integrator := 0, previous := none, preheat := (s.zone k).preheat.ended } :=
  zone_setZone_same s k _ h1 h2

theorem parkIn_zone_other (s : State) {k j : Nat} (n : Nat) (h : j ≠ k) : (s.parkIn k n).zone j = s.zone j :=
  zone_setZone_other s k j _ h

theorem parkIn_channelCfg (s : State) {k : Nat} (n : Nat) (h1 : 1 ≤ k) (h2 : k ≤ s.cfg.channels.length) :
    (s.parkIn k n).channelCfg k = { s.channelCfg k with priority := 1 } := item_setItem_same _ _ _ _ h1 h2

/-- A parked zone requests at priority 1. -/
theorem parkIn_zoneRequest (s : State) {k : Nat} (n : Nat) (h1 : 1 ≤ k) (h2 : k ≤ s.zones.length)
    (h3 : k ≤ s.cfg.channels.length) :
    (s.parkIn k n).zoneRequest k = if (s.zone k).frostCall then 3 else if (s.zone k).demandCall then 1 else 0 := by
  simp only [State.zoneRequest, parkIn_zone_same s n h1 h2, parkIn_channelCfg s n h1 h3]

theorem parkIn_parked (s : State) (k : Nat) {i : Nat} (h : i < s.cfg.parks.length) :
    (s.parkIn k (i + 1)).parked k = true :=
  parkSlotFrom_isSome (x := s.parkContext k) 1 (List.mem_set h _)

theorem zoneParkWork_parks {s : State} {k i : Nat} (h1 : 1 ≤ k) (h16 : k ≤ 16) (hopen : s.parked k = false)
    (hfree : s.cfg.parks[i]? = some none) (hbelow : ∀ j < i, ∃ x, s.cfg.parks[j]? = some (some x)) :
    zoneParkWork k s = (((s.parkIn k (i + 1)).handZoneRequest k).settle s, .done {} (byteOf (i + 1))) := by
  simp only [zoneParkWork, isZone_of_mem h1 h16, hopen, freeParkFrom_first 1 hfree hbelow, Nat.add_comm 1 i]
  rfl

/-! ## ZONE-UNPARK (R43) -/

/-- Zone `k` with its context back, before the window contact is judged (R43 steps 1 to 4). -/
def State.restored (s : State) (k n : Nat) (x : Park) : State :=
  let s := s.setParks (setItem s.cfg.parks n none)
  let s := s.setStack k x.layers
  let s := s.setZone k {
    s.zone k with integrator := x.integrator, previous := none, preheat := (s.zone k).preheat.ended }
  let s := s.setZoneCfg k { s.zoneCfg k with rate := x.rate }
  s.setChannelCfg k { s.channelCfg k with priority := x.priority }

theorem unparkFrom_eq (s : State) (k n : Nat) (x : Park) : s.unparkFrom k n x =
    if s.windowContact k then (s.restored k n x).placeWindow k .input else s.restored k n x := rfl

/-! ### The window placed on top (R27) -/

theorem placeWindow_onlyRaises (s : State) (k : Nat) (o : Origin) {cs : List Category} (hcs : .stack ∈ cs) :
    s.onlyRaises (s.placeWindow k o) cs := by
  rw [placeWindow_eq]
  refine onlyRaises_congr (t := if (s.channel k).stack.any (·.kind == .window) then s else s.makeRoom k) ?_ rfl rfl
  split
  · exact onlyRaises_refl s cs
  · exact makeRoom_onlyRaises s k hcs

theorem placeWindow_channel_other (s : State) (k c : Nat) (o : Origin) (h : c ≠ k) :
    (s.placeWindow k o).channel c = s.channel c := by
  rw [placeWindow_eq, channel_setStack_other _ _ _ _ h]
  split
  · rfl
  · exact makeRoom_channel_other s k c h

theorem placeWindow_channel_same (s : State) (k : Nat) (o : Origin) (h1 : 1 ≤ k) (h2 : k ≤ s.channels.length) :
    (s.placeWindow k o).channel k =
      { s.channel k with stack := windowPlaced (s.channel k).stack o (s.zoneCfg k).windowTime } := by
  rw [placeWindow_eq]
  split
  · exact channel_setStack_same s k _ h1 h2
  · rw [channel_setStack_same _ _ _ h1 (by rwa [makeRoom_channels_length])]
    simp [makeRoom_plan]

/-- A window that displaces a layer raises STACK. -/
theorem placeWindow_raises {s : State} {k : Nat} (o : Origin) (hfull : 4 ≤ (s.channel k).stack.length)
    (hwindow : (s.channel k).stack.any (·.kind == .window) = false) (p : Port)
    (hattn : (s.port p).attn.length = 16) : (s.placeWindow k o).raised p .stack (object k) := by
  have hroom : (s.makeRoom k).raised p .stack (object k) := by
    rw [makeRoom_full hfull]; exact raised_raise (s := s.setStack k _) p _ _ hattn
  rw [placeWindow_eq, hwindow]
  exact raised_of_onlyRaises (onlyRaises_of_ports [] rfl rfl) hroom

/-! ### What is restored -/

theorem layersOk_windowless {x : Park} (h : x.layersOk = true) :
    x.layers.length ≤ 4 ∧ x.layers.any (·.kind == .window) = false := by
  simp only [Park.layersOk, Bool.and_eq_true, decide_eq_true_eq, List.all_eq_true, bne_iff_ne] at h
  exact ⟨h.1, by simpa using h.2⟩

/-- All that unparking changes. -/
theorem unparkFrom_frame (s : State) (k n : Nat) (x : Park) : s.unparkFrom k n x = { s with
    cfg := { s.cfg with
      parks := setItem s.cfg.parks n none
      channels := setItem s.cfg.channels k { s.channelCfg k with priority := x.priority }
      zones := setItem s.cfg.zones k { s.zoneCfg k with rate := x.rate } }
    channels := (s.unparkFrom k n x).channels
    zones := setItem s.zones k
      { s.zone k with integrator := x.integrator, previous := none, preheat := (s.zone k).preheat.ended }
    main := (s.unparkFrom k n x).main, service := (s.unparkFrom k n x).service } := by
  rw [unparkFrom_eq]
  split
  · rw [placeWindow_eq]
    split
    · rfl
    · unfold State.makeRoom
      dsimp only
      split <;> rfl
  · rfl

theorem unparkFrom_zone_same (s : State) {k : Nat} (n : Nat) (x : Park) (h1 : 1 ≤ k) (h2 : k ≤ s.zones.length) :
    (s.unparkFrom k n x).zone k =
      { s.zone k with integrator := x.integrator, previous := none, preheat := (s.zone k).preheat.ended } := by
  rw [unparkFrom_frame]; exact zone_setZone_same s k _ h1 h2

theorem unparkFrom_zone_other (s : State) {k j : Nat} (n : Nat) (x : Park) (h : j ≠ k) :
    (s.unparkFrom k n x).zone j = s.zone j := by
  rw [unparkFrom_frame]; exact zone_setZone_other s k j _ h

theorem unparkFrom_channel_other (s : State) {k c : Nat} (n : Nat) (x : Park) (h : c ≠ k) :
    (s.unparkFrom k n x).channel c = s.channel c := by
  have hrestored : (s.restored k n x).channel c = s.channel c := channel_setStack_other s k c _ h
  rw [unparkFrom_eq]
  split
  · rw [placeWindow_channel_other _ _ _ _ h, hrestored]
  · exact hrestored

theorem restored_channel (s : State) {k : Nat} (n : Nat) (x : Park) (h1 : 1 ≤ k) (h2 : k ≤ s.channels.length) :
    (s.restored k n x).channel k = { s.channel k with stack := x.layers } := channel_setStack_same s k x.layers h1 h2

theorem unparkFrom_channel_same (s : State) {k : Nat} (n : Nat) {x : Park} (h1 : 1 ≤ k) (h2 : k ≤ s.channels.length)
    (hx : x.layersOk = true) : (s.unparkFrom k n x).channel k = { s.channel k with
      stack := if s.windowContact k then
          (if x.layers.length = 4 then x.layers.tail else x.layers) ++ [⟨.window, none, none, .input⟩]
        else x.layers } := by
  obtain ⟨hlen, hplain⟩ := layersOk_windowless hx
  have hrestored := restored_channel s n x h1 h2
  rw [unparkFrom_eq]
  split
  · rw [placeWindow_channel_same _ _ _ h1 (by simpa [State.restored, length_setItem] using h2), hrestored]
    have hfull : (4 ≤ x.layers.length) = (x.layers.length = 4) := propext ⟨fun h => by omega, fun h => by omega⟩
    simp [windowPlaced, hplain, roomMade_eq, hfull]
  · exact hrestored

theorem unparkFrom_onlyRaises (s : State) (k n : Nat) (x : Park) {cs : List Category} (hcs : .stack ∈ cs) :
    s.onlyRaises (s.unparkFrom k n x) cs := by
  have hrestored : s.onlyRaises (s.restored k n x) cs := onlyRaises_of_ports cs rfl rfl
  rw [unparkFrom_eq]
  split
  · exact onlyRaises_trans hrestored (placeWindow_onlyRaises _ k .input hcs)
  · exact hrestored

theorem unparkFrom_raises {s : State} {k : Nat} (n : Nat) {x : Park} (h1 : 1 ≤ k) (h2 : k ≤ s.channels.length)
    (hx : x.layersOk = true) (hcontact : s.windowContact k = true) (hfull : x.layers.length = 4) (p : Port)
    (hattn : (s.port p).attn.length = 16) : (s.unparkFrom k n x).raised p .stack (object k) := by
  obtain ⟨-, hplain⟩ := layersOk_windowless hx
  have hrestored := restored_channel s n x h1 h2
  rw [unparkFrom_eq, if_pos hcontact]
  exact placeWindow_raises .input (by rw [hrestored]; exact hfull.ge) (by rw [hrestored]; exact hplain) p hattn

theorem zoneUnparkWork_restores {s : State} {k i : Nat} {x : Park} (h1 : 1 ≤ k) (h16 : k ≤ 16)
    (hx : s.cfg.parks[i]? = some (some x)) (hzone : x.zone = k)
    (hbelow : ∀ j < i, ∀ y, s.cfg.parks[j]? = some (some y) → y.zone ≠ k) :
    zoneUnparkWork k s = (((s.unparkFrom k (i + 1) x).handZoneRequest k).settle s, .done {} []) := by
  subst hzone
  have hslot : s.parkSlot x.zone = some (i + 1) := by
    rw [State.parkSlot, parkSlotFrom_first 1 hx hbelow, Nat.add_comm]
  have hitem : item s.cfg.parks (i + 1) none = some x := by simp [item, List.getD, hx]
  simp only [zoneUnparkWork, isZone_of_mem h1 h16, hslot, hitem]
  rfl

/-! ## O19 -/

/-- A ZONE-PARK that is served parks, forms the request and settles. -/
theorem zonePark_answers {p : Port} {k i : Nat} {s : State} (h : s.takes p) (hw : s.storeWriting = false)
    (htable : k ≤ s.table.entries.length) (h1 : 1 ≤ k) (h16 : k ≤ 16) (hopen : s.parked k = false)
    (hfree : s.cfg.parks[i]? = some none) (hbelow : ∀ j < i, ∃ x, s.cfg.parks[j]? = some (some x)) :
    ∃ u w m v main service, u = s.receiving p m v ∧ u.Handed (u.parkIn k (i + 1)) w k ∧
      exec (.zonePark p k) s = .next { w with main, service } ∧
      s.replied { w with main, service } p 0x17 (.done {} [BitVec.ofNat 8 (i + 1)]) [.boiler, .capacity, .sink] := by
  obtain ⟨m, v, hmet⟩ := met_receiving s p
  have hwork := zoneParkWork_parks (s := s.met p) h1 h16 (by rw [met_parked, hopen]) (by simpa using hfree)
    (by simpa using hbelow)
  have hhanded := handZoneRequest_settle_handed (s := s.met p) (u := (s.met p).parkIn k (i + 1)) rfl rfl h1
    (by rw [hmet]; exact htable)
  obtain ⟨main, service, hend, hreplied, -⟩ := requestEvent_form (r := zoneParkRequest k) h hwork
    (onlyRaises_trans (onlyRaises_of_ports _ rfl rfl) hhanded.ports) rfl fun _ => hw
  exact ⟨s.met p, _, m, v, main, service, hmet, hhanded, congrArg Host.Outcome.next hend, hreplied⟩

/-- A ZONE-UNPARK that is served restores, forms the request and settles. -/
theorem zoneUnpark_answers {p : Port} {k i : Nat} {x : Park} {s : State} (h : s.takes p) (hw : s.storeWriting = false)
    (htable : k ≤ s.table.entries.length) (h1 : 1 ≤ k) (h16 : k ≤ 16) (hx : s.cfg.parks[i]? = some (some x))
    (hzone : x.zone = k) (hbelow : ∀ j < i, ∀ y, s.cfg.parks[j]? = some (some y) → y.zone ≠ k) :
    ∃ u w m v main service, u = s.receiving p m v ∧ (∀ q, (u.port q).attn = (s.port q).attn) ∧
      u.Handed (u.unparkFrom k (i + 1) x) w k ∧
      exec (.zoneUnpark p k) s = .next { w with main, service } ∧
      s.replied { w with main, service } p 0x18 (.done {} []) [.stack, .boiler, .capacity, .sink] ∧
      (u.unparkFrom k (i + 1) x).onlyRaises { w with main, service } [.stack, .boiler, .capacity, .sink] := by
  obtain ⟨m, v, hmet⟩ := met_receiving s p
  have hwork := zoneUnparkWork_restores (s := s.met p) h1 h16 (by simpa using hx) hzone (by simpa using hbelow)
  have hframe := unparkFrom_frame (s.met p) k (i + 1) x
  have hhanded := handZoneRequest_settle_handed (s := s.met p) (u := (s.met p).unparkFrom k (i + 1) x)
    (by rw [hframe]) (by rw [hframe]) h1 (by rw [hmet]; exact htable)
  have hports := onlyRaises_mono hhanded.ports (ds := [.stack, .boiler, .capacity, .sink]) (by simp)
  obtain ⟨main, service, hend, hreplied, hrest⟩ := requestEvent_form (r := zoneUnparkRequest k) h hwork
    (onlyRaises_trans (unparkFrom_onlyRaises (s.met p) k (i + 1) x (by simp)) hports) rfl fun _ => hw
  exact ⟨s.met p, _, m, v, main, service, hmet, met_attn s p, hhanded, congrArg Host.Outcome.next hend, hreplied,
    onlyRaises_trans hports hrest⟩

theorem zoneParkWork_range {k : Nat} (s : State) (h : k = 0 ∨ 16 < k) : zoneParkWork k s = (s, .refused .range) := by
  rw [zoneParkWork, isZone_outside h]; rfl

theorem zoneParkWork_parked {s : State} {k : Nat} (h1 : 1 ≤ k) (h16 : k ≤ 16) (h : s.parked k = true) :
    zoneParkWork k s = (s, .refused .state) := by
  rw [zoneParkWork, isZone_of_mem h1 h16, h]; rfl

theorem zoneParkWork_full {s : State} {k : Nat} (h1 : 1 ≤ k) (h16 : k ≤ 16) (h : s.parked k = false)
    (hfull : ∀ x ∈ s.cfg.parks, x ≠ none) : zoneParkWork k s = (s, .refused .full) := by
  rw [zoneParkWork, isZone_of_mem h1 h16, h, freeParkFrom_full 1 hfull]; rfl

theorem zoneUnparkWork_range {k : Nat} (s : State) (h : k = 0 ∨ 16 < k) : zoneUnparkWork k s = (s, .refused .range) := by
  rw [zoneUnparkWork, isZone_outside h]; rfl

theorem zoneUnparkWork_open {s : State} {k : Nat} (h1 : 1 ≤ k) (h16 : k ≤ 16) (h : s.parked k = false) :
    zoneUnparkWork k s = (s, .refused .state) := by
  have hslot : s.parkSlot k = none := by simpa [State.parked] using h
  rw [zoneUnparkWork, isZone_of_mem h1 h16, hslot]; rfl

/-- A refused ZONE-PARK. -/
theorem zonePark_refused {p : Port} {k : Nat} {s : State} {code : RefusalCode} (h : s.takes p) (hw : s.storeWriting = false)
    (hwork : zoneParkWork k (s.met p) = (s.met p, .refused code)) : refusesWith (.zonePark p k) p 0x17 (.refused code) s :=
  ⟨_, rfl, requestEvent_refused p (zoneParkRequest k) s (.refused code) h rfl (fun _ => hw) hwork⟩

/-- A refused ZONE-UNPARK. -/
theorem zoneUnpark_refused {p : Port} {k : Nat} {s : State} {code : RefusalCode} (h : s.takes p) (hw : s.storeWriting = false)
    (hwork : zoneUnparkWork k (s.met p) = (s.met p, .refused code)) :
    refusesWith (.zoneUnpark p k) p 0x18 (.refused code) s :=
  ⟨_, rfl, requestEvent_refused p (zoneUnparkRequest k) s (.refused code) h rfl (fun _ => hw) hwork⟩

/-- Settles O19: the context is `parkContext`, what comes back is `unparkFrom`, and the request reaches flow setpoint and
ramp as `settle_flowFollows` says. -/
theorem parkingSavesAndRestoresTheContext : Obligations.ParkingSavesAndRestoresTheContext := by
  refine ⟨fun p k s h hw hshape => ⟨fun i h1 h16 hopen hfree hbelow => ?_,
      fun hout => zonePark_refused h hw (zoneParkWork_range _ hout),
      fun h1 h16 hparked => zonePark_refused h hw (zoneParkWork_parked h1 h16 (by rw [met_parked, hparked])),
      fun h1 h16 hopen hfull => zonePark_refused h hw
        (zoneParkWork_full h1 h16 (by rw [met_parked, hopen]) (by simpa using hfull))⟩,
    fun p k s h hw hshape => ⟨fun i x h1 h16 hx hzone hok hbelow => ?_,
      fun hout => zoneUnpark_refused h hw (zoneUnparkWork_range _ hout),
      fun h1 h16 hopen => zoneUnpark_refused h hw (zoneUnparkWork_open h1 h16 (by rw [met_parked, hopen]))⟩⟩
  all_goals
    have hchannels : k ≤ s.channels.length := by rw [channels_length hshape]; omega
    have hzones : k ≤ s.zones.length := by rw [zones_length hshape]; omega
    have htable : k ≤ s.table.entries.length := by rw [table_length hshape]; omega
  · have hconfigured : k ≤ s.cfg.channels.length := by rw [cfg_channels_length hshape]; omega
    obtain ⟨u, w, m, v, main, service, rfl, hw, hexec, hreplied⟩ :=
      zonePark_answers h hw htable h1 h16 hopen hfree hbelow
    have hi : i < s.cfg.parks.length := (List.getElem?_eq_some_iff.mp hfree).1
    refine ⟨_, hexec, hreplied, ?_, hw.cfg, ?_, fun c hc => ?_, ?_, fun j hj => ?_, ?_, hw.requesting, fun _ => hw.follows, ?_⟩
    · rw [hw.frame]; rfl
    · exact (hw.channel k).trans (parkIn_channel_same _ _ h1 hchannels)
    · exact (hw.channel c).trans (parkIn_channel_other _ _ hc)
    · exact (hw.zone k).trans (parkIn_zone_same _ _ h1 hzones)
    · exact (hw.zone j).trans (parkIn_zone_other _ _ hj)
    · exact hw.level.trans (parkIn_zoneRequest _ _ h1 hzones hconfigured)
    · have hparked : w.parked k = true := by
        rw [State.parked, State.parkSlot, hw.cfg]; exact parkIn_parked (s.receiving p m v) k hi
      refine (effectiveSetpoint_parked (s := { w with main, service }) hparked).trans ?_
      exact (congrArg ChannelCfg.frost ((hw.channelCfg k).trans (parkIn_channelCfg _ _ h1 hconfigured)) :)
  · obtain ⟨u, w, m, v, main, service, rfl, hattn, hw, hexec, hreplied, hraises⟩ :=
      zoneUnpark_answers h hw htable h1 h16 hx hzone hbelow
    have hframe := unparkFrom_frame (s.receiving p m v) k (i + 1) x
    have hsame : (s.receiving p m v).windowContact k = s.windowContact k := rfl
    refine ⟨_, hexec, hreplied, ?_, ?_, ?_, fun hcontact hfull q => ?_, fun c hc => ?_, ?_, fun j hj => ?_, ?_, hw.requesting,
      fun _ => hw.follows⟩
    · rw [hw.frame, hframe]
    · exact hw.cfg.trans (congrArg State.cfg hframe)
    · have hchannel := (hw.channel k).trans (unparkFrom_channel_same (s.receiving p m v) (i + 1) h1 hchannels hok)
      rw [hsame] at hchannel
      exact hchannel
    · have hraised := unparkFrom_raises (s := s.receiving p m v) (i + 1) h1 hchannels hok (hsame.trans hcontact) hfull q
        ((congrArg List.length (hattn q)).trans (attn_length hshape q))
      exact raised_of_onlyRaises hraises hraised
    · exact (hw.channel c).trans (unparkFrom_channel_other _ _ _ hc)
    · exact (hw.zone k).trans (unparkFrom_zone_same _ _ _ h1 hzones)
    · exact (hw.zone j).trans (unparkFrom_zone_other _ _ _ hj)
    · exact hw.level.trans (zoneRequest_congr k hw.cfg hw.zones).symm

end Sys2Proof.Machine
end

section
/-! PROOF. The stages of a regulation pass up to the calls (R52; O21). -/

namespace Sys2Proof.Machine

/-! ## What every stage leaves -/

/-- What a stage of zone `k`'s pass leaves: all but the zone's record and stack, and in the record reading and preheat; the
ports but for raises of SENSOR and STACK. -/
structure State.StageKeeps (s t : State) (k : Nat) : Prop where
  frame : t = { s with channels := t.channels, zones := t.zones, main := t.main, service := t.service }
  channel : ∀ c, c ≠ k → t.channel c = s.channel c
  plan : (t.channel k).plan = (s.channel k).plan
  channelsLength : t.channels.length = s.channels.length
  zone : ∀ j, j ≠ k → t.zone j = s.zone j
  zonesLength : t.zones.length = s.zones.length
  reading : (t.zone k).reading = (s.zone k).reading
  preheat : (t.zone k).preheat = (s.zone k).preheat
  passDue : (t.zone k).passDue = (s.zone k).passDue
  frostCall : (t.zone k).frostCall = (s.zone k).frostCall
  demandCall : (t.zone k).demandCall = (s.zone k).demandCall
  ports : s.onlyRaises t [.sensor, .stack]

namespace State.StageKeeps

variable {s t : State} {k : Nat} (h : s.StageKeeps t k)
include h

theorem cfg : t.cfg = s.cfg := (congrArg State.cfg h.frame :)

theorem clock : t.clock = s.clock := (congrArg State.clock h.frame :)

theorem table : t.table = s.table := (congrArg State.table h.frame :)

theorem zoneCfg (j : Nat) : t.zoneCfg j = s.zoneCfg j := (congrArg (State.zoneCfg · j) h.frame :)

theorem channelCfg (c : Nat) : t.channelCfg c = s.channelCfg c := (congrArg (State.channelCfg · c) h.frame :)

theorem parked (c : Nat) : t.parked c = s.parked c := (congrArg (State.parked · c) h.frame :)

theorem frozen : t.frozen k = s.frozen k := (congrArg (State.frozen · k) h.frame :)

theorem freshReading : t.freshReading k = s.freshReading k := by
  rw [State.freshReading, State.freshReading, h.reading, h.clock, h.zoneCfg]

end State.StageKeeps

/-- A stage that writes the zone's record alone. -/
theorem setZone_stageKeeps (s : State) (k : Nat) {z : ZoneRun} (hreading : z.reading = (s.zone k).reading)
    (hpreheat : z.preheat = (s.zone k).preheat) (hdue : z.passDue = (s.zone k).passDue)
    (hfrost : z.frostCall = (s.zone k).frostCall) (hdemand : z.demandCall = (s.zone k).demandCall) :
    s.StageKeeps (s.setZone k z) k where
  frame := rfl
  channel _ _ := rfl
  plan := rfl
  channelsLength := rfl
  zone j hj := zone_setZone_other s k j z hj
  zonesLength := length_setItem _ _ _
  reading := zone_setZone_part ZoneRun.reading s k z hreading k
  preheat := zone_setZone_part ZoneRun.preheat s k z hpreheat k
  passDue := zone_setZone_part ZoneRun.passDue s k z hdue k
  frostCall := zone_setZone_part ZoneRun.frostCall s k z hfrost k
  demandCall := zone_setZone_part ZoneRun.demandCall s k z hdemand k
  ports := onlyRaises_of_ports _ rfl rfl

theorem State.StageKeeps.refl (s : State) (k : Nat) : s.StageKeeps s k :=
  ⟨rfl, fun _ _ => rfl, rfl, rfl, fun _ _ => rfl, rfl, rfl, rfl, rfl, rfl, rfl, onlyRaises_refl s _⟩

theorem State.StageKeeps.trans {s t u : State} {k : Nat} (h : s.StageKeeps t k) (h' : t.StageKeeps u k) :
    s.StageKeeps u k where
  frame := by rw [h'.frame, h.frame]
  channel c hc := (h'.channel c hc).trans (h.channel c hc)
  plan := h'.plan.trans h.plan
  channelsLength := h'.channelsLength.trans h.channelsLength
  zone j hj := (h'.zone j hj).trans (h.zone j hj)
  zonesLength := h'.zonesLength.trans h.zonesLength
  reading := h'.reading.trans h.reading
  preheat := h'.preheat.trans h.preheat
  passDue := h'.passDue.trans h.passDue
  frostCall := h'.frostCall.trans h.frostCall
  demandCall := h'.demandCall.trans h.demandCall
  ports := onlyRaises_trans h.ports h'.ports

theorem raise_stageKeeps (s : State) (k : Nat) {c : Category} (o : ObjectSet) (hc : c ∈ [Category.sensor, .stack]) :
    s.StageKeeps (s.raise c o) k where
  frame := rfl
  channel _ _ := rfl
  plan := rfl
  channelsLength := rfl
  zone _ _ := rfl
  zonesLength := rfl
  reading := rfl
  preheat := rfl
  passDue := rfl
  frostCall := rfl
  demandCall := rfl
  ports := onlyRaises_raise s c o hc

/-! ## Stage 1: the optimum start (R17, R20, R21) -/

theorem preheatSearch_form (s : State) (k : Nat) : ∃ p, s.preheatSearch k = s.setPreheat k p := by
  have hkeep : ∃ p, s = s.setPreheat k p := ⟨_, (setPreheat_self s k).symm⟩
  unfold State.preheatSearch
  split
  · exact hkeep
  split
  · split
    · exact ⟨_, rfl⟩
    · exact hkeep
  · exact hkeep

theorem setZoneCfg_self (s : State) (k : Nat) : s.setZoneCfg k (s.zoneCfg k) = s :=
  congrArg (fun l => { s with cfg := { s.cfg with zones := l } }) (setItem_item s.cfg.zones k _)

theorem learnWith_form (s : State) (k : Nat) (run : PreheatRun) (next : Preheat) :
    ∃ rate p, s.learnWith k run next = (s.setZoneCfg k { s.zoneCfg k with rate }).setPreheat k p := by
  have hkeep : ∃ rate p, s = (s.setZoneCfg k { s.zoneCfg k with rate }).setPreheat k p :=
    ⟨(s.zoneCfg k).rate, (s.zone k).preheat, by rw [setZoneCfg_self, setPreheat_self]⟩
  unfold State.learnWith
  split
  · exact hkeep
  split
  · exact ⟨_, _, rfl⟩
  · exact hkeep

theorem preheatLearn_form (s : State) (k : Nat) :
    ∃ rate p, s.preheatLearn k = (s.setZoneCfg k { s.zoneCfg k with rate }).setPreheat k p := by
  unfold State.preheatLearn
  split
  · exact ⟨(s.zoneCfg k).rate, (s.zone k).preheat, by rw [setZoneCfg_self, setPreheat_self]⟩
  · exact learnWith_form ..
  · exact learnWith_form ..

/-- The first stage changes the zone's rate and its preheat record. -/
theorem optimumStart_form (s : State) {k : Nat} (h1 : 1 ≤ k) (h2 : k ≤ s.zones.length) :
    ∃ rate p, s.optimumStart k = (s.setZoneCfg k { s.zoneCfg k with rate }).setPreheat k p := by
  obtain ⟨p, hsearch⟩ := preheatSearch_form s k
  obtain ⟨rate, q, hlearn⟩ := preheatLearn_form ((s.preheatSearch k).spoilCheck k) k
  refine ⟨rate, q, hlearn.trans ?_⟩
  rw [hsearch, State.spoilCheck, setPreheat_setPreheat s k _ _ h1 h2]
  exact setPreheat_setPreheat (s.setZoneCfg k { s.zoneCfg k with rate }) k _ q h1 h2

/-- The pass taken and its first stage gone through, with this rate and this record (R51, R52). -/
def State.started (s : State) (k rate : Nat) (p : Preheat) : State :=
  ((s.passTaken k).setZoneCfg k { s.zoneCfg k with rate }).setPreheat k p

theorem passTaken_optimumStart {s : State} {k : Nat} (h1 : 1 ≤ k) (h2 : k ≤ s.zones.length) :
    ∃ rate p, (s.passTaken k).optimumStart k = s.started k rate p :=
  optimumStart_form (s.passTaken k) h1 (by rwa [State.passTaken, State.setZone, length_setItem])

theorem started_zone_same (s : State) {k : Nat} (rate : Nat) (p : Preheat) (h1 : 1 ≤ k) (h2 : k ≤ s.zones.length) :
    (s.started k rate p).zone k = { s.zone k with passDue := false, preheat := p } := by
  have htaken : (s.passTaken k).zone k = { s.zone k with passDue := false } := zone_setZone_same s k _ h1 h2
  rw [State.started, State.setPreheat, zone_setZone_same _ _ _ h1 (by
    show k ≤ (s.passTaken k).zones.length
    rwa [State.passTaken, State.setZone, length_setItem])]
  exact congrArg (fun z : ZoneRun => { z with preheat := p }) htaken

theorem started_zone_other (s : State) {k j : Nat} (rate : Nat) (p : Preheat) (h : j ≠ k) :
    (s.started k rate p).zone j = s.zone j :=
  (zone_setZone_other ((s.passTaken k).setZoneCfg k _) k j _ h).trans (zone_setZone_other s k j _ h)

theorem started_zones_length (s : State) (k rate : Nat) (p : Preheat) :
    (s.started k rate p).zones.length = s.zones.length := by
  simp [State.started, State.setPreheat, State.passTaken, State.setZone, length_setItem]

theorem started_zoneCfg (s : State) {k : Nat} (rate : Nat) (p : Preheat) (h1 : 1 ≤ k) (h2 : k ≤ s.cfg.zones.length) :
    (s.started k rate p).zoneCfg k = { s.zoneCfg k with rate } := zoneCfg_setZoneCfg_same s k _ h1 h2

theorem started_freshReading (s : State) {k : Nat} (rate : Nat) (p : Preheat) (h1 : 1 ≤ k) (h2 : k ≤ s.zones.length)
    (h3 : k ≤ s.cfg.zones.length) : (s.started k rate p).freshReading k = s.freshReading k := by
  rw [State.freshReading, State.freshReading, started_zone_same s rate p h1 h2, started_zoneCfg s rate p h1 h3]; rfl

theorem started_detects (s : State) {k : Nat} (rate : Nat) (p : Preheat) (h1 : 1 ≤ k) (h2 : k ≤ s.zones.length)
    (h3 : k ≤ s.cfg.zones.length) : (s.started k rate p).detects k = s.detects k := by
  have hparked : (s.started k rate p).parked k = s.parked k := rfl
  rw [State.detects, State.detects, started_freshReading s rate p h1 h2 h3, started_zone_same s rate p h1 h2,
    started_zoneCfg s rate p h1 h3, hparked]

/-! ## Stage 2: window detection (R36, R27) -/

/-- The state with the window that detection places. -/
def State.windowSet (s : State) (k : Nat) : State := if s.detects k then s.placeWindow k .detect else s

theorem windowSet_zones (s : State) (k : Nat) : (s.windowSet k).zones = s.zones := by
  unfold State.windowSet; split
  · obtain ⟨-, -, -, -, hzones, -⟩ := placeWindow_keeps s k .detect
    exact hzones
  · rfl

theorem placeWindow_frame (s : State) (k : Nat) (o : Origin) : s.placeWindow k o = { s with
    channels := (s.placeWindow k o).channels, main := (s.placeWindow k o).main, service := (s.placeWindow k o).service } := by
  rw [placeWindow_eq]
  split
  · rfl
  · unfold State.makeRoom
    dsimp only
    split <;> rfl

theorem placeWindow_channels_length (s : State) (k : Nat) (o : Origin) :
    (s.placeWindow k o).channels.length = s.channels.length := by
  rw [placeWindow_eq]
  split
  · exact length_setItem _ _ _
  · exact (length_setItem _ _ _).trans (makeRoom_channels_length s k)

theorem placeWindow_stageKeeps (s : State) {k : Nat} (o : Origin) (h1 : 1 ≤ k) (h2 : k ≤ s.channels.length) :
    s.StageKeeps (s.placeWindow k o) k := by
  have hzones : (s.placeWindow k o).zones = s.zones := (congrArg State.zones (placeWindow_frame s k o) :)
  have hzone (j : Nat) : (s.placeWindow k o).zone j = s.zone j := zone_congr j hzones
  exact {
    frame := by rw [placeWindow_frame]
    channel := fun c hc => placeWindow_channel_other s k c o hc
    plan := by rw [placeWindow_channel_same s k o h1 h2]
    channelsLength := placeWindow_channels_length s k o
    zone := fun j _ => hzone j
    zonesLength := by rw [hzones]
    reading := by rw [hzone]
    preheat := by rw [hzone]
    passDue := by rw [hzone]
    frostCall := by rw [hzone]
    demandCall := by rw [hzone]
    ports := placeWindow_onlyRaises s k o (by simp) }

theorem windowSet_stageKeeps (s : State) {k : Nat} (h1 : 1 ≤ k) (h2 : k ≤ s.channels.length) :
    s.StageKeeps (s.windowSet k) k := by
  unfold State.windowSet; split
  · exact placeWindow_stageKeeps s .detect h1 h2
  · exact .refl s k

theorem windowDetection_stageKeeps (s : State) {k : Nat} (h1 : 1 ≤ k) (h2 : k ≤ s.channels.length) :
    s.StageKeeps (s.windowDetection k) k :=
  (windowSet_stageKeeps s h1 h2).trans (setZone_stageKeeps (s.windowSet k) k rfl rfl rfl rfl rfl)

theorem windowDetection_zone (s : State) {k : Nat} (h1 : 1 ≤ k) (h2 : k ≤ s.zones.length) :
    (s.windowDetection k).zone k = { s.zone k with previous := s.freshReading k } := by
  have hzone : (s.windowSet k).zone k = s.zone k := zone_congr k (windowSet_zones s k)
  have hset := zone_setZone_same (s.windowSet k) k { (s.windowSet k).zone k with previous := s.freshReading k } h1
    (by rwa [windowSet_zones])
  exact hset.trans (congrArg (fun z : ZoneRun => { z with previous := s.freshReading k }) hzone)

theorem windowDetection_channel (s : State) {k : Nat} (h1 : 1 ≤ k) (h2 : k ≤ s.channels.length) :
    ((s.windowDetection k).channel k).stack =
      if s.detects k then windowPlaced (s.channel k).stack .detect (s.zoneCfg k).windowTime else (s.channel k).stack := by
  show ((s.windowSet k).channel k).stack = _
  unfold State.windowSet; split
  · rw [placeWindow_channel_same s k .detect h1 h2]
  · rfl

theorem windowDetection_raises {s : State} {k : Nat} (hdetects : s.detects k = true) (hfull : 4 ≤ (s.channel k).stack.length)
    (hwindow : (s.channel k).stack.any (·.kind == .window) = false) (p : Port)
    (hattn : (s.port p).attn.length = 16) : (s.windowDetection k).raised p .stack (object k) := by
  have hset : s.windowSet k = s.placeWindow k .detect := if_pos hdetects
  have hraised : (s.windowSet k).raised p .stack (object k) := by
    rw [hset]; exact placeWindow_raises .detect hfull hwindow p hattn
  exact raised_of_onlyRaises (onlyRaises_of_ports [] rfl rfl) hraised

end Sys2Proof.Machine
end

section
/-! PROOF. Demand and calls of a regulation pass (R54 to R62; O21). -/

namespace Sys2Proof.Machine

/-! ## Stage 4: the demand -/

theorem effectiveSetpoint_congr {s t : State} (c : Nat) (hclock : t.clock = s.clock) (hcfg : t.cfg = s.cfg)
    (hchannel : t.channel c = s.channel c) (hpreheat : (t.zone c).preheat = (s.zone c).preheat) :
    t.effectiveSetpoint c = s.effectiveSetpoint c := by
  simp only [State.effectiveSetpoint, State.parked, State.parkSlot, State.channelCfg, State.baseTemp,
    State.baseTempLevel, State.baseLevel, State.planLevel, hclock, hcfg, hchannel, hpreheat] <;> rfl

theorem regulate_stageKeeps (s : State) (k : Nat) (r : Temp) : s.StageKeeps (s.regulate k r) k :=
  setZone_stageKeeps s k rfl rfl rfl rfl rfl

theorem regulate_zone (s : State) {k : Nat} (r : Temp) (h1 : 1 ≤ k) (h2 : k ≤ s.zones.length) :
    (((s.regulate k r).zone k).integrator, ((s.regulate k r).zone k).demand) =
        piCompute (s.zoneCfg k) (s.effectiveSetpoint k) r (s.zone k).integrator (s.frozen k) ∧
      ((s.regulate k r).zone k).sensorless = false ∧ ((s.regulate k r).zone k).previous = (s.zone k).previous := by
  have hzone : (s.regulate k r).zone k = _ := zone_setZone_same s k _ h1 h2
  rw [hzone]
  exact ⟨rfl, rfl, rfl⟩

/-- The state whose sensorless stage has raised SENSOR, where the zone was not SENSORLESS before (R59). -/
def State.sensorRaised (s : State) (k : Nat) : State := if (s.zone k).sensorless then s else s.raise .sensor (object k)

theorem sensorRaised_stageKeeps (s : State) (k : Nat) : s.StageKeeps (s.sensorRaised k) k := by
  unfold State.sensorRaised; split
  · exact .refl s k
  · exact raise_stageKeeps s k _ (by simp)

theorem sensorRaised_zones (s : State) (k : Nat) : (s.sensorRaised k).zones = s.zones := by
  unfold State.sensorRaised; split <;> rfl

theorem sensorlessStage_stageKeeps (s : State) (k : Nat) : s.StageKeeps (s.sensorlessStage k) k :=
  (sensorRaised_stageKeeps s k).trans (setZone_stageKeeps (s.sensorRaised k) k rfl rfl rfl rfl rfl)

theorem sensorlessStage_zone (s : State) {k : Nat} (h1 : 1 ≤ k) (h2 : k ≤ s.zones.length) :
    (s.sensorlessStage k).zone k = { s.zone k with demand := s.fallbackDemand k, sensorless := true } := by
  have hzone : (s.sensorRaised k).zone k = s.zone k := zone_congr k (sensorRaised_zones s k)
  have hset := zone_setZone_same (s.sensorRaised k) k
    { (s.sensorRaised k).zone k with demand := s.fallbackDemand k, sensorless := true } h1 (by rwa [sensorRaised_zones])
  exact hset.trans (congrArg (fun z : ZoneRun => { z with demand := s.fallbackDemand k, sensorless := true }) hzone)

theorem sensorlessStage_raises {s : State} {k : Nat} (h : (s.zone k).sensorless = false) (p : Port)
    (hattn : (s.port p).attn.length = 16) : (s.sensorlessStage k).raised p .sensor (object k) := by
  have hset : s.sensorRaised k = s.raise .sensor (object k) := if_neg (by simp [h])
  have hraised : (s.sensorRaised k).raised p .sensor (object k) := by rw [hset]; exact raised_raise p _ _ hattn
  exact raised_of_onlyRaises (onlyRaises_of_ports [] rfl rfl) hraised

theorem demandStage_fresh {s : State} {k : Nat} {r : Temp} (h : s.freshReading k = some r) :
    s.demandStage k = s.regulate k r := by rw [State.demandStage, h]

theorem demandStage_stale {s : State} {k : Nat} (h : s.freshReading k = none) : s.demandStage k = s.sensorlessStage k := by
  rw [State.demandStage, h]

theorem demandStage_stageKeeps (s : State) (k : Nat) : s.StageKeeps (s.demandStage k) k := by
  cases h : s.freshReading k with
  | some r => rw [demandStage_fresh h]; exact regulate_stageKeeps s k r
  | none => rw [demandStage_stale h]; exact sensorlessStage_stageKeeps s k

theorem demandStage_previous (s : State) {k : Nat} (h1 : 1 ≤ k) (h2 : k ≤ s.zones.length) :
    ((s.demandStage k).zone k).previous = (s.zone k).previous := by
  cases h : s.freshReading k with
  | some r =>
    rw [demandStage_fresh h]
    obtain ⟨-, -, hprevious⟩ := regulate_zone s r h1 h2
    exact hprevious
  | none => rw [demandStage_stale h, sensorlessStage_zone s h1 h2]

/-! ## Stage 5: the calls -/

theorem callStage_zone (s : State) {k : Nat} (h1 : 1 ≤ k) (h2 : k ≤ s.zones.length) :
    (s.callStage k).zone k = { s.zone k with
      frostCall := frostCallAfter (s.zone k).frostCall (s.channelCfg k).frost (s.freshReading k)
      demandCall := demandCallAfter (s.zone k).demandCall (s.zone k).demand (s.zoneCfg k).requestAt
        (s.zoneCfg k).releaseAt } := zone_setZone_same s k _ h1 h2

theorem frostCallAfter_some (held : Bool) (frost r : Temp) :
    frostCallAfter held frost (some r) = true ↔ r < frost ∨ held = true ∧ r < frost + 5 := by
  simp only [frostCallAfter]
  split
  · next h => simp [h]
  split
  · next h h' => simp [h, Int.not_lt.mpr h']
  · next h h' => simp [h, Int.not_le.mp h']

theorem demandCallAfter_iff (held : Bool) (demand requestAt releaseAt : Nat) :
    demandCallAfter held demand requestAt releaseAt = true ↔
      if held then releaseAt ≤ demand else requestAt ≤ demand := by
  cases held <;> simp [demandCallAfter]

/-! ## The stages together -/

/-- Zone `k`'s pass up to its calls: stages 1 to 5 (R52). -/
def State.called (s : State) (k : Nat) : State :=
  ((((s.passTaken k).optimumStart k).windowDetection k).demandStage k).callStage k

theorem pass_eq (s : State) (k : Nat) : s.pass k = (s.called k).handOn k (s.zone k).demand := rfl

/-- What stages 1 to 5 of zone `k`'s pass make of `s`. -/
structure State.Called (s c : State) (k : Nat) : Prop where
  frame : c = { s with cfg := c.cfg, channels := c.channels, zones := c.zones, main := c.main, service := c.service }
  cfg : c.cfg = { s.cfg with zones := setItem s.cfg.zones k { s.zoneCfg k with rate := (c.zoneCfg k).rate } }
  channel : ∀ d, d ≠ k → c.channel d = s.channel d
  plan : (c.channel k).plan = (s.channel k).plan
  stack : (c.channel k).stack =
    if s.detects k then windowPlaced (s.channel k).stack .detect (s.zoneCfg k).windowTime else (s.channel k).stack
  zone : ∀ j, j ≠ k → c.zone j = s.zone j
  passDue : (c.zone k).passDue = false
  reading : (c.zone k).reading = (s.zone k).reading
  previous : (c.zone k).previous = s.freshReading k
  ports : s.onlyRaises c [.sensor, .stack]
  stackRaised : s.detects k = true → 4 ≤ (s.channel k).stack.length →
    (s.channel k).stack.any (·.kind == .window) = false → ∀ q, c.raised q .stack (object k)
  fresh : ∀ r, s.freshReading k = some r →
    ((c.zone k).integrator, (c.zone k).demand) =
      piCompute (s.zoneCfg k) (c.effectiveSetpoint k) r (s.zone k).integrator (s.frozen k) ∧
    (c.zone k).sensorless = false ∧
    ((c.zone k).frostCall = true ↔
      r < (s.channelCfg k).frost ∨ (s.zone k).frostCall = true ∧ r < (s.channelCfg k).frost + 5)
  stale : s.freshReading k = none →
    (c.zone k).integrator = (s.zone k).integrator ∧ (c.zone k).demand = s.fallbackDemand k ∧
    (c.zone k).sensorless = true ∧ (c.zone k).frostCall = false ∧
    ((s.zone k).sensorless = false → ∀ q, c.raised q .sensor (object k))
  demandCall : (c.zone k).demandCall = true ↔
    if (s.zone k).demandCall then (s.zoneCfg k).releaseAt ≤ (c.zone k).demand
    else (s.zoneCfg k).requestAt ≤ (c.zone k).demand

/-- The demand of stage 4, where stages 2 to 4 go on from `u`. -/
structure State.Demanded (u d : State) (k : Nat) : Prop where
  keeps : u.StageKeeps d k
  previous : (d.zone k).previous = u.freshReading k
  stack : (d.channel k).stack =
    if u.detects k then windowPlaced (u.channel k).stack .detect (u.zoneCfg k).windowTime else (u.channel k).stack
  stackRaised : u.detects k = true → 4 ≤ (u.channel k).stack.length →
    (u.channel k).stack.any (·.kind == .window) = false → ∀ q, (u.port q).attn.length = 16 →
      d.raised q .stack (object k)
  fresh : ∀ r, u.freshReading k = some r →
    ((d.zone k).integrator, (d.zone k).demand) =
      piCompute (u.zoneCfg k) (d.effectiveSetpoint k) r (u.zone k).integrator (u.frozen k) ∧
    (d.zone k).sensorless = false
  stale : u.freshReading k = none →
    (d.zone k).integrator = (u.zone k).integrator ∧ (d.zone k).demand = u.fallbackDemand k ∧
    (d.zone k).sensorless = true ∧
    ((u.zone k).sensorless = false → ∀ q, (u.port q).attn.length = 16 → d.raised q .sensor (object k))

theorem detects_stale {s : State} {k : Nat} (h : s.freshReading k = none) : s.detects k = false := by
  rw [State.detects, h]

theorem windowDetection_demandStage {u : State} {k : Nat} (h1 : 1 ≤ k) (hz : k ≤ u.zones.length)
    (hc : k ≤ u.channels.length) : u.Demanded ((u.windowDetection k).demandStage k) k := by
  have hwindow := windowDetection_stageKeeps u h1 hc
  have hzone := windowDetection_zone u h1 hz
  have hdemand := demandStage_stageKeeps (u.windowDetection k) k
  have hz' : k ≤ (u.windowDetection k).zones.length := hwindow.zonesLength ▸ hz
  have hchannel : ((u.windowDetection k).demandStage k).channel k = (u.windowDetection k).channel k := by
    obtain ⟨-, -, -, -, hchannels, -⟩ := demandStage_keeps (u.windowDetection k) k
    exact channel_congr k hchannels
  refine {
    keeps := hwindow.trans hdemand
    previous := by rw [demandStage_previous _ h1 hz', hzone]
    stack := by rw [hchannel, windowDetection_channel u h1 hc]
    stackRaised := fun hdetects hfull hnone q hattn =>
      raised_of_onlyRaises hdemand.ports (windowDetection_raises hdetects hfull hnone q hattn)
    fresh := fun r hr => ?_
    stale := fun hstale => ?_ }
  · have hsetpoint := effectiveSetpoint_congr k hdemand.clock hdemand.cfg hchannel hdemand.preheat
    have hstage := demandStage_fresh (hwindow.freshReading.trans hr)
    obtain ⟨hpi, hclear, -⟩ := regulate_zone (u.windowDetection k) r h1 hz'
    rw [hsetpoint, hstage]
    rw [hwindow.zoneCfg, hwindow.frozen, hzone] at hpi
    exact ⟨hpi, hclear⟩
  · have hstage := demandStage_stale (hwindow.freshReading.trans hstale)
    have hfallback : (u.windowDetection k).fallbackDemand k = u.fallbackDemand k := by
      rw [State.fallbackDemand, State.fallbackDemand, hwindow.parked, hwindow.zoneCfg, windowDetection_channel u h1 hc,
        detects_stale hstale]
      rfl
    rw [hstage, sensorlessStage_zone _ h1 hz', hfallback, hzone]
    refine ⟨rfl, rfl, rfl, fun hclear q hattn => sensorlessStage_raises (by rw [hzone]; exact hclear) q ?_⟩
    rw [attn_length_of_onlyRaises hwindow.ports q, hattn]

theorem called_called {s : State} (hshape : s.shaped) {k : Nat} (h1 : 1 ≤ k) (h16 : k ≤ 16) : s.Called (s.called k) k := by
  have hzones : k ≤ s.zones.length := by rw [zones_length hshape]; omega
  have hchannels : k ≤ s.channels.length := by rw [channels_length hshape]; omega
  have hconfigured : k ≤ s.cfg.zones.length := by rw [cfg_zones_length hshape]; omega
  obtain ⟨rate, p, hstart⟩ := passTaken_optimumStart h1 hzones
  have hdef : s.called k = (((s.started k rate p).windowDetection k).demandStage k).callStage k :=
    congrArg (fun u : State => ((u.windowDetection k).demandStage k).callStage k) hstart
  have hu := windowDetection_demandStage (u := s.started k rate p) h1 (by rwa [started_zones_length]) hchannels
  have huzone := started_zone_same s rate p h1 hzones
  have hucfg := started_zoneCfg s rate p h1 hconfigured
  have hufresh := started_freshReading s rate p h1 hzones hconfigured
  have hudetects := started_detects s rate p h1 hzones hconfigured
  rw [hdef]
  generalize ((s.started k rate p).windowDetection k).demandStage k = d at hu
  have hd := hu.keeps
  have hcalls := callStage_zone d h1 (by rw [hd.zonesLength, started_zones_length]; exact hzones)
  have hsetpoint : (d.callStage k).effectiveSetpoint k = d.effectiveSetpoint k :=
    effectiveSetpoint_congr k rfl rfl rfl (by rw [hcalls])
  have hrate : ((d.callStage k).zoneCfg k).rate = rate := by
    rw [show (d.callStage k).zoneCfg k = d.zoneCfg k from rfl, hd.zoneCfg, hucfg]
  have hfresh : d.freshReading k = s.freshReading k := hd.freshReading.trans hufresh
  have hports : s.onlyRaises (d.callStage k) [.sensor, .stack] :=
    onlyRaises_congr (onlyRaises_trans (onlyRaises_of_ports _ rfl rfl) hd.ports) rfl rfl
  refine {
    frame := ?_
    cfg := ?_
    channel := hd.channel
    plan := hd.plan
    stack := ?_
    zone := fun j hj => ?_
    passDue := ?_
    reading := ?_
    previous := ?_
    ports := hports
    stackRaised := fun hdetects hfull hnone q => ?_
    fresh := fun r hr => ?_
    stale := fun hstale => ?_
    demandCall := ?_ }
  · show d.setZone k _ = _
    rw [hd.frame]; rfl
  · rw [hrate]; exact hd.cfg
  · refine hu.stack.trans ?_
    rw [hudetects, hucfg]; rfl
  · exact (zone_setZone_other d k j _ hj).trans ((hd.zone j hj).trans (started_zone_other s rate p hj))
  · rw [hcalls]; exact hd.passDue.trans (by rw [huzone])
  · rw [hcalls]; exact hd.reading.trans (by rw [huzone])
  · rw [hcalls]; exact hu.previous.trans hufresh
  · have hraised := hu.stackRaised (hudetects.trans hdetects) hfull hnone q (attn_length hshape q)
    exact raised_of_onlyRaises (onlyRaises_of_ports [] rfl rfl) hraised
  · obtain ⟨hpi, hclear⟩ := hu.fresh r (hufresh.trans hr)
    rw [hsetpoint, hcalls, hfresh, hr, hd.channelCfg, hd.frostCall, huzone]
    rw [hucfg, huzone] at hpi
    exact ⟨hpi, hclear, frostCallAfter_some ..⟩
  · obtain ⟨hintegrator, hdemand, hsensorless, hraised⟩ := hu.stale (hufresh.trans hstale)
    rw [hcalls, hfresh, hstale]
    rw [huzone] at hintegrator hraised
    refine ⟨hintegrator, hdemand.trans ?_, hsensorless, rfl, fun hclear q => ?_⟩
    · rw [State.fallbackDemand, hucfg]; rfl
    · exact raised_of_onlyRaises (onlyRaises_of_ports [] rfl rfl) (hraised hclear q (attn_length hshape q))
  · rw [hcalls, hd.demandCall, hd.zoneCfg, hucfg, huzone]
    exact demandCallAfter_iff ..

end Sys2Proof.Machine
end

section
/-! PROOF. Drive targets that join the queue and leave it (R110, R113; O21). -/

namespace Sys2Proof.Machine

/-! ## A slot's entries in the queue -/

theorem queued_eq (s : State) (v : Nat) : s.queued v = (s.arbiter.queue.filter (·.slot == v)).map Entry.unmarked := rfl

theorem queued_congr {s t : State} (v : Nat) (h : t.arbiter.queue = s.arbiter.queue) : t.queued v = s.queued v := by
  rw [queued_eq, queued_eq, h]

theorem queued_newEntry_same (s : State) (v : Nat) (op : MoveOp) (target : Nat) (cls : MoveClass) :
    (s.newEntry v op target cls).queued v =
      s.queued v ++ [⟨v, op, target, cls, nextArrival s.arbiter.arrivals, false⟩] := by
  simp [queued_eq, State.newEntry, List.filter_append, Entry.unmarked]

theorem queued_newEntry_other (s : State) {v w : Nat} (op : MoveOp) (target : Nat) (cls : MoveClass) (h : w ≠ v) :
    (s.newEntry v op target cls).queued w = s.queued w := by
  simp [queued_eq, State.newEntry, List.filter_append, Ne.symm h]

/-- Entries changed in their place stay entries of their slots. -/
theorem filter_map_update {f : Entry → Entry} (hslot : ∀ e, (f e).slot = e.slot) (q : List Entry) (v w : Nat) :
    (q.map fun e => if e.slot = v then f e else e).filter (·.slot == w) =
      (q.filter (·.slot == w)).map fun e => if e.slot = v then f e else e := by
  rw [List.filter_map]
  congr 1
  refine List.filter_congr fun e _ => ?_
  simp only [Function.comp]
  split
  · rw [hslot]
  · rfl

theorem queued_updateEntry_same (s : State) (v : Nat) {f : Entry → Entry} (hslot : ∀ e, (f e).slot = e.slot)
    (hmark : ∀ e, (f e).unmarked = f e.unmarked) : (s.updateEntry v f).queued v = (s.queued v).map f := by
  rw [queued_eq, queued_eq, State.updateEntry, State.setQueue]
  show List.map _ (List.filter _ (List.map _ _)) = _
  rw [filter_map_update hslot, List.map_map, List.map_map]
  refine List.map_congr_left fun e he => ?_
  have hv : e.slot = v := by simpa using (List.mem_filter.mp he).2
  simp only [Function.comp, if_pos hv, hmark]

theorem queued_updateEntry_other (s : State) {v w : Nat} {f : Entry → Entry} (hslot : ∀ e, (f e).slot = e.slot)
    (h : w ≠ v) : (s.updateEntry v f).queued w = s.queued w := by
  rw [queued_eq, queued_eq, State.updateEntry, State.setQueue]
  show List.map _ (List.filter _ (List.map _ _)) = _
  rw [filter_map_update hslot, List.map_map]
  refine List.map_congr_left fun e he => ?_
  have hw : e.slot = w := by simpa using (List.mem_filter.mp he).2
  simp only [Function.comp, if_neg (fun hv => h (hw.symm.trans hv))]

theorem queued_removeEntry_same (s : State) (v : Nat) : (s.removeEntry v).queued v = [] := by
  simp [queued_eq, State.removeEntry, State.setQueue, List.filter_filter]

theorem queued_removeEntry_other (s : State) {v w : Nat} (h : w ≠ v) : (s.removeEntry v).queued w = s.queued w := by
  rw [queued_eq, queued_eq, State.removeEntry, State.setQueue]
  show List.map _ (List.filter _ (List.filter _ _)) = _
  rw [List.filter_filter]
  congr 1
  refine List.filter_congr fun e _ => ?_
  by_cases he : e.slot = w <;> simp [he, h]

theorem takeDrive_slot (target : Nat) (cls : MoveClass) (e : Entry) : (e.takeDrive target cls).slot = e.slot := by
  unfold Entry.takeDrive; split <;> rfl

theorem takeDrive_unmarked (target : Nat) (cls : MoveClass) (e : Entry) :
    (e.takeDrive target cls).unmarked = e.unmarked.takeDrive target cls := by
  cases e with
  | mk slot op => cases op <;> rfl

theorem entryOf_none_iff (s : State) (v : Nat) : s.entryOf v = none ↔ s.queued v = [] := by
  rw [← List.isEmpty_iff, queued_isEmpty, Option.isNone_iff_eq_none]

/-! ## Joining and leaving (R113, R110) -/

theorem joinDrive_empty {s : State} {v : Nat} (target : Nat) (cls : MoveClass) (h : s.queued v = []) :
    (s.joinDrive v target cls).queued v = [⟨v, .drive, target, cls, nextArrival s.arbiter.arrivals, false⟩] := by
  rw [State.joinDrive, (entryOf_none_iff s v).mpr h]
  exact (queued_newEntry_same ..).trans (by rw [h]; rfl)

theorem joinDrive_taken {s : State} {v : Nat} (target : Nat) (cls : MoveClass) (h : s.queued v ≠ []) :
    (s.joinDrive v target cls).queued v = (s.queued v).map (Entry.takeDrive target cls) := by
  obtain ⟨e, he⟩ := Option.ne_none_iff_exists'.mp fun hnone => h ((entryOf_none_iff s v).mp hnone)
  rw [State.joinDrive, he]
  exact queued_updateEntry_same s v (takeDrive_slot target cls) (takeDrive_unmarked target cls)

theorem joinDrive_queued_other (s : State) {v w : Nat} (target : Nat) (cls : MoveClass) (h : w ≠ v) :
    (s.joinDrive v target cls).queued w = s.queued w := by
  unfold State.joinDrive
  split
  · exact queued_newEntry_other s _ _ _ h
  · exact queued_updateEntry_other s (takeDrive_slot target cls) h

/-- An entry that a needless target takes from the queue (R110). -/
def Entry.regulated (e : Entry) : Bool := e.op == .drive && (e.cls == .safety || e.cls == .normal)

theorem dropRegulated_queued_same {s : State} {v : Nat} (h : (s.queued v).length ≤ 1) :
    (s.dropRegulated v).queued v = (s.queued v).filter (!·.regulated) := by
  unfold State.dropRegulated
  split
  next e he =>
    have hmem : e.unmarked ∈ s.queued v := by
      have hfound := List.mem_of_find?_eq_some he
      have hslot := List.find?_some he
      exact List.mem_map_of_mem (List.mem_filter.mpr ⟨hfound, hslot⟩)
    have hq : s.queued v = [e.unmarked] := by
      obtain ⟨x, hx⟩ := List.length_eq_one_iff.mp (le_antisymm h (List.length_pos_of_mem hmem))
      rw [hx] at hmem ⊢
      rw [List.mem_singleton.mp hmem]
    have hregulated : e.unmarked.regulated = true ↔ e.op = .drive ∧ (e.cls = .safety ∨ e.cls = .normal) := by
      simp [Entry.regulated, Entry.unmarked]
    split
    · next hdrop => rw [queued_removeEntry_same, hq]; simp [hregulated.mpr hdrop]
    · next hkeep => rw [hq]; simp [Bool.eq_false_iff.mpr fun hr => hkeep (hregulated.mp hr)]
  next hnone => rw [(entryOf_none_iff s v).mp hnone]; rfl

theorem dropRegulated_queued_other (s : State) {v w : Nat} (h : w ≠ v) : (s.dropRegulated v).queued w = s.queued w := by
  unfold State.dropRegulated
  split
  · split
    · exact queued_removeEntry_other s h
    · rfl
  · rfl

/-! ## The offer (R110) -/

theorem offer_queued_other (s : State) {v w : Nat} (h : w ≠ v) : (s.offer v).queued w = s.queued w := by
  unfold State.offer
  split
  · rfl
  split
  · rfl
  · split
    · exact joinDrive_queued_other s _ _ h
    · exact dropRegulated_queued_other s h
  · split
    · exact joinDrive_queued_other s _ _ h
    · rfl

theorem rank_eq_code (c : MoveClass) : c.rank = c.code := by cases c <;> rfl

/-- A drive target joined as R113 tables it. -/
theorem driveJoined_of_joinDrive {s u t : State} {v : Nat} {w : Wanted} (hqueued : u.queued v = s.queued v)
    (ht : t.queued v = (u.joinDrive v w.target w.cls).queued v) : s.driveJoined t v w := by
  refine ⟨fun hnone => ⟨_, ht.trans (joinDrive_empty _ _ (hqueued.trans hnone))⟩, fun e cls he hcls => ?_⟩
  rw [ht, joinDrive_taken _ _ (by rw [hqueued, he]; simp), hqueued, he]
  show [e.takeDrive w.target w.cls] = _
  have hhigher : w.cls.higher e.cls = cls := by rw [hcls, MoveClass.higher, rank_eq_code, rank_eq_code]
  rw [← hhigher]
  unfold Entry.takeDrive
  cases hop : e.op <;> rfl

theorem needsMove_iff (deadband wanted reference : Nat) : needsMove deadband wanted reference = true ↔
    wanted ≠ reference ∧ (reference + deadband ≤ wanted ∨ wanted + deadband ≤ reference ∨ wanted = 0 ∨ wanted = 100) := by
  simp only [needsMove, Bool.and_eq_true, bne_iff_ne, Bool.or_eq_true, decide_eq_true_eq, beq_iff_eq]
  refine and_congr_right fun hne => ?_
  omega

/-- The reference position is reported in READY and is the target in MOVING (R110). -/
theorem reference_of {h : Head} {r : Nat} (hr : h.state = .ready ∧ r = h.position ∨
    h.state = .moving ∧ h.move.map (·.target) = some r) : h.state ≠ .absent ∧ h.reference = some r := by
  rcases hr with ⟨hstate, rfl⟩ | ⟨hstate, hr⟩
  · exact ⟨by simp [hstate], by simp [Head.reference, hstate]⟩
  · exact ⟨by simp [hstate], by simp [Head.reference, hstate, hr]⟩

theorem offer_placed {s : State} {v r : Nat} {w : Wanted} (hwanted : s.wantedOf v = some w)
    (hstate : (s.head v).state ≠ .absent) (hr : (s.head v).reference = some r) :
    s.offer v = if needsMove (s.valveCfg v).deadband w.target r then s.joinDrive v w.target w.cls else s.dropRegulated v := by
  rw [State.offer, hwanted, hr]
  cases hs : (s.head v).state with
  | absent => exact absurd hs hstate
  | _ => rfl

theorem offer_unplaced {s : State} {v : Nat} {w : Wanted} (hwanted : s.wantedOf v = some w)
    (h : (s.head v).state = .unknown ∨ (s.head v).state = .homing ∨ (s.head v).state = .stalled) :
    s.offer v = if (s.entryOf v).isSome then s.joinDrive v w.target w.cls else s := by
  rw [State.offer, hwanted]
  rcases h with h | h | h <;> simp [Head.reference, h]

theorem offer_absent {s : State} {v : Nat} {w : Wanted} (hwanted : s.wantedOf v = some w)
    (h : (s.head v).state = .absent) : s.offer v = s := by
  rw [State.offer, hwanted, h]

/-- One offer of slot `v`'s wanted target, between states that agree on its head, deadband and entries (R110, R113). -/
theorem offered_of_offer {s u t : State} {v : Nat} {w : Wanted} (hhead : u.head v = s.head v)
    (hcfg : u.valveCfg v = s.valveCfg v) (hqueued : u.queued v = s.queued v) (hone : (s.queued v).length ≤ 1)
    (hwanted : u.wantedOf v = some w) (ht : t.queued v = (u.offer v).queued v) : s.offered t v w := by
  refine ⟨fun r hr => ?_, fun hstate => ?_, fun habsent => ?_⟩
  · obtain ⟨hstate, href⟩ := reference_of hr
    rw [offer_placed hwanted (by rwa [hhead]) (by rw [hhead]; exact href), hcfg] at ht
    refine ⟨fun hmove => ?_, fun hstay => ?_⟩
    · rw [if_pos ((needsMove_iff ..).mpr hmove)] at ht
      exact driveJoined_of_joinDrive hqueued ht
    · rw [if_neg fun hmove => by have := (needsMove_iff ..).mp hmove; omega,
        dropRegulated_queued_same (by rwa [hqueued]), hqueued] at ht
      exact ht
  · rw [offer_unplaced hwanted (by rwa [hhead])] at ht
    refine ⟨fun hnone => ?_, fun hsome => ?_⟩
    · rw [if_neg (by rw [(entryOf_none_iff u v).mpr (hqueued.trans hnone)]; simp)] at ht
      rw [ht, hqueued, hnone]
    · have hentry : (u.entryOf v).isSome = true :=
        Option.isSome_iff_ne_none.mpr fun hnone => hsome (hqueued.symm.trans ((entryOf_none_iff u v).mp hnone))
      rw [if_pos hentry] at ht
      exact driveJoined_of_joinDrive hqueued ht
  · rw [offer_absent hwanted (by rw [hhead, habsent]), hqueued] at ht
    exact ht

/-- A slot has at most one entry (R112). -/
theorem queued_length {s : State} (h : s.queueOk) (v : Nat) : (s.queued v).length ≤ 1 := by
  obtain ⟨hnodup, -⟩ := h
  rw [queued_eq, List.length_map]
  by_contra hlong
  obtain ⟨a, b, rest, hq⟩ : ∃ a b rest, s.arbiter.queue.filter (·.slot == v) = a :: b :: rest := by
    match hm : s.arbiter.queue.filter (·.slot == v) with
    | [] => simp [hm] at hlong
    | [_] => simp [hm] at hlong
    | a :: b :: rest => exact ⟨a, b, rest, hm⟩
  have hslot (e : Entry) (he : e ∈ a :: b :: rest) : e.slot = v := by
    rw [← hq] at he; simpa using (List.mem_filter.mp he).2
  have hpair := (hnodup.sublist (List.filter_sublist.map _ : ((s.arbiter.queue.filter (·.slot == v)).map (·.slot)).Sublist _))
  rw [hq] at hpair
  simp [hslot a (by simp), hslot b (by simp)] at hpair

/-! ## Wanted targets formed and offered, slot after slot (R106, R110) -/

theorem formAndOffer_queued_other (s : State) {v w : Nat} (h : w ≠ v) : (s.formAndOffer v).queued w = s.queued w :=
  (offer_queued_other (s.setWanted v (s.formTarget v)) h).trans (queued_congr w rfl)

theorem formAll_queued_other (s : State) {vs : List Nat} {v : Nat} (h : v ∉ vs) : (s.formAll vs).queued v = s.queued v :=
  foldl_read_other State.queued State.formAndOffer (fun u _ _ hne => formAndOffer_queued_other u hne) vs v h s

/-- What forming wanted targets changes: the arbiter's own state. -/
theorem formAll_frame (s : State) (vs : List Nat) : s.formAll vs = { s with arbiter := (s.formAll vs).arbiter } :=
  state_ext

theorem formAndOffer_wanted_length (s : State) (v : Nat) :
    (s.formAndOffer v).arbiter.wanted.length = s.arbiter.wanted.length := by
  rw [State.formAndOffer, offer_wanted]
  exact length_setItem _ _ _

theorem formAll_wanted_length (s : State) (vs : List Nat) :
    (s.formAll vs).arbiter.wanted.length = s.arbiter.wanted.length :=
  foldl_keeps State.formAndOffer (·.arbiter.wanted.length) formAndOffer_wanted_length vs s

/-- The wanted target of a ZONE slot is formed from its zone's demand and the heat dump (R107). -/
theorem formTarget_zone {s : State} {v k : Nat} {dump : Bool} (h : (s.valveCfg v).role = .zone k dump) :
    s.formTarget v = some (if s.boiler.heatDump && dump then ⟨100, .safety⟩
      else ⟨regulatedTarget (s.valveCfg v) (s.zone k).demand, .normal⟩) := by
  rw [State.formTarget, h]
  dsimp only
  by_cases hdump : s.boiler.heatDump = true ∧ dump = true
  · rw [if_pos hdump, if_pos (by simpa using hdump)]
  · rw [if_neg hdump, if_neg (by simpa using hdump)]

/-- A ZONE slot's target among several that are formed: the arbiter turns to it once, with its entries as they were. -/
theorem formAll_offers {s : State} {vs : List Nat} {v k : Nat} {dump : Bool} (hvs : vs.Nodup) (hv : v ∈ vs) (h1 : 1 ≤ v)
    (h2 : v ≤ s.arbiter.wanted.length) (hrole : (s.valveCfg v).role = .zone k dump) :
    ∃ u : State, u = { s with arbiter := u.arbiter } ∧ u.queued v = s.queued v ∧ u.wantedOf v = s.formTarget v ∧
      (s.formAll vs).wantedOf v = s.formTarget v ∧ (s.formAll vs).queued v = (u.offer v).queued v := by
  obtain ⟨before, after, rfl⟩ := List.append_of_mem hv
  obtain ⟨-, hafter, hdisjoint⟩ := List.nodup_append.mp hvs
  have hnotBefore : v ∉ before := fun hmem => hdisjoint v hmem v (by simp) rfl
  have hnotAfter : v ∉ after := (List.nodup_cons.mp hafter).1
  have hframe := formAll_frame s before
  have hfold : s.formAll (before ++ v :: after) = ((s.formAll before).formAndOffer v).formAll after := by
    rw [State.formAll, List.foldl_append]; rfl
  have htarget : (s.formAll before).formTarget v = s.formTarget v := by
    rw [formTarget_zone hrole, formTarget_zone (k := k) (dump := dump) (by rw [hframe]; exact hrole), hframe]; rfl
  have hwanted : ((s.formAll before).setWanted v (s.formTarget v)).wantedOf v = s.formTarget v :=
    item_setItem_same _ _ _ _ h1 (by rw [formAll_wanted_length]; exact h2)
  have hoffer : (s.formAll before).formAndOffer v = ((s.formAll before).setWanted v (s.formTarget v)).offer v := by
    rw [State.formAndOffer, htarget]
  refine ⟨(s.formAll before).setWanted v (s.formTarget v), by rw [hframe]; rfl, ?_, hwanted, ?_, ?_⟩
  · exact (queued_congr v rfl).trans (formAll_queued_other s hnotBefore)
  · rw [hfold, formAll_wantedOf_other _ hnotAfter, hoffer, State.wantedOf, offer_wanted]
    exact hwanted
  · rw [hfold, formAll_queued_other _ hnotAfter, hoffer]

end Sys2Proof.Machine
end

section
/-! PROOF. A regulation pass handed on and settled (R63, R64, R72, R107; O21). -/

namespace Sys2Proof.Machine

/-! ## Stage 6: handing on -/

/-- The flow setpoint is computed afresh for a changed demand of a served zone (R72). -/
theorem handOn_cases (c : State) (k old : Nat) :
    ((((c.formAll (c.zoneSlots k)).handZoneRequest k).consumer k).served = true ∧
        (((c.formAll (c.zoneSlots k)).handZoneRequest k).zone k).demand ≠ old ∧
        c.handOn k old = ((c.formAll (c.zoneSlots k)).handZoneRequest k).recomputeFlow) ∨
      (¬ ((((c.formAll (c.zoneSlots k)).handZoneRequest k).consumer k).served = true ∧
          (((c.formAll (c.zoneSlots k)).handZoneRequest k).zone k).demand ≠ old) ∧
        c.handOn k old = (c.formAll (c.zoneSlots k)).handZoneRequest k) := by
  by_cases h : (((c.formAll (c.zoneSlots k)).handZoneRequest k).consumer k).served = true ∧
      (((c.formAll (c.zoneSlots k)).handZoneRequest k).zone k).demand ≠ old
  · obtain ⟨hserved, hdemand⟩ := h
    exact .inl ⟨hserved, hdemand, if_pos ⟨hserved, hdemand⟩⟩
  · exact .inr ⟨h, if_neg h⟩

theorem handZoneRequest_handOn_settlesTo (c : State) (k old : Nat) :
    ((c.formAll (c.zoneSlots k)).handZoneRequest k).SettlesTo (c.handOn k old) := by
  rcases handOn_cases c k old with ⟨-, -, heq⟩ | ⟨-, heq⟩
  · rw [heq]; exact recomputeFlow_settlesTo _
  · rw [heq]; exact .refl _

/-- The state in which zone `k`'s targets are formed and its request is entered, not yet judged. -/
def State.formedAndRequested (c : State) (k : Nat) : State :=
  (c.formAll (c.zoneSlots k)).requested k ((c.formAll (c.zoneSlots k)).zoneRequest k)

theorem formedAndRequested_settlesTo (c : State) (k old : Nat) : (c.formedAndRequested k).SettlesTo (c.handOn k old) :=
  (requested_settlesTo _ k _).trans (handZoneRequest_handOn_settlesTo c k old)

/-- Where the handing on computed the flow setpoint: for a changed served level or set, or a served zone's demand. -/
theorem handOn_computed {s c : State} {k old : Nat} (htable : c.table = s.table) :
    ((c.handOn k old).table.servedLevel ≠ s.table.servedLevel ∨ (c.handOn k old).servedSet ≠ s.servedSet →
        (c.handOn k old).flowComputed) ∧
      (((c.handOn k old).consumer k).served = true → ((c.handOn k old).zone k).demand ≠ old →
        (c.handOn k old).flowComputed) := by
  have hstands : ((c.formAll (c.zoneSlots k)).handZoneRequest k).TableStands := handRequest_stands _ k _
  have htable : (c.formAll (c.zoneSlots k)).table = s.table := (congrArg State.table (formAll_frame c _) :).trans htable
  rcases handOn_cases c k old with ⟨-, -, heq⟩ | ⟨hnot, heq⟩
  · rw [heq]
    exact ⟨fun _ => recomputeFlow_computed hstands, fun _ _ => recomputeFlow_computed hstands⟩
  · rw [heq]
    refine ⟨fun hchange => handRequest_computed ?_, fun hserved hdemand => absurd ⟨hserved, hdemand⟩ hnot⟩
    rw [htable, servedSet_congr htable]
    exact hchange

theorem handOn_flowBegun {s c : State} (k old : Nat) (hcfg : c.cfg.boiler = s.cfg.boiler) (hfield : c.field = s.field)
    (hboiler : c.boiler = s.boiler) : s.FlowBegun (c.handOn k old) := by
  have hframe := formAll_frame c (c.zoneSlots k)
  have hbegun : s.FlowBegun ((c.formAll (c.zoneSlots k)).handZoneRequest k) :=
    handRequest_flowBegun k _ (by rw [hframe]; exact hcfg) (by rw [hframe]; exact hfield) (by rw [hframe]; exact hboiler)
  rcases handOn_cases c k old with ⟨-, -, heq⟩ | ⟨-, heq⟩
  · rw [heq]; exact hbegun.recompute
  · rw [heq]; exact hbegun

/-! ## The queue with nothing granted (R117) -/

theorem judgeTable_queued {s : State} {v k : Nat} {dump : Bool} (h : (s.valveCfg v).role = .zone k dump) :
    s.judgeTable.queued v = s.queued v := by
  unfold State.judgeTable
  dsimp only
  split
  · rfl
  · exact formAll_queued_other _ fun hmem => cylinderSlots_no_zone _ v hmem k dump h

theorem recomputeFlow_arbiter (s : State) : s.recomputeFlow.arbiter = s.arbiter := by rw [recomputeFlow_eq]; rfl

theorem recomputeFlow_queued (s : State) (v : Nat) : s.recomputeFlow.queued v = s.queued v :=
  queued_congr v (congrArg Arbiter.queue (recomputeFlow_arbiter s))

theorem recomputeFlow_supplyOk (s : State) : s.recomputeFlow.field.supplyOk = s.field.supplyOk := by
  rw [recomputeFlow_eq]; rfl

theorem handRequest_queued {s : State} (c level : Nat) {v k : Nat} {dump : Bool}
    (h : (s.valveCfg v).role = .zone k dump) : (s.handRequest c level).queued v = s.queued v := by
  have hjudged : (s.requested c level).judgeTable.queued v = s.queued v :=
    judgeTable_queued (s := s.requested c level) h
  rcases handRequest_cases s c level with ⟨heq, -⟩ | heq
  · rw [heq, hjudged]
  · rw [heq, recomputeFlow_queued, hjudged]

theorem handRequest_supplyOk (s : State) (c level : Nat) :
    (s.handRequest c level).field.supplyOk = s.field.supplyOk := by
  have hjudged : (s.requested c level).judgeTable.field.supplyOk = s.field.supplyOk := by simp [State.requested]
  rcases handRequest_cases s c level with ⟨heq, -⟩ | heq
  · rw [heq, hjudged]
  · rw [heq, recomputeFlow_supplyOk, hjudged]

theorem handOn_queued {c : State} {k v : Nat} (old : Nat) {dump : Bool} (h : (c.valveCfg v).role = .zone k dump) :
    (c.handOn k old).queued v = (c.formAll (c.zoneSlots k)).queued v := by
  have hrole : ((c.formAll (c.zoneSlots k)).valveCfg v).role = .zone k dump := by rw [formAll_frame]; exact h
  rcases handOn_cases c k old with ⟨-, -, heq⟩ | ⟨-, heq⟩
  · rw [heq, recomputeFlow_queued]
    exact handRequest_queued _ _ hrole
  · rw [heq]
    exact handRequest_queued _ _ hrole

theorem handOn_supplyOk (c : State) (k old : Nat) : (c.handOn k old).field.supplyOk = c.field.supplyOk := by
  have hrequest : ((c.formAll (c.zoneSlots k)).handZoneRequest k).field.supplyOk = c.field.supplyOk :=
    (handRequest_supplyOk _ k _).trans (by rw [formAll_frame])
  rcases handOn_cases c k old with ⟨-, -, heq⟩ | ⟨-, heq⟩
  · rw [heq, recomputeFlow_supplyOk, hrequest]
  · rw [heq, hrequest]

theorem remark_queued (s : State) (v : Nat) : s.remark.queued v = s.queued v := by
  rw [queued_eq, queued_eq, State.remark, State.setQueue]
  show List.map _ (List.filter _ (List.map _ _)) = _
  rw [List.filter_map, List.map_map]
  rfl

/-- In REST with the supply LOW settling leaves every slot's entries (R117, R139). -/
theorem settle_rest_queued {s before : State} (hrest : s.boiler.state = .rest) (hbefore : before.boiler.state = .rest)
    (hfault : s.faultInput = false) (hsupply : s.field.supplyOk = false) (v : Nat) :
    (s.settle before).queued v = s.queued v := by
  have hstays : s.boilerStays :=
    ⟨by simp [hrest, hfault], by simp [hrest], by simp [hrest], by simp [hrest], by simp [hrest]⟩
  have hround : s.remark.grantRound = s.remark := grantRound_unsupplied hsupply
  have hqueue : s.remark.nextTransaction.setPump.arbiter.queue = s.remark.arbiter.queue := by simp
  rw [settle_of_stays hstays (hrest.trans hbefore.symm), hround, queued_congr v hqueue, remark_queued]

theorem faultInput_congr {s t : State} (hinputs : t.cfg.inputs = s.cfg.inputs) (hfield : t.field = s.field) :
    t.faultInput = s.faultInput := by
  simp only [State.faultInput, State.activeInputs, State.inputActive, State.inputCfg, State.inputRec, hinputs, hfield]

/-! ## The whole pass -/

namespace State.Called

variable {s c : State} {k : Nat} (h : s.Called c k)
include h

theorem table : c.table = s.table := (congrArg State.table h.frame :)

theorem field : c.field = s.field := (congrArg State.field h.frame :)

theorem boiler : c.boiler = s.boiler := (congrArg State.boiler h.frame :)

theorem heads : c.heads = s.heads := (congrArg State.heads h.frame :)

theorem arbiter : c.arbiter = s.arbiter := (congrArg State.arbiter h.frame :)

theorem boilerCfg : c.cfg.boiler = s.cfg.boiler := (congrArg Stored.boiler h.cfg :)

theorem inputs : c.cfg.inputs = s.cfg.inputs := (congrArg Stored.inputs h.cfg :)

theorem valveCfg (v : Nat) : c.valveCfg v = s.valveCfg v := (congrArg (fun x : Stored => item x.valves v .initial) h.cfg :)

theorem channelCfg (d : Nat) : c.channelCfg d = s.channelCfg d :=
  (congrArg (fun x : Stored => item x.channels d .zoneDefault) h.cfg :)

end State.Called

/-- Zone `k`'s pass from `s` to `w`, by way of the state `c` of its calls: the request is handed on and the plant settles. -/
structure State.Passed (s c w : State) (k : Nat) : Prop where
  called : s.Called c k
  handed : s.Handed c w k
  wanted : ∀ v dump, 1 ≤ v → v ≤ 32 → (s.valveCfg v).role = .zone k dump → w.wantedOf v = c.formTarget v
  computed : (w.consumer k).served = true → (w.zone k).demand ≠ (s.zone k).demand → w.flowComputed
  offers : s.field.supplyOk = false → s.boiler.state = .rest → s.faultInput = false → s.queueOk →
    ∀ v dump x, 1 ≤ v → v ≤ 32 → (s.valveCfg v).role = .zone k dump → w.wantedOf v = some x → s.offered w v x

theorem mem_zoneSlots {s : State} {v k : Nat} {dump : Bool} (h1 : 1 ≤ v) (h32 : v ≤ 32)
    (h : (s.valveCfg v).role = .zone k dump) : v ∈ s.zoneSlots k :=
  List.mem_filter.mpr ⟨(mem_numbers 32 v).mpr ⟨h1, h32⟩, by simp [h, Role.serves]⟩

theorem zoneSlots_nodup (s : State) (k : Nat) : (s.zoneSlots k).Nodup := (numbers_nodup 32).filter _

theorem wanted_length {s : State} (h : s.shaped) : s.arbiter.wanted.length = 32 :=
  have ⟨_, _, _, _, _, _, _, _, _, hwanted, _⟩ := h
  hwanted

theorem formedAndRequested_wantedOf (c : State) (k v : Nat) :
    (c.formedAndRequested k).wantedOf v = (c.formAll (c.zoneSlots k)).wantedOf v := rfl

theorem formedAndRequested_valveCfg (c : State) (k v : Nat) : (c.formedAndRequested k).valveCfg v = c.valveCfg v := by
  show (c.formAll (c.zoneSlots k)).valveCfg v = _
  rw [formAll_frame]; rfl

theorem formedAndRequested_faultInput (c : State) (k : Nat) : (c.formedAndRequested k).faultInput = c.faultInput := by
  have hframe := formAll_frame c (c.zoneSlots k)
  exact faultInput_congr (s := c) (t := c.formedAndRequested k) (congrArg (fun s : State => s.cfg.inputs) hframe :)
    (congrArg State.field hframe :)

theorem handOn_settle_handed {s c : State} {k : Nat} (old : Nat) (hc : s.Called c k) (h1 : 1 ≤ k)
    (h2 : k ≤ s.table.entries.length) : s.Handed c ((c.handOn k old).settle s) k := by
  have hframe := formAll_frame c (c.zoneSlots k)
  have htable : k ≤ (c.formAll (c.zoneSlots k)).table.entries.length := by rw [hframe]; exact hc.table ▸ h2
  have hsettles := (handZoneRequest_handOn_settlesTo c k old).trans (settle_settlesTo (c.handOn k old) s)
  obtain ⟨hlevel, hrequesting⟩ := handRequest_settle_level hsettles h1 htable
  obtain ⟨hchange, -⟩ := handOn_computed (k := k) (old := old) hc.table
  exact {
    frame := state_ext
    ports := onlyRaises_trans (onlyRaises_of_ports _ (by simp) (by simp)) (settle_settlesTo (c.handOn k old) s).ports
    level := hlevel.trans (zoneRequest_congr k (by simp) (by simp))
    requesting := hrequesting
    follows := settle_flowFollows s (handOn_flowBegun k old hc.boilerCfg hc.field hc.boiler) hchange }

theorem handOn_settle_passed {s c : State} {k : Nat} (hshape : s.shaped) (hc : s.Called c k) (h1 : 1 ≤ k) (h16 : k ≤ 16) :
    s.Passed c ((c.handOn k (s.zone k).demand).settle s) k := by
  have hbegun : s.FlowBegun (c.handOn k (s.zone k).demand) := handOn_flowBegun k _ hc.boilerCfg hc.field hc.boiler
  have hsettle := settle_settlesTo (c.handOn k (s.zone k).demand) s
  have hfrom := (formedAndRequested_settlesTo c k (s.zone k).demand).trans hsettle
  have hlength : c.arbiter.wanted.length = 32 := by rw [hc.arbiter, wanted_length hshape]
  have hforms {v : Nat} {dump : Bool} (hv1 : 1 ≤ v) (hv32 : v ≤ 32) (hrole : (c.valveCfg v).role = .zone k dump) :=
    formAll_offers (zoneSlots_nodup c k) (mem_zoneSlots hv1 hv32 hrole) hv1 (by rw [hlength]; exact hv32) hrole
  have hwanted (v : Nat) (dump : Bool) (hv1 : 1 ≤ v) (hv32 : v ≤ 32) (hrole : (s.valveCfg v).role = .zone k dump) :
      ((c.handOn k (s.zone k).demand).settle s).wantedOf v = c.formTarget v := by
    rw [← hc.valveCfg] at hrole
    obtain ⟨-, -, -, -, hformed, -⟩ := hforms hv1 hv32 hrole
    rw [hfrom.wanted v k dump (by rw [formedAndRequested_valveCfg]; exact hrole), formedAndRequested_wantedOf, hformed]
  refine {
    called := hc
    handed := handOn_settle_handed _ hc h1 (by rw [table_length hshape]; omega)
    wanted := hwanted
    computed := fun hserved hdemand => ?_
    offers := fun hsupply hrest hfault hqueue v dump x hv1 hv32 hrole hx => ?_ }
  · obtain ⟨-, hnew⟩ := handOn_computed (k := k) (old := (s.zone k).demand) hc.table
    refine settle_computed s hbegun (hnew ?_ ?_)
    · rw [← hsettle.served hbegun.stands]; exact hserved
    · rw [← zone_congr k hsettle.zones]; exact hdemand
  · have hfault' : (c.handOn k (s.zone k).demand).faultInput = false := by
      rw [(formedAndRequested_settlesTo c k _).faultInput, formedAndRequested_faultInput,
        faultInput_congr hc.inputs hc.field, hfault]
    have hkept := settle_rest_queued (hbegun.state.trans hrest) hrest hfault'
      (by rw [handOn_supplyOk, hc.field, hsupply]) v
    rw [hwanted v dump hv1 hv32 hrole] at hx
    rw [← hc.valveCfg] at hrole
    obtain ⟨u, hu, hqueued, hwants, -, hoffered⟩ := hforms hv1 hv32 hrole
    have hentries : c.queued v = s.queued v := queued_congr v (congrArg Arbiter.queue hc.arbiter)
    refine offered_of_offer (u := u) ?_ ?_ (hqueued.trans hentries) (queued_length hqueue v) (hwants.trans hx) ?_
    · rw [hu, State.head, State.head, ← hc.heads]
    · rw [hu, ← hc.valveCfg]; rfl
    · rw [hkept, handOn_queued _ hrole, hoffered]

/-- A due pass ends as `Passed` says, but for the ports' lists. -/
theorem exec_regulationPass_passed {s : State} {k : Nat} (ha : s.acting = none) (hshape : s.shaped) (h1 : 1 ≤ k)
    (h16 : k ≤ 16) (hdue : (s.zone k).passDue = true) :
    ∃ c w main service, s.Passed c w k ∧ exec (.regulationPass k) s = .next { w with main, service } ∧
      w.onlyRaises { w with main, service } [] := by
  refine ⟨s.called k, ((s.called k).handOn k (s.zone k).demand).settle s,
    (((s.called k).handOn k (s.zone k).demand).settle s).endEvent.main,
    (((s.called k).handOn k (s.zone k).demand).settle s).endEvent.service,
    handOn_settle_passed hshape (called_called hshape h1 h16) h1 h16, ?_, onlyRaises_endEvent _ _⟩
  show Host.Outcome.next (regulationPassEvent k s) = _
  rw [regulationPassEvent, if_pos hdue, plantEvent_free _ _ ha, pass_eq]
  rfl

end Sys2Proof.Machine
end

section
/-! PROOF. The regulation pass (O21). -/

namespace Sys2Proof.Machine

theorem State.Handed.zoneCfg {s u w : State} {k : Nat} (h : s.Handed u w k) (j : Nat) : w.zoneCfg j = u.zoneCfg j :=
  (congrArg (State.zoneCfg · j) h.frame :)

theorem State.Handed.clock {s u w : State} {k : Nat} (h : s.Handed u w k) : w.clock = u.clock :=
  (congrArg State.clock h.frame :)

theorem State.Handed.effectiveSetpoint {s u w : State} {k : Nat} (h : s.Handed u w k) (c : Nat) :
    w.effectiveSetpoint c = u.effectiveSetpoint c :=
  effectiveSetpoint_congr c h.clock h.cfg (h.channel c) (by rw [h.zone])

/-! ## Window detection as R36 has it -/

theorem detects_of_drop {s : State} {k : Nat} {r q : Temp} (hr : s.freshReading k = some r)
    (hq : (s.zone k).previous = some q) (hopen : s.parked k = false) (henabled : (s.zoneCfg k).detectEnable = true)
    (hdrop : ((s.zoneCfg k).dropThreshold : Int) ≤ q - r) : s.detects k = true := by
  rw [State.detects, hr, hq]
  simp [hopen, henabled, dropped, hdrop]

theorem not_detects {s : State} {k : Nat} (h : s.freshReading k = none ∨ (s.zone k).previous = none ∨ s.parked k = true ∨
    (s.zoneCfg k).detectEnable = false ∨ ∀ r q, s.freshReading k = some r → (s.zone k).previous = some q →
      q - r < (s.zoneCfg k).dropThreshold) : s.detects k = false := by
  rw [State.detects]
  split
  next r q hr hq =>
    rcases h with h | h | h | h | h
    · rw [hr] at h; cases h
    · rw [hq] at h; cases h
    · simp [h]
    · simp [h]
    · simp [dropped, Int.not_le.mpr (h r q hr hq)]
  next => rfl

theorem windowPlaced_detect (x : List Layer) (n : Nat) : windowPlaced x .detect n =
    if x.any (·.kind == .window) then
      x.map fun l => if l.kind = .window ∧ l.origin = .detect then { l with remaining := some n } else l
    else (if 4 ≤ x.length then x.tail else x) ++ [⟨.window, none, some n, .detect⟩] := by
  rw [windowPlaced, roomMade_eq]; rfl

/-! ## The wanted target of a ZONE slot (R107) -/

theorem regulatedTarget_zero (x : ValveCfg) : regulatedTarget x 0 = 0 := rfl

theorem regulatedTarget_pos (x : ValveCfg) {u : Nat} (h : 1 ≤ u) :
    regulatedTarget x u = (2 * (x.liftMin * 1000 + u * (x.liftMax - x.liftMin)) + 1000) / 2000 :=
  if_neg (by omega)

/-- The target lies within the lift and is rounded half up (R107). -/
theorem regulatedTarget_within {x : ValveCfg} {u : Nat} (hlift : x.liftMin < x.liftMax) (h1 : 1 ≤ u) (h1000 : u ≤ 1000) :
    x.liftMin ≤ regulatedTarget x u ∧ regulatedTarget x u ≤ x.liftMax ∧
      IsRoundedHalfAway (regulatedTarget x u) (1000 * x.liftMin + u * (x.liftMax - x.liftMin)) 1000 := by
  obtain ⟨d, hd⟩ : ∃ d, x.liftMax = x.liftMin + d := ⟨_, (Nat.add_sub_of_le hlift.le).symm⟩
  have hspan : x.liftMax - x.liftMin = d := by omega
  have hcast : (u : Int) * ((x.liftMax : Int) - x.liftMin) = ((u * d : Nat) : Int) := by rw [hd]; push_cast; ring
  have hpart : u * d ≤ 1000 * d := Nat.mul_le_mul_right d h1000
  rw [hcast, regulatedTarget_pos x h1, hspan, hd]
  generalize u * d = part at hpart
  refine ⟨by omega, by omega, ?_⟩
  unfold IsRoundedHalfAway
  omega

theorem regulatedTarget_full {x : ValveCfg} (hlift : x.liftMin < x.liftMax) : regulatedTarget x 1000 = x.liftMax := by
  rw [regulatedTarget_pos x (by omega)]; omega

/-! ## O21 -/

/-- Settles O21: the stages are `called_called`, what they hand on is `handOn_settle_passed`, and the target is
`regulatedTarget_within`. -/
theorem regulationPassComputesDemandAndCalls : Obligations.RegulationPassComputesDemandAndCalls := by
  refine ⟨fun k s ha hshape h1 h16 hdue => ?_, fun k s ha hshape _ h1 h16 hdue => ?_, fun k s ha hshape h1 h16 hdue => ?_,
    fun x u hlift h1000 => ?_⟩
  · obtain ⟨c, w, main, service, ⟨hc, hw, hwanted, -, -⟩, hexec, hports⟩ := exec_regulationPass_passed ha hshape h1 h16 hdue
    have hraises : c.onlyRaises { w with main, service } [.sensor, .stack, .boiler, .capacity, .sink] :=
      onlyRaises_trans (onlyRaises_mono hw.ports (by simp)) (onlyRaises_mono hports (by simp))
    have hsetpoint : ({ w with main, service } : State).effectiveSetpoint k = c.effectiveSetpoint k := hw.effectiveSetpoint k
    have hzone : ({ w with main, service } : State).zone k = c.zone k := hw.zone k
    have hzoneCfg : ({ w with main, service } : State).zoneCfg k = c.zoneCfg k := hw.zoneCfg k
    refine ⟨_, hexec, ?_, ?_, ?_, fun d hd => ?_, ?_, fun j hj => ?_, ?_, ?_, ?_, fun r hr => ?_, fun hstale => ?_, ?_, ?_,
      hw.requesting, fun v hv1 hv32 dump hrole => ?_⟩
    · rw [hw.frame, hc.frame]
    · exact portsKept_of_onlyRaises (onlyRaises_trans (onlyRaises_mono hc.ports (by simp)) hraises)
    · rw [hzoneCfg]; exact hw.cfg.trans hc.cfg
    · exact (hw.channel d).trans (hc.channel d hd)
    · exact (congrArg ChannelRun.plan (hw.channel k)).trans hc.plan
    · exact (hw.zone j).trans (hc.zone j hj)
    · rw [hzone]; exact hc.passDue
    · rw [hzone]; exact hc.reading
    · rw [hzone]; exact hc.previous
    · rw [hzone, hsetpoint]; exact hc.fresh r hr
    · obtain ⟨hintegrator, hdemand, hsensorless, hfrost, hraised⟩ := hc.stale hstale
      rw [hzone]
      exact ⟨hintegrator, hdemand, hsensorless, hfrost, fun hclear q => raised_of_onlyRaises hraises (hraised hclear q)⟩
    · rw [hzone]; exact hc.demandCall
    · rw [hzone, ← hc.channelCfg]; exact hw.level
    · have hrole' : (c.valveCfg v).role = .zone k dump := by rw [hc.valveCfg]; exact hrole
      refine (hwanted v dump hv1 hv32 hrole).trans ?_
      rw [hzone, formTarget_zone hrole', hc.valveCfg, hc.boiler]
  · obtain ⟨c, w, main, service, ⟨-, hw, -, hcomputed, -⟩, hexec, -⟩ := exec_regulationPass_passed ha hshape h1 h16 hdue
    exact ⟨_, hexec, hw.follows, hcomputed⟩
  · obtain ⟨c, w, main, service, ⟨hc, hw, -, -, hoffers⟩, hexec, hports⟩ := exec_regulationPass_passed ha hshape h1 h16 hdue
    have hstack : (({ w with main, service } : State).channel k).stack = _ :=
      (congrArg ChannelRun.stack (hw.channel k)).trans hc.stack
    refine ⟨fun r q hr hq hopen henabled hdrop => ⟨_, hexec, ?_, fun hfull hnone p => ?_⟩, fun hnot => ⟨_, hexec, ?_⟩,
      fun hsupply hrest hfault => ⟨_, hexec, fun v x hv1 hv32 hx ⟨dump, hrole⟩ hqueue => ?_⟩⟩
    · rw [hstack, detects_of_drop hr hq hopen henabled hdrop, if_pos rfl, windowPlaced_detect]
    · have hraised := hc.stackRaised (detects_of_drop hr hq hopen henabled hdrop) hfull (by simpa using hnone) p
      exact raised_of_onlyRaises hports (raised_of_onlyRaises hw.ports hraised)
    · rw [hstack, not_detects hnot]; rfl
    · exact hoffers hsupply hrest hfault hqueue v dump x hv1 hv32 hrole hx
  · refine ⟨regulatedTarget_zero x, ?_, ?_, regulatedTarget_full hlift, fun h1 => ?_⟩
    · rcases Nat.eq_zero_or_pos u with hu | hu
      · exact .inr hu
      · obtain ⟨hmin, -, -⟩ := regulatedTarget_within hlift hu h1000
        exact .inl hmin
    · rcases Nat.eq_zero_or_pos u with hu | hu
      · rw [hu, regulatedTarget_zero]; exact Nat.zero_le _
      · obtain ⟨-, hmax, -⟩ := regulatedTarget_within hlift hu h1000
        exact hmax
    · obtain ⟨-, -, hround⟩ := regulatedTarget_within hlift h1 h1000
      exact hround

end Sys2Proof.Machine
end

section
/-! PROOF. Room readings from a port (O16). -/

namespace Sys2Proof.Machine

/-! ## A reading offered to a zone (R47, R48) -/

theorem inMeasuringRange_iff (x : Temp) : inMeasuringRange x = true ↔ -400 ≤ x ∧ x ≤ 1250 := by
  simp [inMeasuringRange]

theorem inMeasuringRange_outside {x : Temp} (h : x < -400 ∨ 1250 < x) : inMeasuringRange x = false := by
  rw [← Bool.not_eq_true, inMeasuringRange_iff]
  rintro ⟨hlo, hhi⟩
  exact h.elim (not_lt.mpr hlo) (not_lt.mpr hhi)

/-- A temperature in range is held with the elapsed minute (R47). -/
theorem takeReading_held (s : State) (k : Nat) {x : Temp} (h : inMeasuringRange x = true) :
    s.takeReading k x = s.setZone k { s.zone k with reading := some ⟨x, s.clock.elapsed⟩ } := if_pos h

/-- One outside it is not, and SENSOR is raised (R48). -/
theorem takeReading_rejected (s : State) (k : Nat) {x : Temp} (h : inMeasuringRange x = false) :
    s.takeReading k x = s.raise .sensor (object k) := if_neg (by simp [h])

/-! ## ROOM-TEMP -/

@[simp] theorem met_zoneCfg (s : State) (p : Port) (k : Nat) : (s.met p).zoneCfg k = s.zoneCfg k := by
  simp [State.zoneCfg]

theorem roomTempWork_range {k : Nat} (x : Temp) (s : State) (h : k = 0 ∨ 16 < k) :
    roomTempWork k x s = (s, .refused .range) := by
  rw [roomTempWork, isZone_outside h]; rfl

theorem roomTempWork_headRead {s : State} {k : Nat} (x : Temp) (h1 : 1 ≤ k) (h16 : k ≤ 16)
    (h : (s.zoneCfg k).source ≠ none) : roomTempWork k x s = (s, .refused .state) := by
  have hsource : (s.zoneCfg k).source.isSome = true := Option.isSome_iff_ne_none.mpr h
  rw [roomTempWork, isZone_of_mem h1 h16, hsource]; rfl

/-- A zone read by port is offered the temperature, and the reply says whether it was rejected. -/
theorem roomTempWork_portRead {s : State} {k : Nat} (x : Temp) (h1 : 1 ≤ k) (h16 : k ≤ 16)
    (h : (s.zoneCfg k).source = none) :
    roomTempWork k x s = (s.takeReading k x, .done { rejected := !inMeasuringRange x } []) := by
  rw [roomTempWork, isZone_of_mem h1 h16, h]; rfl

theorem roomTemp_holds {p : Port} {k : Nat} {x : Temp} {s : State} (h : s.takes p) (hshape : s.shaped) (h1 : 1 ≤ k)
    (h16 : k ≤ 16) (hsource : (s.zoneCfg k).source = none) (hx : inMeasuringRange x = true) :
    ∃ t, exec (.roomTemp p k x) s = .next t ∧ s.replied t p 0x12 (.done {} []) [] ∧
      t = { s with zones := t.zones, claim := s.keptAlive p, main := t.main, service := t.service } ∧
      t.zone k = { s.zone k with reading := some ⟨x, s.clock.elapsed⟩ } ∧ ∀ j, j ≠ k → t.zone j = s.zone j := by
  have hzones : s.zones.length = 16 := congrArg (·.2.1) (sizes_of_shaped hshape)
  have hwork : (roomTempRequest k x).work (s.met p) =
      ((s.met p).setZone k { s.zone k with reading := some ⟨x, s.clock.elapsed⟩ }, .done {} []) := by
    have hoffered := roomTempWork_portRead (s := s.met p) x h1 h16 (by simpa using hsource)
    rw [takeReading_held _ _ hx, hx] at hoffered
    simpa [roomTempRequest] using hoffered
  obtain ⟨main, service, hend, hreplied, -⟩ :=
    requestEvent_form h hwork (onlyRaises_of_ports [] rfl rfl) rfl nofun
  refine ⟨_, congrArg Host.Outcome.next hend, hreplied, state_ext, ?_, fun j hj => ?_⟩
  · exact zone_setZone_same (s.met p) k _ h1 (by simpa [hzones] using h16)
  · exact (zone_setZone_other (s.met p) k j _ hj).trans (met_zone s p j)

theorem roomTemp_rejects {p : Port} {k : Nat} {x : Temp} {s : State} (h : s.takes p) (hshape : s.shaped) (h1 : 1 ≤ k)
    (h16 : k ≤ 16) (hsource : (s.zoneCfg k).source = none) (hx : inMeasuringRange x = false) :
    ∃ t, exec (.roomTemp p k x) s = .next t ∧ s.replied t p 0x12 (.done { rejected := true } []) [.sensor] ∧
      s.onlyReplied t p ∧ ∀ q, t.raised q .sensor (object k) := by
  have hwork : (roomTempRequest k x).work (s.met p) =
      ((s.met p).raise .sensor (object k), .done { rejected := true } []) := by
    have hoffered := roomTempWork_portRead (s := s.met p) x h1 h16 (by simpa using hsource)
    rwa [takeReading_rejected _ _ hx, hx] at hoffered
  obtain ⟨main, service, hend, hreplied, hraises⟩ :=
    requestEvent_form h hwork (onlyRaises_raise (s.met p) .sensor (object k) List.mem_cons_self) rfl nofun
  refine ⟨_, congrArg Host.Outcome.next hend, hreplied, state_ext, fun q => raised_of_onlyRaises hraises ?_⟩
  exact raised_raise q _ _ (by rw [met_attn]; exact attn_length hshape q)

/-- A refused ROOM-TEMP. -/
theorem roomTemp_refused {p : Port} {k : Nat} {x : Temp} {s : State} {code : RefusalCode} (h : s.takes p)
    (hwork : roomTempWork k x (s.met p) = (s.met p, .refused code)) :
    refusesWith (.roomTemp p k x) p 0x12 (.refused code) s :=
  ⟨_, rfl, requestEvent_refused p (roomTempRequest k x) s (.refused code) h rfl nofun hwork⟩

/-- Settles O16: a zone read by port holds or rejects as the range says; the other two outcomes are refusals. -/
theorem roomTempHoldsOrRejects : Obligations.RoomTempHoldsOrRejects := by
  intro p k x s h hshape
  refine ⟨fun h1 h16 hsource hlo hhi => ?_, fun h1 h16 hsource hout => ?_, fun h1 h16 hsource => ?_, fun hout => ?_⟩
  · exact roomTemp_holds h hshape h1 h16 hsource ((inMeasuringRange_iff x).mpr ⟨hlo, hhi⟩)
  · exact roomTemp_rejects h hshape h1 h16 hsource (inMeasuringRange_outside hout)
  · exact roomTemp_refused h (roomTempWork_headRead x h1 h16 (by simpa using hsource))
  · exact roomTemp_refused h (roomTempWork_range x _ hout)

end Sys2Proof.Machine
end

section
/-! PROOF. The PI computation (O22, O23). -/

namespace Sys2Proof.Machine

/-! ## Rounding half away from zero (00_scope.md, ROUNDING) -/

theorem roundHalfAway_natCast (a d : Nat) : roundHalfAway a d = ((2 * a + d) / (2 * d) : Nat) := by
  rw [roundHalfAway, if_neg (by omega), Int.natAbs_natCast]

theorem roundHalfAway_neg (n : Int) {d : Nat} (hd : 1 ≤ d) : roundHalfAway (-n) d = -roundHalfAway n d := by
  rcases lt_trichotomy n 0 with hn | rfl | hn
  · rw [roundHalfAway, roundHalfAway, if_neg (by omega), if_pos hn, Int.natAbs_neg, neg_neg]
  · have hzero : roundHalfAway 0 d = 0 :=
      (roundHalfAway_natCast 0 d).trans (congrArg Nat.cast (Nat.div_eq_of_lt (by omega)))
    rw [neg_zero, hzero, neg_zero]
  · rw [roundHalfAway, roundHalfAway, if_pos (by omega), if_neg (by omega), Int.natAbs_neg]

theorem isRoundedHalfAway_neg {k n d : Int} (h : IsRoundedHalfAway k n d) : IsRoundedHalfAway (-k) (-n) d := by
  have hdistance : (-n - -k * d).natAbs = (n - k * d).natAbs := by rw [← Int.natAbs_neg]; congr 1; ring
  rwa [IsRoundedHalfAway, hdistance, Int.natAbs_neg, neg_mul, Int.natAbs_neg]

theorem roundHalfAway_rounded (n : Int) {d : Nat} (hd : 1 ≤ d) : IsRoundedHalfAway (roundHalfAway n d) n d := by
  have hcount (a : Nat) : IsRoundedHalfAway (roundHalfAway a d) a d := by
    rw [roundHalfAway_natCast]
    have hlow : 2 * d * ((2 * a + d) / (2 * d)) ≤ 2 * a + d := Nat.mul_div_le _ _
    have hhigh : 2 * a + d < 2 * d * ((2 * a + d) / (2 * d) + 1) := Nat.lt_mul_div_succ _ (by omega)
    generalize (2 * a + d) / (2 * d) = q at hlow hhigh
    rw [mul_assoc, mul_comm d] at hlow hhigh
    rw [add_mul, one_mul] at hhigh
    have hcast : (q : Int) * d = (q * d : Nat) := (Nat.cast_mul q d).symm
    rw [IsRoundedHalfAway, hcast]
    omega
  obtain ⟨a, rfl | rfl⟩ := n.eq_nat_or_neg
  · exact hcount a
  · rw [roundHalfAway_neg _ hd]; exact isRoundedHalfAway_neg (hcount a)

/-- A quotient within `-m … m` stays within it when rounded. -/
theorem roundHalfAway_within {n m : Int} {d : Nat} (hd : 1 ≤ d) (hlo : -(m * d) ≤ n) (hhi : n ≤ m * d) :
    -m ≤ roundHalfAway n d ∧ roundHalfAway n d ≤ m := by
  obtain ⟨hnear, -⟩ := roundHalfAway_rounded n hd
  generalize roundHalfAway n d = k at hnear
  constructor
  · by_contra hk
    have hbeyond : (k + 1) * d ≤ -m * d := mul_le_mul_of_nonneg_right (by omega) (by omega)
    rw [add_mul, one_mul, neg_mul] at hbeyond
    omega
  · by_contra hk
    have hbeyond : (m + 1) * d ≤ k * d := mul_le_mul_of_nonneg_right (by omega) (by omega)
    rw [add_mul, one_mul] at hbeyond
    omega

/-! ## Error and proportional term (R54) -/

theorem piError_mem (setpoint reading : Temp) : -100 ≤ piError setpoint reading ∧ piError setpoint reading ≤ 100 :=
  clamp_mem (by decide) _

theorem piProportional_within {e : Int} {band : Nat} (hlo : -100 ≤ e) (hhi : e ≤ 100) (hband : 5 ≤ band) :
    -20000 ≤ piProportional e band ∧ piProportional e band ≤ 20000 :=
  roundHalfAway_within (by omega) (by omega) (by omega)

/-- Settles O22: the error is a clamp, the term is `roundHalfAway_rounded` and its bound `piProportional_within`. -/
theorem proportionalTermFollowsTheClampedError : Obligations.ProportionalTermFollowsTheClampedError := by
  intro setpoint reading band hband
  obtain ⟨hlo, hhi⟩ := piError_mem setpoint reading
  exact ⟨clamp_below, clamp_above (by decide), clamp_of_mem, roundHalfAway_rounded _ hband, piProportional_within hlo hhi⟩

/-! ## The increment (R55) and the upward freeze (R56) -/

theorem piIncrement_zero (e : Int) (period band : Nat) : piIncrement e period band 0 = 0 := rfl

theorem piIncrement_pos (e : Int) (period band : Nat) {integralTime : Nat} (h : integralTime ≠ 0) :
    piIncrement e period band integralTime = roundHalfAway (e * 1000 * period) (band * integralTime) := if_neg h

theorem piIncrement_rounded (e : Int) (period : Nat) {band integralTime : Nat} (hband : 1 ≤ band)
    (htime : 1 ≤ integralTime) :
    IsRoundedHalfAway (piIncrement e period band integralTime) (e * 1000 * period) (band * integralTime) := by
  rw [piIncrement_pos _ _ _ (by omega), ← Nat.cast_mul]
  exact roundHalfAway_rounded _ (Nat.mul_pos hband htime)

/-- The greatest increment comes with error ±100, period 10, band 5 and integral time 10 (R55). -/
theorem piIncrement_within {e : Int} {period band integralTime : Nat} (hlo : -100 ≤ e) (hhi : e ≤ 100)
    (hperiod : period ≤ 10) (hband : 5 ≤ band) (htime : 10 ≤ integralTime) :
    -20000 ≤ piIncrement e period band integralTime ∧ piIncrement e period band integralTime ≤ 20000 := by
  have hdivisor : 5 * 10 ≤ band * integralTime := Nat.mul_le_mul hband htime
  have hlow : -100 * (period : Int) ≤ e * period := mul_le_mul_of_nonneg_right hlo (by omega)
  have hhigh : e * period ≤ 100 * (period : Int) := mul_le_mul_of_nonneg_right hhi (by omega)
  rw [piIncrement_pos _ _ _ (by omega), mul_right_comm]
  exact roundHalfAway_within (by omega) (by omega) (by omega)

theorem piFreeze_free (inc : Int) : piFreeze false inc = inc := if_neg (by simp)

theorem piFreeze_rising {inc : Int} (h : 0 < inc) : piFreeze true inc = 0 := if_pos ⟨rfl, h⟩

theorem piFreeze_falling (frozen : Bool) {inc : Int} (h : inc ≤ 0) : piFreeze frozen inc = inc := if_neg (by omega)

theorem piFreeze_frozen_nonpos (inc : Int) : piFreeze true inc ≤ 0 := by
  rcases lt_or_ge 0 inc with h | h
  · rw [piFreeze_rising h]
  · rwa [piFreeze_falling true h]

/-! ## Conditional integration (R57) -/

/-- The increment would drive a saturated output further into saturation (R57). -/
abbrev Saturates (p i inc : Int) : Prop := 1000 < p + (i + inc) ∧ 0 < inc ∨ p + (i + inc) < 0 ∧ inc < 0

theorem piIntegrate_refuses {p i inc : Int} (h : Saturates p i inc) : piIntegrate p i inc = clamp 0 1000 i :=
  congrArg (clamp 0 1000) (if_pos h)

theorem piIntegrate_takes {p i inc : Int} (h : ¬ Saturates p i inc) : piIntegrate p i inc = clamp 0 1000 (i + inc) :=
  congrArg (clamp 0 1000) (if_neg h)

theorem piIntegrate_mem (p i inc : Int) : 0 ≤ piIntegrate p i inc ∧ piIntegrate p i inc ≤ 1000 :=
  clamp_mem (by decide) _

theorem piIntegrate_zero (p : Int) : piIntegrate p 0 0 = 0 := piIntegrate_takes (by omega)

theorem clamp_mono {lo hi x y : Int} (hrange : lo ≤ hi) (h : x ≤ y) : clamp lo hi x ≤ clamp lo hi y := by
  simp only [clamp]; split_ifs <;> omega

/-- An increment that is not positive raises no integrator in range. -/
theorem piIntegrate_le {i inc : Int} (p : Int) (h0 : 0 ≤ i) (h1000 : i ≤ 1000) (hinc : inc ≤ 0) :
    piIntegrate p i inc ≤ i := by
  by_cases h : Saturates p i inc
  · rw [piIntegrate_refuses h, clamp_of_mem h0 h1000]
  · calc piIntegrate p i inc = clamp 0 1000 (i + inc) := piIntegrate_takes h
      _ ≤ clamp 0 1000 i := clamp_mono (by decide) (by omega)
      _ = i := clamp_of_mem h0 h1000

/-! ## The stages in turn (R54 to R58) -/

/-- The integrator that enters the fifth stage (R55). -/
abbrev heldIntegrator (z : ZoneCfg) (integrator : Nat) : Int := if z.integralTime = 0 then 0 else integrator

theorem heldIntegrator_mem (z : ZoneCfg) (integrator : Nat) :
    0 ≤ heldIntegrator z integrator ∧ heldIntegrator z integrator ≤ integrator := by
  rw [heldIntegrator]; split_ifs <;> omega

/-- The new integrator is what conditional integration makes of it. -/
theorem piCompute_integrator (z : ZoneCfg) (setpoint reading : Temp) (integrator : Nat) (frozen : Bool) :
    ((piCompute z setpoint reading integrator frozen).1 : Int) =
      piIntegrate (piProportional (piError setpoint reading) z.band) (heldIntegrator z integrator)
        (piFreeze frozen (piIncrement (piError setpoint reading) z.period z.band z.integralTime)) :=
  Int.toNat_of_nonneg (piIntegrate_mem ..).1

/-- The demand is the proportional term and the new integrator, clamped. -/
theorem piCompute_demand (z : ZoneCfg) (setpoint reading : Temp) (integrator : Nat) (frozen : Bool) :
    ((piCompute z setpoint reading integrator frozen).2 : Int) =
      clamp 0 1000 (piProportional (piError setpoint reading) z.band +
        (piCompute z setpoint reading integrator frozen).1) := by
  rw [piCompute_integrator]
  exact Int.toNat_of_nonneg (clamp_mem (by decide) _).1

theorem piCompute_integrator_off {z : ZoneCfg} (setpoint reading : Temp) (integrator : Nat) (frozen : Bool)
    (h : z.integralTime = 0) : (piCompute z setpoint reading integrator frozen).1 = 0 := by
  have hcomputed := piCompute_integrator z setpoint reading integrator frozen
  rw [heldIntegrator, if_pos h, h, piIncrement_zero, piFreeze_falling frozen le_rfl, piIntegrate_zero] at hcomputed
  exact_mod_cast hcomputed

theorem piCompute_le (z : ZoneCfg) (setpoint reading : Temp) (integrator : Nat) (frozen : Bool) :
    (piCompute z setpoint reading integrator frozen).1 ≤ 1000 ∧
      (piCompute z setpoint reading integrator frozen).2 ≤ 1000 := by
  zify
  rw [piCompute_demand, piCompute_integrator]
  exact ⟨(piIntegrate_mem ..).2, (clamp_mem (by decide) _).2⟩

/-- A frozen zone's integrator does not rise (R56). -/
theorem piCompute_frozen_le (z : ZoneCfg) (setpoint reading : Temp) {integrator : Nat} (h : integrator ≤ 1000) :
    (piCompute z setpoint reading integrator true).1 ≤ integrator := by
  obtain ⟨hheld0, hheld⟩ := heldIntegrator_mem z integrator
  zify
  rw [piCompute_integrator]
  exact (piIntegrate_le _ hheld0 (by omega) (piFreeze_frozen_nonpos _)).trans hheld

/-- Settles O23: the stages one by one, then `piCompute`, which takes them in turn. -/
theorem piStagesComputeIntegratorAndDemand : Obligations.PiStagesComputeIntegratorAndDemand := by
  refine ⟨fun e period band integralTime hlo hhi _ hperiod hband => ?_, fun p i inc => ?_,
    fun z setpoint reading integrator frozen hintegrator => ?_⟩
  · refine ⟨?_, fun htime => ?_, piFreeze_free, fun _ => piFreeze_rising, fun _ => piFreeze_falling true⟩
    · rintro rfl; exact piIncrement_zero e period band
    · exact ⟨piIncrement_rounded e period (by omega) (by omega), piIncrement_within hlo hhi hperiod hband htime⟩
  · refine ⟨fun hsaturates h0 h1000 => ?_, fun hfree => ?_⟩
    · rw [piIntegrate_refuses hsaturates, clamp_of_mem h0 h1000]
    · rw [piIntegrate_takes hfree]
      exact ⟨clamp_below, clamp_above (by decide), clamp_of_mem⟩
  · obtain ⟨hintegrator1000, hdemand1000⟩ := piCompute_le z setpoint reading integrator frozen
    refine ⟨piCompute_integrator .., piCompute_integrator_off _ _ _ _, piCompute_demand .., hintegrator1000, hdemand1000, ?_⟩
    rintro rfl
    exact piCompute_frozen_le z setpoint reading hintegrator

end Sys2Proof.Machine
end

section
/-! PROOF. Settling, taken apart once: what a property must be kept by for settling to keep it (log 4; O4, O31 to O36). -/

namespace Sys2Proof.Machine

/-- A property that each thing settling is made of keeps: the boiler's record (but for the heat dump), the relays and the
ramp, the controller's raises, the table judged, sink-open, the marks, a grant, and the next transaction. -/
structure SettlingKeeps (P : State → Prop) : Prop where
  boiler : ∀ s b, b.heatDump = s.boiler.heatDump → P s → P (s.setBoiler b)
  relays : ∀ s output ramp burner pump, P s → P (s.setField { s.field with output, ramp, burner, pump })
  raises : ∀ s c o, c ∈ [Category.boiler, .capacity, .sink] → P s → P (s.raise c o)
  table : ∀ s, P s → P s.judgeTable
  sinks : ∀ s b, P s → P (s.setSinkOpen b)
  marks : ∀ s, P s → P s.remark
  grant : ∀ s e, P s → s.nextGrant = some e → P (s.grant e)
  transaction : ∀ s, P s → P s.nextTransaction

namespace SettlingKeeps

variable {P : State → Prop} (h : SettlingKeeps P)
include h

theorem enterState {s : State} (b : Boiler) (hb : b.heatDump = s.boiler.heatDump) (hs : P s) : P (s.enterState b) :=
  enterState_induct P b s h.table h.marks h.grant (h.boiler s b hb hs)

theorem closeSinks {s : State} (hs : P s) : P s.closeSinks := by
  unfold State.closeSinks; split
  · exact hs
  · exact h.sinks s false hs

theorem enterIdle {s : State} (hs : P s) : P s.enterIdle := h.enterState _ rfl (h.closeSinks hs)

theorem enterRest {s : State} (hs : P s) : P s.enterRest := h.enterState _ rfl (h.closeSinks hs)

theorem enterLead {s : State} (hs : P s) : P s.enterLead := by
  have timed : P (s.setBoiler { s.boiler.cleared with leadTimer := startTimer s.cfg.boiler.leadTime }) := h.boiler s _ rfl hs
  refine h.enterState _ rfl ?_
  unfold State.openSinksIfShort; split
  · exact h.sinks _ true timed
  · exact timed

theorem handRamp {s : State} (a b : Nat) (hs : P s) : P (s.handRamp a b) := by
  unfold State.handRamp; split <;> exact h.relays s _ _ _ _ hs

theorem enterFiring {s : State} (hs : P s) : P s.enterFiring :=
  h.enterState _ (by simp [Boiler.cleared]) (h.handRamp _ _ (h.relays s _ _ _ _ hs))

theorem withFlow {s : State} (hs : P s) : P s.withFlow := h.boiler s _ rfl hs

theorem recomputeFlow {s : State} (hs : P s) : P s.recomputeFlow := by
  unfold State.recomputeFlow; dsimp only; split
  · exact h.handRamp _ _ (h.withFlow hs)
  · exact h.withFlow hs

theorem burnerOut {s : State} (hs : P s) : P s.burnerOut := by
  have held : P s.endHold := by
    unfold State.endHold; split
    · exact h.withFlow (h.boiler s _ rfl hs)
    · exact hs
  exact h.boiler _ _ rfl (h.relays _ _ _ _ _ (h.relays _ _ _ _ _ held))

theorem enterOverrun {s : State} (hs : P s) : P s.enterOverrun := h.enterState _ rfl (h.burnerOut hs)

theorem enterFaulted {s : State} (hs : P s) : P s.enterFaulted := by
  have out : P (if s.boiler.state = .firing then s.burnerOut else s) := by
    split
    · exact h.burnerOut hs
    · exact hs
  exact h.enterState _ rfl (h.raises _ .boiler _ (by simp) out)

theorem leadExpiry {s : State} (hs : P s) : P s.leadExpiry := by
  unfold State.leadExpiry
  dsimp only
  split
  · exact h.boiler s _ rfl hs
  split
  · exact h.enterFiring hs
  split
  · exact h.boiler s _ rfl hs
  · exact h.enterRest (h.raises _ .sink _ (by simp) (h.boiler s _ rfl hs))

theorem leadMove {s t : State} (hs : P s) (hmove : s.leadMove = some t) : P t := by
  unfold State.leadMove at hmove
  repeat' split at hmove
  all_goals cases hmove
  · exact h.enterIdle hs
  · exact h.sinks s true hs
  · exact h.leadExpiry hs

theorem firingMove {s t : State} {before : Nat → Nat} {cue : Cue} (hs : P s) (hmove : s.firingMove before cue = some t) :
    P t := by
  unfold State.firingMove at hmove
  repeat' split at hmove
  all_goals cases hmove
  · exact h.enterOverrun (h.raises s .capacity _ (by simp) hs)
  · exact h.enterOverrun hs
  · exact h.recomputeFlow (h.boiler s _ rfl hs)
  · exact h.enterOverrun hs
  · exact h.recomputeFlow (h.boiler s _ rfl hs)

theorem boilerMove {s t : State} {before : Nat → Nat} {cue : Cue} (hs : P s) (hmove : s.boilerMove before cue = some t) :
    P t := by
  unfold State.boilerMove at hmove
  split at hmove
  · split at hmove <;> cases hmove; exact h.enterRest hs
  split at hmove
  · cases hmove; exact h.enterFaulted hs
  split at hmove
  · split at hmove <;> cases hmove; exact h.enterLead hs
  · exact h.leadMove hs hmove
  · exact h.firingMove hs hmove
  · split at hmove <;> cases hmove; exact h.enterRest hs
  · split at hmove <;> cases hmove; exact h.enterIdle hs
  · cases hmove

theorem settleWith {s : State} (before : Nat → Nat) (cue : Cue) (hs : P s) : P (s.settleWith before cue) :=
  settleWith_induct P before cue s (fun _ _ _ => h.boilerMove) h.marks h.grant h.transaction
    (fun u hu => h.relays u _ _ _ _ hu) hs

theorem settle {s : State} (before : State) (hs : P s) : P (s.settle before) := h.settleWith _ _ hs

end SettlingKeeps

end Sys2Proof.Machine
end

section
/-! PROOF. What settling does to one valve slot: its head, its commands and its waiting HOME stand, or the slot is granted
one entry (R92, R117 to R119; O31 to O36). -/

namespace Sys2Proof.Machine

/-! ## What a slot's entries ask for -/

/-- What the entries of slot `v` ask for: operation and target (R112). -/
def State.orders (s : State) (v : Nat) : List (MoveOp × Nat) := (s.queued v).map fun e => (e.op, e.target)

/-- A HOME waits for slot `v`, and nothing else. -/
def State.homeWaits (s : State) (v : Nat) : Prop := s.orders v ≠ [] ∧ ∀ o ∈ s.orders v, o.1 = .home

theorem orders_congr {s t : State} {v : Nat} (h : t.queued v = s.queued v) : t.orders v = s.orders v := by
  rw [State.orders, State.orders, h]

theorem mem_queued {s : State} {v : Nat} {e : Entry} (he : e ∈ s.arbiter.queue) (hv : e.slot = v) :
    e.unmarked ∈ s.queued v := List.mem_map_of_mem (List.mem_filter.mpr ⟨he, by simpa using hv⟩)

theorem of_mem_queued {s : State} {v : Nat} {e : Entry} (he : e ∈ s.queued v) :
    ∃ f ∈ s.arbiter.queue, f.slot = v ∧ f.unmarked = e := by
  obtain ⟨f, hf, rfl⟩ := List.mem_map.mp he
  obtain ⟨hf, hv⟩ := List.mem_filter.mp hf
  exact ⟨f, hf, by simpa using hv, rfl⟩

theorem mem_orders {s : State} {v : Nat} {o : MoveOp × Nat} :
    o ∈ s.orders v ↔ ∃ e ∈ s.arbiter.queue, e.slot = v ∧ (e.op, e.target) = o := by
  rw [State.orders, List.mem_map]
  constructor
  · rintro ⟨e, he, rfl⟩
    obtain ⟨f, hf, hv, rfl⟩ := of_mem_queued he
    exact ⟨f, hf, hv, rfl⟩
  · rintro ⟨e, he, hv, rfl⟩
    exact ⟨e.unmarked, mem_queued he hv, rfl⟩

theorem homeWaits_of_orders {s t : State} {v : Nat} (h : s.homeWaits v) (ht : t.orders v = s.orders v) : t.homeWaits v := by
  rw [State.homeWaits, ht]; exact h

/-- The entry of a slot for which a HOME waits. -/
theorem State.homeWaits.exists_home {s : State} {v : Nat} (h : s.homeWaits v) :
    ∃ e ∈ s.arbiter.queue, e.slot = v ∧ e.op = .home := by
  obtain ⟨hsome, hall⟩ := h
  obtain ⟨o, ho⟩ := List.exists_mem_of_ne_nil _ hsome
  obtain ⟨e, he, hv, heo⟩ := mem_orders.mp ho
  exact ⟨e, he, hv, (congrArg Prod.fst heo).trans (hall o ho)⟩

theorem State.homeWaits.op_eq {s : State} {v : Nat} (h : s.homeWaits v) {e : Entry} (he : e ∈ s.arbiter.queue)
    (hv : e.slot = v) : e.op = .home :=
  h.2 (e.op, e.target) (mem_orders.mpr ⟨e, he, hv, rfl⟩)

/-! ### A drive target joins or leaves beside a HOME (R113, R110) -/

theorem takeDrive_orders_home (target : Nat) (cls : MoveClass) {l : List Entry} (h : ∀ e ∈ l, e.op = .home) :
    (l.map (Entry.takeDrive target cls)).map (fun e => (e.op, e.target)) = l.map fun e => (e.op, e.target) := by
  rw [List.map_map]
  refine List.map_congr_left fun e he => ?_
  simp [Entry.takeDrive, h e he]

theorem queued_op_of_homeWaits {s : State} {v : Nat} (h : s.homeWaits v) : ∀ e ∈ s.queued v, e.op = .home :=
  fun _ he => h.2 _ (List.mem_map_of_mem he)

theorem queued_ne_nil_of_homeWaits {s : State} {v : Nat} (h : s.homeWaits v) : s.queued v ≠ [] := fun hnil =>
  h.1 (by rw [State.orders, hnil]; rfl)

theorem joinDrive_homeWaits {s : State} {v : Nat} (w target : Nat) (cls : MoveClass) (h : s.homeWaits v) :
    (s.joinDrive w target cls).orders v = s.orders v := by
  by_cases hw : v = w
  · subst hw
    rw [State.orders, joinDrive_taken _ _ (queued_ne_nil_of_homeWaits h),
      takeDrive_orders_home _ _ (queued_op_of_homeWaits h)]
    rfl
  · exact orders_congr (joinDrive_queued_other s _ _ hw)

theorem dropRegulated_homeWaits {s : State} {v : Nat} (w : Nat) (h : s.homeWaits v) :
    (s.dropRegulated w).orders v = s.orders v := by
  by_cases hw : v = w
  · subst hw
    unfold State.dropRegulated
    split
    next e he =>
      have hslot : e.slot = v := by simpa using List.find?_some he
      have hop := h.op_eq (List.mem_of_find?_eq_some he) hslot
      rw [if_neg (by simp [hop])]
    next => rfl
  · exact orders_congr (dropRegulated_queued_other s hw)

/-- All that an offer can do (R110). -/
theorem offer_cases (s : State) (v : Nat) :
    s.offer v = s ∨
      (s.head v).state ≠ .absent ∧
        (s.offer v = s.dropRegulated v ∨ ∃ w, s.wantedOf v = some w ∧ s.offer v = s.joinDrive v w.target w.cls) := by
  cases hw : s.wantedOf v with
  | none => exact .inl (by rw [State.offer, hw])
  | some w =>
    by_cases habsent : (s.head v).state = .absent
    · exact .inl (offer_absent hw habsent)
    cases hr : (s.head v).reference with
    | some r =>
      rw [offer_placed hw habsent hr]
      split
      · exact .inr ⟨habsent, .inr ⟨w, rfl, rfl⟩⟩
      · exact .inr ⟨habsent, .inl rfl⟩
    | none =>
      have hoffer : s.offer v = if (s.entryOf v).isSome then s.joinDrive v w.target w.cls else s := by
        rw [State.offer, hw, hr]
        cases hs : (s.head v).state with
        | absent => exact absurd hs habsent
        | _ => rfl
      rw [hoffer]
      split
      · exact .inr ⟨habsent, .inr ⟨w, rfl, rfl⟩⟩
      · exact .inl rfl

theorem offer_homeWaits {s : State} {v : Nat} (w : Nat) (h : s.homeWaits v) : (s.offer w).orders v = s.orders v := by
  rcases offer_cases s w with heq | ⟨-, heq | ⟨x, -, heq⟩⟩ <;> rw [heq]
  · exact dropRegulated_homeWaits w h
  · exact joinDrive_homeWaits w _ _ h

theorem formAndOffer_homeWaits {s : State} {v : Nat} (w : Nat) (h : s.homeWaits v) :
    (s.formAndOffer w).orders v = s.orders v :=
  offer_homeWaits (s := s.setWanted w (s.formTarget w)) w h

theorem formAll_homeWaits {s : State} {v : Nat} (vs : List Nat) (h : s.homeWaits v) :
    (s.formAll vs).orders v = s.orders v :=
  foldl_induct (fun u => u.orders v = s.orders v) State.formAndOffer vs
    (fun _ w _ hu => (formAndOffer_homeWaits w (homeWaits_of_orders h hu)).trans hu) s rfl

/-! ### No offer brings a HOME (R113) -/

theorem joinDrive_home {s : State} {v n : Nat} (w target : Nat) (cls : MoveClass)
    (h : (MoveOp.home, n) ∈ (s.joinDrive w target cls).orders v) : (MoveOp.home, n) ∈ s.orders v := by
  by_cases hw : v = w
  · subst hw
    by_cases hnone : s.queued v = []
    · rw [State.orders, joinDrive_empty _ _ hnone] at h
      simp at h
    · rw [State.orders, joinDrive_taken _ _ hnone, List.map_map] at h
      obtain ⟨e, he, heo⟩ := List.mem_map.mp h
      refine List.mem_map.mpr ⟨e, he, ?_⟩
      cases hop : e.op <;> simp_all [Entry.takeDrive]
  · rwa [orders_congr (joinDrive_queued_other s _ _ hw)] at h

theorem dropRegulated_home {s : State} {v n : Nat} (w : Nat) (h : (MoveOp.home, n) ∈ (s.dropRegulated w).orders v) :
    (MoveOp.home, n) ∈ s.orders v := by
  obtain ⟨e, he, hv, heo⟩ := mem_orders.mp h
  refine mem_orders.mpr ⟨e, ?_, hv, heo⟩
  unfold State.dropRegulated at he
  split at he
  · split at he
    · exact (List.mem_filter.mp he).1
    · exact he
  · exact he

theorem offer_home {s : State} {v n : Nat} (w : Nat) (h : (MoveOp.home, n) ∈ (s.offer w).orders v) :
    (MoveOp.home, n) ∈ s.orders v := by
  rcases offer_cases s w with heq | ⟨-, heq | ⟨x, -, heq⟩⟩ <;> rw [heq] at h
  · exact h
  · exact dropRegulated_home w h
  · exact joinDrive_home w _ _ h

theorem formAll_home {s : State} {v n : Nat} (vs : List Nat) (h : (MoveOp.home, n) ∈ (s.formAll vs).orders v) :
    (MoveOp.home, n) ∈ s.orders v :=
  foldl_induct (fun u => (MoveOp.home, n) ∈ u.orders v → (MoveOp.home, n) ∈ s.orders v) State.formAndOffer vs
    (fun u w _ hu hw => hu (offer_home (s := u.setWanted w (u.formTarget w)) w hw)) s id h

/-! ### A head that is ABSENT is offered nothing (R110) -/

theorem formAndOffer_absent {s : State} {v : Nat} (w : Nat) (h : (s.head v).state = .absent) :
    (s.formAndOffer w).queued v = s.queued v := by
  by_cases hw : v = w
  · subst hw
    rcases offer_cases (s.setWanted v (s.formTarget v)) v with heq | ⟨hstate, -⟩
    · rw [State.formAndOffer, heq]; rfl
    · exact absurd h hstate
  · exact formAndOffer_queued_other s hw

theorem formAll_absent {s : State} {v : Nat} (vs : List Nat) (h : (s.head v).state = .absent) :
    (s.formAll vs).queued v = s.queued v := by
  have hfold := foldl_induct (fun u => u.heads = s.heads ∧ u.queued v = s.queued v) State.formAndOffer vs
    (fun u w _ ⟨hheads, hu⟩ => ⟨by simpa using hheads,
      (formAndOffer_absent w (by rw [State.head, hheads]; exact h)).trans hu⟩) s ⟨rfl, rfl⟩
  exact hfold.2

/-! ## Commands (R87) -/

/-- A command of slot `v` is pending or in flight. -/
def State.commanded (s : State) (v : Nat) (r : LinkRequest) : Prop := ∃ c ∈ s.link.commands, c.slot = v ∧ c.request = r

theorem commanded_addCommand (s : State) (v : Nat) (r : LinkRequest) : (s.addCommand v r).commanded v r := by
  show ∃ c ∈ joinCommand s.link.commands v r, _
  unfold joinCommand
  split
  · next hany =>
    obtain ⟨c, hc, hv⟩ := List.any_eq_true.mp hany
    exact ⟨⟨v, r, false⟩, List.mem_map.mpr ⟨c, hc, if_pos (by simpa using hv)⟩, rfl, rfl⟩
  · exact ⟨⟨v, r, false⟩, by simp, rfl, rfl⟩

theorem commanded_addCommand_other (s : State) {v w : Nat} (r q : LinkRequest) (h : w ≠ v) :
    (s.addCommand v r).commanded w q ↔ s.commanded w q := by
  show (∃ c ∈ joinCommand s.link.commands v r, _) ↔ _
  unfold joinCommand State.commanded
  split
  · constructor
    · rintro ⟨c, hc, hw, hq⟩
      obtain ⟨d, hd, rfl⟩ := List.mem_map.mp hc
      split at hw
      · exact absurd hw.symm h
      · next hdv => rw [if_neg hdv] at hq; exact ⟨d, hd, hw, hq⟩
    · rintro ⟨c, hc, hw, hq⟩
      exact ⟨c, List.mem_map.mpr ⟨c, hc, if_neg fun hv => h (hw.symm.trans hv)⟩, hw, hq⟩
  · constructor
    · rintro ⟨c, hc, hw, hq⟩
      rcases List.mem_append.mp hc with hc | hc
      · exact ⟨c, hc, hw, hq⟩
      · rw [List.mem_singleton.mp hc] at hw; exact absurd hw.symm h
    · rintro ⟨c, hc, hw, hq⟩
      exact ⟨c, List.mem_append_left _ hc, hw, hq⟩

theorem markSent_commanded (cmds : List Command) (v : Nat) (r : LinkRequest) :
    (∃ c ∈ markSent cmds, c.slot = v ∧ c.request = r) ↔ ∃ c ∈ cmds, c.slot = v ∧ c.request = r := by
  cases cmds <;> simp [markSent]

/-- The next transaction marks its command as sent, and takes none away (R87, R88). -/
theorem nextTransaction_commanded (s : State) (v : Nat) (r : LinkRequest) :
    s.nextTransaction.commanded v r ↔ s.commanded v r := by
  unfold State.nextTransaction
  repeat' split
  · exact Iff.rfl
  · exact markSent_commanded _ v r
  · exact Iff.rfl
  · exact Iff.rfl

theorem nextTransaction_fault (s : State) : s.nextTransaction.link.fault = s.link.fault := by
  unfold State.nextTransaction; repeat' split
  all_goals rfl

theorem nextTransaction_cursor (s : State) : s.nextTransaction.link.cursor = s.link.cursor := by
  unfold State.nextTransaction; repeat' split
  all_goals rfl

/-! ## A slot that stands, and one that is granted -/

/-- From `u` to `t` slot `v` keeps its head, its commands and the HOME that waits for it; none comes to wait for it. -/
structure State.SlotStands (u t : State) (v : Nat) : Prop where
  head : t.head v = u.head v
  commands : ∀ r, t.commanded v r ↔ u.commanded v r
  home : ∀ n, (MoveOp.home, n) ∈ t.orders v → (MoveOp.home, n) ∈ u.orders v
  waits : u.homeWaits v → t.orders v = u.orders v

/-- From `u` to `t` slot `v` is granted `e`, and nothing else (R92, R117): a HOME only where one waited. -/
structure State.SlotGranted (u t : State) (v : Nat) (e : Entry) : Prop where
  fault : u.link.fault = false
  supply : u.field.supplyOk = true
  takes : headTakes (u.head v).state e.op = true
  head : t.head v = (u.head v).granted e (u.valveCfg v).stroke
  commanded : t.commanded v e.request
  home : e.op = .home → ∃ n, (MoveOp.home, n) ∈ u.orders v
  waits : u.homeWaits v → e.op = .home

/-- What settling makes of slot `v`, with the settings, the supply and the link's fault as they were. -/
structure State.SlotSettles (u t : State) (v : Nat) : Prop where
  cfg : t.cfg = u.cfg
  fault : t.link.fault = u.link.fault
  supply : t.field.supplyOk = u.field.supplyOk
  slots : t.heads.length = u.heads.length
  outcome : u.SlotStands t v ∨ ∃ e, u.SlotGranted t v e

theorem State.SlotStands.refl (s : State) (v : Nat) : s.SlotStands s v := ⟨rfl, fun _ => Iff.rfl, fun _ h => h, fun _ => rfl⟩

theorem State.SlotStands.of_same {s t : State} {v : Nat} (heads : t.heads = s.heads)
    (commands : ∀ r, t.commanded v r ↔ s.commanded v r) (queued : t.queued v = s.queued v) : s.SlotStands t v where
  head := by rw [State.head, heads]; rfl
  commands := commands
  home _ h := by rwa [orders_congr queued] at h
  waits _ := orders_congr queued

theorem State.SlotStands.trans {s t u : State} {v : Nat} (h : s.SlotStands t v) (h' : t.SlotStands u v) :
    s.SlotStands u v where
  head := h'.head.trans h.head
  commands r := (h'.commands r).trans (h.commands r)
  home n hn := h.home n (h'.home n hn)
  waits hs := (h'.waits (homeWaits_of_orders hs (h.waits hs))).trans (h.waits hs)

namespace State.SlotSettles

variable {u s t : State} {v : Nat}

theorem refl (u : State) (v : Nat) : u.SlotSettles u v := ⟨rfl, rfl, rfl, rfl, .inl (.refl u v)⟩

/-- A slot that stands once more. -/
theorem stand (h : u.SlotSettles s v) (hst : s.SlotStands t v) (cfg : t.cfg = s.cfg := by simp)
    (fault : t.link.fault = s.link.fault := by simp) (supply : t.field.supplyOk = s.field.supplyOk := by simp)
    (slots : t.heads.length = s.heads.length := by simp) : u.SlotSettles t v where
  cfg := cfg.trans h.cfg
  fault := fault.trans h.fault
  supply := supply.trans h.supply
  slots := slots.trans h.slots
  outcome := h.outcome.imp (·.trans hst) fun ⟨e, he⟩ =>
    ⟨e, he.fault, he.supply, he.takes, hst.head.trans he.head, (hst.commands _).mpr he.commanded, he.home, he.waits⟩

end State.SlotSettles

theorem formAll_slotStands (s : State) (vs : List Nat) (v : Nat) : s.SlotStands (s.formAll vs) v where
  head := by simp [State.head]
  commands r := by simp [State.commanded]
  home _ h := formAll_home vs h
  waits h := formAll_homeWaits vs h

theorem judgeTable_slotStands (s : State) (v : Nat) : s.SlotStands s.judgeTable v := by
  have table (x : ConsumerTable) : s.SlotStands (s.setTable x) v := .of_same rfl (fun _ => Iff.rfl) rfl
  unfold State.judgeTable
  dsimp only
  split
  · exact table _
  · exact (table _).trans (formAll_slotStands _ _ v)

theorem setSinkOpen_slotStands (s : State) (b : Bool) (v : Nat) : s.SlotStands (s.setSinkOpen b) v := by
  have sink : s.SlotStands (s.setArbiter { s.arbiter with sinkOpen := b }) v := .of_same rfl (fun _ => Iff.rfl) rfl
  unfold State.setSinkOpen
  split
  · exact .refl s v
  · exact sink.trans (formAll_slotStands _ _ v)

/-- A head that runs takes no operation (R117). -/
theorem headTakes_granted (op new : MoveOp) : headTakes op.headState new = false := by cases op <;> cases new <;> rfl

theorem grant_slotStands_other (s : State) (e : Entry) {v : Nat} (h : v ≠ e.slot) : s.SlotStands (s.grant e) v where
  head := grant_head_other s e v h
  commands r := (commanded_addCommand_other _ _ r h).trans Iff.rfl
  home _ hn := by rwa [orders_congr (t := s.grant e) (queued_removeEntry_other s h)] at hn
  waits _ := orders_congr (queued_removeEntry_other s h)

theorem grant_slotSettles {u s : State} {v : Nat} {e : Entry} (h1 : 1 ≤ v) (h2 : v ≤ u.heads.length)
    (h : u.SlotSettles s v) (hgrant : s.nextGrant = some e) : u.SlotSettles (s.grant e) v := by
  by_cases hv : v = e.slot
  · obtain ⟨-, hmem, hel⟩ := nextGrant_some s e hgrant
    obtain ⟨hfault, hsupply, htakes, -, -⟩ := eligible_spec s e hel
    rw [← hv] at htakes
    rcases h.outcome with hst | ⟨f, hf⟩
    · have hhead : (s.grant e).head v = (s.head v).granted e (s.valveCfg v).stroke := by
        subst hv; exact grant_head_same s e h1 (h.slots ▸ h2)
      have horder : (e.op, e.target) ∈ s.orders v := mem_orders.mpr ⟨e, hmem, hv.symm, rfl⟩
      rw [State.valveCfg, h.cfg, hst.head] at hhead
      refine ⟨by simpa using h.cfg, h.fault, by simpa using h.supply, ?_, .inr ⟨e, ?_⟩⟩
      · exact (length_setItem _ _ _).trans h.slots
      · exact {
          fault := h.fault.symm.trans hfault
          supply := h.supply.symm.trans hsupply
          takes := hst.head ▸ htakes
          head := hhead
          commanded := by subst hv; exact commanded_addCommand _ _ _
          home := fun hop => ⟨e.target, hst.home _ (hop ▸ horder)⟩
          waits := fun hw => (homeWaits_of_orders hw (hst.waits hw)).op_eq hmem hv.symm }
    · rw [hf.head] at htakes
      simp [Head.granted, headTakes_granted] at htakes
  · exact h.stand (grant_slotStands_other s e hv) (by simp) rfl (by simp) (length_setItem _ _ _)

theorem slotSettles_keeps (u : State) {v : Nat} (h1 : 1 ≤ v) (h2 : v ≤ u.heads.length) :
    SettlingKeeps fun t => u.SlotSettles t v where
  boiler _ _ _ h := h.stand (.of_same rfl (fun _ => Iff.rfl) rfl)
  relays _ _ _ _ _ h := h.stand (.of_same rfl (fun _ => Iff.rfl) rfl)
  raises _ _ _ _ h := h.stand (.of_same (by simp) (fun _ => Iff.rfl) rfl)
  table s h := h.stand (judgeTable_slotStands s v)
  sinks s b h := h.stand (setSinkOpen_slotStands s b v)
  marks s h := h.stand (.of_same (by simp) (fun _ => Iff.rfl) (remark_queued s v))
  grant _ _ h hgrant := grant_slotSettles h1 h2 h hgrant
  transaction s h := h.stand (.of_same (by simp) (nextTransaction_commanded s v) (queued_congr v (by simp)))
    (fault := nextTransaction_fault s)

/-- What settling makes of a slot. -/
theorem settle_slotSettles (u before : State) {v : Nat} (h1 : 1 ≤ v) (h2 : v ≤ u.heads.length) :
    u.SlotSettles (u.settle before) v := (slotSettles_keeps u h1 h2).settle before (.refl u v)

end Sys2Proof.Machine
end

section
/-! PROOF. What settling leaves of supply, link, heads and wanted targets (R88, R98, R101, R106; O31 to O36). -/

namespace Sys2Proof.Machine

/-! ## Supply and cursor -/

/-- The supply's record and the polling cursor stand from `u` to `t`. -/
def State.supplyKept (u t : State) : Prop :=
  t.field.supplyOk = u.field.supplyOk ∧ t.field.supplyQual = u.field.supplyQual ∧
    t.field.supplyLast = u.field.supplyLast ∧ t.link.cursor = u.link.cursor

theorem supplyKept_keeps (u : State) : SettlingKeeps u.supplyKept where
  boiler _ _ _ h := h
  relays _ _ _ _ _ h := h
  raises _ _ _ _ h := h
  table _ h := by simpa [State.supplyKept] using h
  sinks _ _ h := by simpa [State.supplyKept] using h
  marks _ h := h
  grant _ _ h _ := h
  transaction s h := by simpa [State.supplyKept, nextTransaction_cursor] using h

theorem settle_supplyKept (u before : State) : u.supplyKept (u.settle before) :=
  (supplyKept_keeps u).settle before ⟨rfl, rfl, rfl, rfl⟩

/-! ## No grant in FAULT, none with the supply LOW (R117) -/

theorem nextGrant_barred {s : State} (h : s.link.fault = true ∨ s.field.supplyOk = false) (e : Entry) :
    s.nextGrant ≠ some e := fun hgrant => by
  obtain ⟨-, -, hel⟩ := nextGrant_some s e hgrant
  obtain ⟨hfault, hsupply, -⟩ := eligible_spec s e hel
  rcases h with h | h <;> simp_all

/-- Where nothing can be granted the heads stand. -/
theorem settle_heads {u : State} (before : State) (h : u.link.fault = true ∨ u.field.supplyOk = false) :
    (u.settle before).heads = u.heads := by
  have keeps : SettlingKeeps fun t => t.heads = u.heads ∧ (t.link.fault = true ∨ t.field.supplyOk = false) :=
    { boiler := fun _ _ _ h => h
      relays := fun _ _ _ _ _ h => h
      raises := fun _ _ _ _ h => by simpa using h
      table := fun _ h => by simpa using h
      sinks := fun _ _ h => by simpa using h
      marks := fun _ h => by simpa using h
      grant := fun s e ⟨_, hbar⟩ hgrant => absurd hgrant (nextGrant_barred hbar e)
      transaction := fun s h => by simpa [nextTransaction_fault] using h }
  exact (keeps.settle before ⟨rfl, h⟩).1

/-- In FAULT the link stands too (R98). -/
theorem settle_link_fault {u : State} (before : State) (h : u.link.fault = true) : (u.settle before).link = u.link := by
  have keeps : SettlingKeeps fun t => t.link = u.link :=
    { boiler := fun _ _ _ h => h
      relays := fun _ _ _ _ _ h => h
      raises := fun _ _ _ _ h => h
      table := fun _ h => by simpa using h
      sinks := fun _ _ h => by simpa using h
      marks := fun _ h => h
      grant := fun s e hlink hgrant => absurd hgrant (nextGrant_barred (.inl (by rw [hlink, h])) e)
      transaction := fun s hlink => by
        have : s.nextTransaction = s := if_pos (.inl (by rw [hlink, h]))
        rw [this, hlink] }
  exact keeps.settle before rfl

/-! ## Entries and wanted targets of a slot -/

/-- An ABSENT head's slot keeps its entries (R110, R117). -/
theorem settle_absent {u : State} (before : State) {v : Nat} (h : (u.head v).state = .absent) :
    (u.settle before).queued v = u.queued v := by
  have keeps : SettlingKeeps fun t => (t.head v).state = .absent ∧ t.queued v = u.queued v :=
    { boiler := fun _ _ _ h => h
      relays := fun _ _ _ _ _ h => h
      raises := fun _ _ _ _ h => h
      table := fun s ⟨hs, hq⟩ => by
        refine ⟨by simpa [State.head] using hs, ?_⟩
        unfold State.judgeTable
        dsimp only
        split
        · exact hq
        · exact (formAll_absent (s := s.setTable (s.table.judged s.boiler.state.warm)) _ hs).trans hq
      sinks := fun s b ⟨hs, hq⟩ => by
        refine ⟨by simpa [State.head] using hs, ?_⟩
        unfold State.setSinkOpen
        split
        · exact hq
        · exact (formAll_absent (s := s.setArbiter { s.arbiter with sinkOpen := b }) _ hs).trans hq
      marks := fun s ⟨hs, hq⟩ => ⟨hs, (remark_queued s v).trans hq⟩
      grant := fun s e ⟨hs, hq⟩ hgrant => by
        by_cases hv : v = e.slot
        · obtain ⟨-, -, hel⟩ := nextGrant_some s e hgrant
          obtain ⟨-, -, htakes, -⟩ := eligible_spec s e hel
          rw [← hv, hs] at htakes
          cases hop : e.op <;> simp [hop, headTakes] at htakes
        · exact ⟨by rw [grant_head_other s e v hv]; exact hs, (queued_removeEntry_other s hv).trans hq⟩
      transaction := fun s ⟨hs, hq⟩ => ⟨by simpa [State.head] using hs, (queued_congr v (by simp)).trans hq⟩ }
  exact (keeps.settle before ⟨h, rfl⟩).2

/-- The controller and the consumer table form the targets of CYLINDER and SINK slots (R108, R109). -/
def Role.plant (r : Role) : Prop := r = .cylinder ∨ r = .sink

theorem formAll_plain {s : State} {vs : List Nat} {v : Nat} (hv : v ∉ vs) :
    (s.formAll vs).wantedOf v = s.wantedOf v ∧ (s.formAll vs).queued v = s.queued v :=
  ⟨formAll_wantedOf_other s hv, formAll_queued_other s hv⟩

theorem judgeTable_plain {s : State} {v : Nat} (h : ¬ (s.valveCfg v).role.plant) :
    s.judgeTable.wantedOf v = s.wantedOf v ∧ s.judgeTable.queued v = s.queued v := by
  have hv : v ∉ (s.setTable (s.table.judged s.boiler.state.warm)).cylinderSlots := fun hmem =>
    h (.inl (eq_of_beq (List.mem_filter.mp hmem).2))
  unfold State.judgeTable
  dsimp only
  split
  · exact ⟨rfl, rfl⟩
  · exact formAll_plain hv

theorem setSinkOpen_plain {s : State} (b : Bool) {v : Nat} (h : ¬ (s.valveCfg v).role.plant) :
    (s.setSinkOpen b).wantedOf v = s.wantedOf v ∧ (s.setSinkOpen b).queued v = s.queued v := by
  have hv : v ∉ (s.setArbiter { s.arbiter with sinkOpen := b }).sinkSlots := fun hmem =>
    h (.inr (eq_of_beq (List.mem_filter.mp hmem).2))
  unfold State.setSinkOpen
  split
  · exact ⟨rfl, rfl⟩
  · exact formAll_plain hv

/-- Another slot's target stands, and its entries, unless they are granted. -/
theorem settle_plain {u : State} (before : State) {v : Nat} (h : ¬ (u.valveCfg v).role.plant) :
    (u.settle before).wantedOf v = u.wantedOf v ∧
      ((u.settle before).queued v = u.queued v ∨ u.field.supplyOk = true ∧ (u.settle before).queued v = []) := by
  have keeps : SettlingKeeps fun t => t.cfg = u.cfg ∧ t.field.supplyOk = u.field.supplyOk ∧
      t.wantedOf v = u.wantedOf v ∧ (t.queued v = u.queued v ∨ u.field.supplyOk = true ∧ t.queued v = []) :=
    { boiler := fun _ _ _ h => h
      relays := fun _ _ _ _ _ h => h
      raises := fun _ _ _ _ h => h
      table := fun s ⟨hcfg, hsupply, hwanted, hq⟩ => by
        obtain ⟨hw, hqueued⟩ := judgeTable_plain (s := s) (v := v) (by rwa [State.valveCfg, hcfg])
        exact ⟨by simpa using hcfg, by simpa using hsupply, hw.trans hwanted, by rwa [hqueued]⟩
      sinks := fun s b ⟨hcfg, hsupply, hwanted, hq⟩ => by
        obtain ⟨hw, hqueued⟩ := setSinkOpen_plain (s := s) b (v := v) (by rwa [State.valveCfg, hcfg])
        exact ⟨by simpa using hcfg, by simpa using hsupply, hw.trans hwanted, by rwa [hqueued]⟩
      marks := fun s ⟨hcfg, hsupply, hwanted, hq⟩ => ⟨hcfg, hsupply, hwanted, by rwa [remark_queued]⟩
      grant := fun s e ⟨hcfg, hsupply, hwanted, hq⟩ hgrant => by
        refine ⟨by simpa using hcfg, by simpa using hsupply, hwanted, ?_⟩
        by_cases hv : v = e.slot
        · obtain ⟨-, -, hel⟩ := nextGrant_some s e hgrant
          obtain ⟨-, hok, -⟩ := eligible_spec s e hel
          exact .inr ⟨hsupply.symm.trans hok, by subst hv; exact queued_removeEntry_same s _⟩
        · rwa [show (s.grant e).queued v = s.queued v from queued_removeEntry_other s hv]
      transaction := fun s ⟨hcfg, hsupply, hwanted, hq⟩ =>
        ⟨by simpa using hcfg, by simpa using hsupply, by simpa [State.wantedOf] using hwanted,
          by rwa [queued_congr (s := s) v (by simp)]⟩ }
  exact (keeps.settle before ⟨rfl, rfl, rfl, .inl rfl⟩).2.2

/-! ## A head read after it is written -/

theorem head_setHead_same {s : State} {v : Nat} (h : Head) (h1 : 1 ≤ v) (h2 : v ≤ s.heads.length) :
    (s.setHead v h).head v = h := item_setItem_same _ _ _ _ h1 h2

theorem head_setHead_other (s : State) {v w : Nat} (h : Head) (hw : w ≠ v) : (s.setHead v h).head w = s.head w :=
  item_setItem_other _ _ _ _ _ hw

theorem head_congr {s t : State} (v : Nat) (h : t.heads = s.heads := by simp) : t.head v = s.head v := by
  rw [State.head, State.head, h]

end Sys2Proof.Machine
end

section
/-! PROOF. Misses, and replies that are not good (O32). -/

namespace Sys2Proof.Machine

/-! ## The end of an event, read by slot -/

theorem endEvent_slotSettles (u before : State) {v : Nat} (h1 : 1 ≤ v) (h2 : v ≤ u.heads.length) :
    u.SlotSettles (u.settle before).endEvent v :=
  (settle_slotSettles u before h1 h2).stand (.of_same (by simp) (fun _ => by simp [State.commanded]) (queued_congr v (by simp)))

/-- A head that takes no operation stands (R117). -/
theorem State.SlotSettles.stands {u t : State} {v : Nat} (h : u.SlotSettles t v)
    (hno : ∀ op, headTakes (u.head v).state op = false) : u.SlotStands t v := by
  rcases h.outcome with hst | ⟨e, he⟩
  · exact hst
  · have htakes := he.takes
    rw [hno] at htakes
    cases htakes

/-- What a slot's head keeps whether it is granted or stands. -/
theorem State.SlotSettles.reported {u t : State} {v : Nat} (h : u.SlotSettles t v) :
    t.head v = { u.head v with state := (t.head v).state, move := (t.head v).move, retryDue := (t.head v).retryDue } := by
  rcases h.outcome with hst | ⟨e, he⟩
  · rw [hst.head]
  · rw [he.head]; rfl

theorem settle_onlyRaises {s u : State} {cs : List Category} (before : State) (h : s.onlyRaises u cs)
    (hcs : [Category.boiler, .capacity, .sink] ⊆ cs) : s.onlyRaises (u.settle before).endEvent cs :=
  onlyRaises_trans h (onlyRaises_trans (onlyRaises_mono (settle_settlesTo u before).ports hcs) (onlyRaises_endEvent _ cs))

/-- What is raised before an event's end is raised at its end. -/
theorem endEvent_raised {u before : State} {p : Port} {c : Category} {o : ObjectSet} (h : u.raised p c o) :
    (u.settle before).endEvent.raised p c o :=
  raised_of_onlyRaises (settle_onlyRaises (cs := [.boiler, .capacity, .sink]) before (onlyRaises_refl u _) (List.Subset.refl _)) h

/-! ## A miss (R90) -/

section
variable {s : State} {v : Nat} {req : LinkRequest}

theorem exec_miss (ha : s.acting = none) (ht : s.link.transaction = some ⟨v, req⟩) :
    exec .miss s = .next ((s.missed ⟨v, req⟩).settle s).endEvent := by
  have hmiss : missEvent s = s.plantEvent (·.missed ⟨v, req⟩) := by rw [missEvent, ht]
  show Host.Outcome.next (missEvent s) = _
  rw [hmiss, plantEvent_free s _ ha]

theorem missed_absent (req : LinkRequest) (h : (s.head v).state = .absent) :
    s.missed ⟨v, req⟩ = s.setLink (s.link.unanswered ⟨v, req⟩) := if_pos h

theorem missed_counts (req : LinkRequest) (h : (s.head v).state ≠ .absent) (hm : (s.head v).misses < 2) :
    s.missed ⟨v, req⟩ = (s.setLink (s.link.unanswered ⟨v, req⟩)).setHead v { s.head v with misses := (s.head v).misses + 1 } := by
  refine (if_neg h).trans (if_pos ?_)
  show (s.head v).misses + 1 < 3
  omega

theorem missed_third (req : LinkRequest) (h : (s.head v).state ≠ .absent) (hm : 2 ≤ (s.head v).misses) :
    s.missed ⟨v, req⟩ = (s.setLink (s.link.unanswered ⟨v, req⟩)).becomeAbsent v := by
  refine (if_neg h).trans (if_neg ?_)
  show ¬ (s.head v).misses + 1 < 3
  omega

theorem missed_heads_length (t : Transaction) : (s.missed t).heads.length = s.heads.length := by
  unfold State.missed
  dsimp only
  repeat' split
  · rfl
  · exact length_setItem _ _ _
  · simp [State.becomeAbsent, length_setItem]

theorem missed_cursor : (s.missed ⟨v, req⟩).link.cursor = if req = .poll then v else s.link.cursor := by
  by_cases habsent : (s.head v).state = .absent
  · rw [missed_absent req habsent]; rfl
  by_cases hm : (s.head v).misses < 2
  · rw [missed_counts req habsent hm]; rfl
  · rw [missed_third req habsent (by omega)]
    simp [State.becomeAbsent, State.dropCommands, Link.unanswered, Link.ended]

theorem missed_onlyRaises (t : Transaction) : s.onlyRaises (s.missed t) [.absent, .boiler, .capacity, .sink] := by
  have link : s.onlyRaises (s.setLink (s.link.unanswered t)) [.absent, .boiler, .capacity, .sink] :=
    onlyRaises_of_ports _ rfl rfl
  unfold State.missed
  dsimp only
  repeat' split
  · exact link
  · exact onlyRaises_of_ports _ rfl rfl
  · exact onlyRaises_trans (onlyRaises_of_ports _ (by simp) (by simp)) (onlyRaises_raise _ .absent _ (by simp))

/-- The record of a slot whose head has gone: nothing waits for it (R90). -/
theorem becomeAbsent_slot (h1 : 1 ≤ v) (h2 : v ≤ s.heads.length) :
    (s.becomeAbsent v).head v = (s.head v).gone ∧ (s.becomeAbsent v).queued v = [] ∧
      ∀ r, ¬ (s.becomeAbsent v).commanded v r := by
  refine ⟨(head_congr (s := s.setHead v (s.head v).gone) v (by simp [State.becomeAbsent])).trans (head_setHead_same _ h1 h2), queued_removeEntry_same _ v, ?_⟩
  rintro r ⟨c, hc, hv, -⟩
  have hne : c.slot ≠ v := by simpa using (List.mem_filter.mp hc).2
  exact hne hv

theorem becomeAbsent_raised (hattn : ∀ p, (s.port p).attn.length = 16) (q : Port) :
    (s.becomeAbsent v).raised q .absent (object v) :=
  raised_raise q .absent (object v) (hattn q ▸ by cases q <;> rfl)

end

/-- Settles O32: the miss is `missed_absent`, `missed_counts` or `missed_third`; a head that is ABSENT takes no operation
(`SlotSettles.stands`) and is offered nothing (`settle_absent`). -/
theorem missesMakeTheHeadAbsent : Obligations.MissesMakeTheHeadAbsent := by
  refine ⟨fun v req s ha hshape h1 h32 htrans => ?_, fun _ _ _ _ => rfl, fun a pos running stall calibrated x s h => ?_⟩
  · have h2 : v ≤ (s.missed ⟨v, req⟩).heads.length := by rw [missed_heads_length, heads_length hshape]; exact h32
    have hslots : v ≤ s.heads.length := by rw [heads_length hshape]; exact h32
    have settles := endEvent_slotSettles (s.missed ⟨v, req⟩) s h1 h2
    have gone {u : State} (hu : (u.head v).state = .absent) : ∀ op, headTakes (u.head v).state op = false := by
      intro op; rw [hu]; cases op <;> rfl
    refine ⟨_, exec_miss ha htrans, state_ext,
      portsKept_of_onlyRaises (settle_onlyRaises s (missed_onlyRaises _) (by simp)), ?_, fun hne hm => ?_, fun hne hm => ?_,
      fun habsent => ?_⟩
    · obtain ⟨-, -, -, hcursor⟩ := settle_supplyKept (s.missed ⟨v, req⟩) s
      simpa using hcursor.trans missed_cursor
    · rw [settles.reported]
      simp only [missed_counts req hne hm, head_setHead_same (s := s.setLink (s.link.unanswered ⟨v, req⟩)) _ h1 hslots]
    · obtain ⟨hhead, hqueue, hcmds⟩ :=
        becomeAbsent_slot (s := s.setLink (s.link.unanswered ⟨v, req⟩)) h1 hslots
      rw [← missed_third req hne hm] at hhead hqueue hcmds
      have habsent : ((s.missed ⟨v, req⟩).head v).state = .absent := by rw [hhead]; rfl
      have stands := settles.stands (gone habsent)
      refine ⟨stands.head.trans hhead, fun e he hev => ?_, fun c hc hcv => ?_, fun q => endEvent_raised ?_⟩
      · have hnone := (settle_absent s habsent).trans hqueue
        exact absurd (mem_queued (s := (s.missed ⟨v, req⟩).settle s) (by simpa using he) hev) (by rw [hnone]; simp)
      · exact hcmds _ ((stands.commands c.request).mp ⟨c, hc, hcv, rfl⟩)
      · rw [missed_third req hne hm]
        exact becomeAbsent_raised (s := s.setLink _) (fun p => attn_length hshape p ▸ by cases p <;> rfl) q
    · have hhead : (s.missed ⟨v, req⟩).head v = s.head v := by rw [missed_absent req habsent]; rfl
      exact (settles.stands (gone (by rw [hhead, habsent]))).head.trans hhead
  · have hnot : s.goodTransaction ⟨a, pos, running, stall, calibrated, x⟩ = none := by
      unfold State.goodTransaction
      split
      · next t ht =>
        refine if_neg fun ⟨hslot, hpos⟩ => ?_
        rcases h with h | h
        · exact h t.request (by rw [ht]; exact congrArg (fun n => some (Transaction.mk n t.request)) hslot)
        · exact absurd hpos (by simpa using h)
      · rfl
    show Host.Outcome.next (goodReplyEvent ⟨a, pos, running, stall, calibrated, x⟩ s) = _
    rw [goodReplyEvent, hnot]

end Sys2Proof.Machine
end

section
/-! PROOF. Homing requests, move timeouts and stall retries (O33). -/

namespace Sys2Proof.Machine

/-! ## A homing request (R114) -/

theorem takeHoming_slot (e : Entry) : e.takeHoming.slot = e.slot := by unfold Entry.takeHoming; split <;> rfl

theorem takeHoming_unmarked (e : Entry) : e.takeHoming.unmarked = e.unmarked.takeHoming := by
  cases e with
  | mk slot op => cases op <;> rfl

theorem takeHoming_op (e : Entry) : e.takeHoming.op = .home := by unfold Entry.takeHoming; split <;> simp_all

theorem requestHoming_refused {s : State} {v : Nat}
    (h : s.used v = false ∨ (s.head v).state = .absent ∨ (s.head v).state = .homing) : s.requestHoming v = s :=
  if_pos (by simpa using h)

theorem requestHoming_accepted {s : State} {v : Nat} (hused : s.used v = true) (habsent : (s.head v).state ≠ .absent)
    (hhoming : (s.head v).state ≠ .homing) : s.requestHoming v =
      match s.entryOf v with
      | none => s.newEntry v .home 0 .homing
      | some _ => s.updateEntry v Entry.takeHoming := by
  refine (if_neg (by simp [hused, habsent, hhoming])).trans ?_
  cases s.entryOf v <;> rfl

section
variable {s : State} {v : Nat} (hused : s.used v = true) (habsent : (s.head v).state ≠ .absent)
  (hhoming : (s.head v).state ≠ .homing)
include hused habsent hhoming

theorem requestHoming_new (h : s.queued v = []) : s.requestHoming v = s.newEntry v .home 0 .homing := by
  rw [requestHoming_accepted hused habsent hhoming, (entryOf_none_iff s v).mpr h]

theorem requestHoming_joins (h : s.queued v ≠ []) : s.requestHoming v = s.updateEntry v Entry.takeHoming := by
  obtain ⟨e, he⟩ := Option.ne_none_iff_exists'.mp fun hnone => h ((entryOf_none_iff s v).mp hnone)
  rw [requestHoming_accepted hused habsent hhoming, he]

theorem queued_requestHoming : (s.requestHoming v).queued v =
    if s.queued v = [] then [⟨v, .home, 0, .homing, nextArrival s.arbiter.arrivals, false⟩]
    else (s.queued v).map Entry.takeHoming := by
  split
  · next h => rw [requestHoming_new hused habsent hhoming h, queued_newEntry_same, h]; rfl
  · next h =>
    rw [requestHoming_joins hused habsent hhoming h]
    exact queued_updateEntry_same s v takeHoming_slot takeHoming_unmarked

/-- An accepted request leaves HOME waiting. -/
theorem requestHoming_waits : (s.requestHoming v).homeWaits v := by
  rw [State.homeWaits, State.orders, queued_requestHoming hused habsent hhoming]
  split
  · simp
  · next h =>
    refine ⟨by simpa using h, fun o ho => ?_⟩
    obtain ⟨e, he, rfl⟩ := List.mem_map.mp ho
    obtain ⟨f, -, rfl⟩ := List.mem_map.mp he
    exact takeHoming_op f

end

/-! ## A move that times out (R95) -/

section
variable {s : State} {v : Nat}

theorem enterStalled_head (h1 : 1 ≤ v) (h2 : v ≤ s.heads.length) : (s.enterStalled v).head v = { s.head v with
    state := .stalled, move := none
    retryDue := if (s.head v).retries < 3 then some (s.clock.elapsed + 60) else none } :=
  (head_congr (s := s.setHead v _) v (by simp [State.enterStalled])).trans (head_setHead_same _ h1 h2)

@[simp] theorem enterStalled_heads_length : (s.enterStalled v).heads.length = s.heads.length := by
  simp [State.enterStalled, length_setItem]

theorem enterStalled_raised (hattn : ∀ p, (s.port p).attn.length = 16) (q : Port) :
    (s.enterStalled v).raised q .stall (object v) :=
  raised_raise q .stall (object v) (hattn q ▸ by cases q <;> rfl)

/-- A STALLED head takes a HOME alone (R117). -/
theorem State.SlotGranted.home_of_stalled {u t : State} {e : Entry} (h : u.SlotGranted t v e)
    (hstate : (u.head v).state = .stalled ∨ (u.head v).state = .unknown) : e.op = .home := by
  have htakes := h.takes
  cases hop : e.op with
  | home => rfl
  | drive => rcases hstate with hs | hs <;> simp [hs, hop, headTakes] at htakes

theorem State.SlotGranted.state {u t : State} {e : Entry} (h : u.SlotGranted t v e) :
    (t.head v).state = e.op.headState := by rw [h.head]; rfl

/-- The HOME that is granted waited in the queue. -/
theorem State.SlotGranted.waited {u t : State} {e : Entry} (h : u.SlotGranted t v e) (hop : e.op = .home) :
    ∃ f ∈ u.arbiter.queue, f.slot = v ∧ f.op = .home := by
  obtain ⟨n, hn⟩ := h.home hop
  obtain ⟨f, hf, hv, ho⟩ := mem_orders.mp hn
  exact ⟨f, hf, hv, congrArg Prod.fst ho⟩

theorem exec_moveTimeout (ha : s.acting = none) (h : s.moveTimedOut v = true) :
    exec (.moveTimeout v) s = .next ((s.timeOut v).settle s).endEvent := by
  show Host.Outcome.next (moveTimeoutEvent v s) = _
  rw [moveTimeoutEvent, if_pos h, plantEvent_free s _ ha]

theorem exec_stallRetry (ha : s.acting = none) (h : s.retryDueNow v = true) :
    exec (.stallRetry v) s = .next ((s.stallRetry v).settle s).endEvent := by
  show Host.Outcome.next (stallRetryEvent v s) = _
  rw [stallRetryEvent, if_pos h, plantEvent_free s _ ha]

theorem stallRetry_head (h1 : 1 ≤ v) (h2 : v ≤ s.heads.length) :
    (s.stallRetry v).head v = { s.head v with retries := (s.head v).retries + 1, retryDue := none } :=
  (head_congr (s := s.setHead v _) v (by simp [State.stallRetry])).trans (head_setHead_same _ h1 h2)

end

/-- Settles O33: a STALLED head stands, or is granted the HOME that waits for it (`SlotGranted.home_of_stalled`). -/
theorem stalledHeadsAreTimedOutAndRetried : Obligations.StalledHeadsAreTimedOutAndRetried := by
  refine ⟨fun v m s ha hshape h1 h32 hstate hmove hacc htimer => ?_, fun v s ha hshape h1 h32 hstate hdue hused => ?_⟩
  all_goals have hslots : v ≤ s.heads.length := by rw [heads_length hshape]; exact h32
  · have hout : s.moveTimedOut v = true := by
      rcases hstate with h | h <;> simp [State.moveTimedOut, Head.running, timerExpired, h, hmove, hacc, htimer]
    have hhead : (s.timeOut v).head v = (s.enterStalled v).head v := head_congr v (by simp [State.timeOut])
    rw [enterStalled_head h1 hslots] at hhead
    have settles := endEvent_slotSettles (s.timeOut v) s h1 (by simpa [State.timeOut] using hslots)
    refine ⟨_, exec_moveTimeout ha hout, state_ext, fun q => endEvent_raised ?_, ?_⟩
    · exact enterStalled_raised (attn_length hshape) q
    · rcases settles.outcome with stands | ⟨e, granted⟩
      · exact .inl ⟨stands.head.trans hhead, (stands.commands .stop).mpr (commanded_addCommand _ v .stop)⟩
      · have hop := granted.home_of_stalled (.inl (by rw [hhead]))
        have hqueue : (s.timeOut v).arbiter.queue = s.arbiter.queue := by simp [State.timeOut]
        exact .inr ⟨by rw [granted.state, hop]; rfl, hqueue ▸ granted.waited hop⟩
  · have hretry : s.retryDueNow v = true := by simp [State.retryDueNow, hstate, hdue]
    have hhead := stallRetry_head h1 hslots
    have settles := endEvent_slotSettles (s.stallRetry v) s h1 (by simpa [State.stallRetry, length_setItem] using hslots)
    have hwaits : (s.stallRetry v).homeWaits v :=
      requestHoming_waits (s := s.setHead v _) hused (by rw [head_setHead_same _ h1 hslots, hstate]; simp)
        (by rw [head_setHead_same _ h1 hslots, hstate]; simp)
    refine ⟨_, exec_stallRetry ha hretry, state_ext, ?_⟩
    rcases settles.outcome with stands | ⟨e, granted⟩
    · rw [stands.head, hhead]
      exact ⟨rfl, rfl, .inr ⟨hstate, (homeWaits_of_orders hwaits (stands.waits hwaits)).exists_home⟩⟩
    · rw [granted.state, granted.head, hhead, granted.waits hwaits]
      exact ⟨rfl, rfl, .inl rfl⟩

end Sys2Proof.Machine
end

section
/-! PROOF. Link fault and LINK-CLEAR (O34). -/

namespace Sys2Proof.Machine

/-! ## Object sets (R165) -/

theorem object_within_fold (v : Nat) (vs : List Nat) (w : ObjectSet) (h : object v &&& ~~~w = 0 ∨ v ∈ vs) :
    object v &&& ~~~(vs.foldl (fun w n => w ||| object n) w) = 0 := by
  induction vs generalizing w with
  | nil => simpa using h
  | cons n vs ih =>
    refine ih _ ?_
    rcases h with h | h
    · exact .inl (andNot_or _ _ _ h)
    · rcases List.mem_cons.mp h with rfl | h
      · exact .inl (by show object v &&& ~~~(w ||| object v) = 0; rw [BitVec.or_comm]; exact andNot_or _ _ _ (by simp))
      · exact .inr h

theorem object_within {v : Nat} {vs : List Nat} (h : v ∈ vs) : object v &&& ~~~(objectsOf vs) = 0 :=
  object_within_fold v vs 0 (.inr h)

theorem raised_raise_within {s : State} (p : Port) (c : Category) {o objects : ObjectSet} (h : (s.port p).attn.length = 16)
    (ho : o &&& ~~~objects = 0) : (s.raise c objects).raised p c o := by
  rw [raised_iff, raise_port]
  exact raise_raises _ _ _ _ _ _ h ho

/-! ## The running heads (R116) -/

theorem mem_runningSlots {s : State} {v : Nat} : v ∈ s.runningSlots ↔ (1 ≤ v ∧ v ≤ 32) ∧
    ((s.head v).state = .moving ∨ (s.head v).state = .homing) := by
  rw [State.runningSlots, List.mem_filter, slotNumbers, mem_numbers]
  simp [Head.running]

theorem runningSlots_nodup (s : State) : s.runningSlots.Nodup := (numbers_nodup 32).filter _

/-- The moves of these slots end, each once, whatever else is done beside it (R98, R102). -/
theorem foldl_endMove_head {f : State → Nat → State} (hf : ∀ u k, (f u k).heads = (u.endMove k .unknown).heads) {s : State}
    {vs : List Nat} (hvs : vs.Nodup) (hin : ∀ v ∈ vs, 1 ≤ v ∧ v ≤ 32) (hlen : s.heads.length = 32) (v : Nat) :
    (vs.foldl f s).head v = if v ∈ vs then { s.head v with state := .unknown, move := none } else s.head v := by
  have other (u : State) (k j : Nat) (h : j ≠ k) : (f u k).head j = u.head j :=
    (head_congr j (hf u k)).trans (head_setHead_other u _ h)
  split
  · next hv =>
    refine foldl_read (fun u => u.heads.length = 32) State.head f (fun _ h => { h with state := .unknown, move := none })
      vs hvs (fun u k _ hu => ?_) (fun u k hk hu => ?_) other s hlen v hv
    · rw [hf]; simpa [State.endMove, length_setItem] using hu
    · obtain ⟨h1, h32⟩ := hin k hk
      exact (head_congr k (hf u k)).trans (head_setHead_same _ h1 (hu ▸ h32))
  · next hv => exact foldl_read_other State.head f other vs v hv s

/-! ## The link in FAULT (R98, R99, R75) -/

theorem enterLinkFault_head {s : State} (hlen : s.heads.length = 32) {v : Nat} (h1 : 1 ≤ v) (h32 : v ≤ 32) :
    s.enterLinkFault.head v =
      if (s.head v).state = .moving ∨ (s.head v).state = .homing then { s.head v with state := .unknown, move := none }
      else s.head v := by
  have hends := foldl_endMove_head (f := fun u v => u.endMove v .unknown) (fun _ _ => rfl)
    (s := s.setLink { s.link with fault := true, transaction := none, commands := [] }) (runningSlots_nodup s) (fun v hv => (mem_runningSlots.mp hv).1) hlen v
  have hhead : s.enterLinkFault.head v =
      ((s.setLink { s.link with fault := true, transaction := none, commands := [] }).endMoves s.runningSlots).head v := rfl
  have hmem : v ∈ s.runningSlots ↔ (s.head v).state = .moving ∨ (s.head v).state = .homing := by
    rw [mem_runningSlots]; simp [h1, h32]
  rw [hhead, State.endMoves, hends]
  simp only [hmem]
  rfl

theorem enterLinkFault_link (s : State) :
    s.enterLinkFault.link = { s.link with fault := true, transaction := none, commands := [] } := by
  simp [State.enterLinkFault]

theorem rawSumWith_zero (s : State) : s.rawSumWith (fun _ => 0) = 0 := by
  unfold State.rawSumWith
  induction slotNumbers with
  | nil => rfl
  | cons v vs ih => simp

/-- In FAULT nothing is committed (R75). -/
theorem capacity_fault {s : State} (h : s.link.fault = true) : s.capacity = 0 := by
  have hraw : s.rawSum = 0 := by
    have hcommitted : s.committed = fun _ => 0 := by funext v; rw [State.committed, if_pos h]
    rw [State.rawSum, hcommitted]
    exact rawSumWith_zero s
  rw [State.capacity, hraw]; rfl

theorem exec_linkFault {s : State} (ha : s.acting = none) (h : s.link.fault = false) :
    exec .linkFault s = .next (s.enterLinkFault.settle s).endEvent := by
  show Host.Outcome.next (linkFaultEvent s) = _
  rw [linkFaultEvent, if_neg (by simp [h]), plantEvent_free s _ ha]

theorem exec_linkFault_again {s : State} (h : s.link.fault = true) : exec .linkFault s = .next s := by
  show Host.Outcome.next (linkFaultEvent s) = _
  rw [linkFaultEvent, if_pos h]

theorem enterLinkFault_raised {s : State} (hattn : ∀ p, (s.port p).attn.length = 16) {v : Nat} (hv : v ∈ s.runningSlots)
    (q : Port) : s.enterLinkFault.raised q .link (object v) :=
  raised_raise_within q .link (by have := hattn q; cases q <;> simpa [State.port] using this) (object_within hv)

/-! ## LINK-CLEAR (R100) -/

/-- Every head as LINK-CLEAR leaves it, with the link OK. -/
def State.linkCleared (s : State) : State :=
  { s.setLink { s.link with fault := false } with heads := s.heads.map Head.cleared }

theorem linkClearWork_fault {s : State} (h : s.link.fault = true) :
    linkClearWork s = (s.linkCleared.settle s, .done {} []) := if_neg (by simp [h])

theorem linkClearWork_ok {s : State} (h : s.link.fault = false) : linkClearWork s = (s, .refused .state) :=
  if_pos (by simp [h])

theorem linkCleared_head (s : State) (v : Nat) : s.linkCleared.head v = (s.head v).cleared :=
  item_map Head.cleared s.heads v .initial

/-- A slot across a request's work and the reply (R168). -/
theorem replied_slotSettles (u before : State) {v : Nat} (main service : PortState) (h1 : 1 ≤ v) (h2 : v ≤ u.heads.length) :
    u.SlotSettles { u.settle before with main, service } v :=
  (settle_slotSettles u before h1 h2).stand (.of_same rfl (fun _ => Iff.rfl) rfl) rfl rfl rfl rfl

/-- A slot cleared: UNKNOWN, or granted the HOME that waits for it (R118; log 37). -/
theorem linkCleared_settles {s t : State} {v : Nat} (h : s.linkCleared.SlotSettles t v) :
    t.head v = { s.head v with
        state := (t.head v).state, move := (t.head v).move, misses := 0, retries := 0, retryDue := none } ∧
      ((t.head v).state = .unknown ∧ (t.head v).move = none ∨
        (t.head v).state = .homing ∧ ∃ e ∈ s.arbiter.queue, e.slot = v ∧ e.op = .home) := by
  have hhead := linkCleared_head s v
  rcases h.outcome with stands | ⟨e, granted⟩
  · rw [stands.head, hhead]
    exact ⟨rfl, .inl ⟨rfl, rfl⟩⟩
  · have hop := granted.home_of_stalled (.inr (by rw [hhead]; rfl))
    refine ⟨by rw [granted.head, hhead]; rfl, .inr ⟨by rw [granted.state, hop]; rfl, granted.waited hop⟩⟩

theorem linkClear_clears {p : Port} {s : State} (h : s.takes p) (hshape : s.shaped) (hfault : s.link.fault = true) :
    ∃ t, exec (.linkClear p) s = .next t ∧ s.replied t p 0x23 (.done {} []) [.boiler, .capacity, .sink] ∧
      t = { s with table := t.table, heads := t.heads, link := t.link, arbiter := t.arbiter, boiler := t.boiler,
                   field := t.field, claim := s.keptAlive p, main := t.main, service := t.service } ∧
      t.link.fault = false ∧ t.link.cursor = s.link.cursor ∧
      ∀ v, 1 ≤ v → v ≤ 32 → (s.met p).linkCleared.SlotSettles t v := by
  have hwork : linkClearRequest.work (s.met p) = ((s.met p).linkCleared.settle (s.met p), .done {} []) :=
    linkClearWork_fault (by simpa using hfault)
  have hports : (s.met p).onlyRaises ((s.met p).linkCleared.settle (s.met p)) [.boiler, .capacity, .sink] :=
    onlyRaises_trans (t := (s.met p).linkCleared) (onlyRaises_of_ports _ rfl rfl) (settle_settlesTo _ _).ports
  obtain ⟨main, service, hend, hreplied, -⟩ := requestEvent_form h hwork hports rfl (by simp [linkClearRequest])
  have hslots : (s.met p).linkCleared.heads.length = 32 := by simpa [State.linkCleared] using heads_length hshape
  have hset := settle_settlesTo (s.met p).linkCleared (s.met p)
  obtain ⟨-, -, -, hcursor⟩ := settle_supplyKept (s.met p).linkCleared (s.met p)
  refine ⟨_, congrArg Host.Outcome.next hend, hreplied, ?_, hset.fault, ?_,
    fun v h1 h32 => replied_slotSettles _ _ main service h1 (hslots ▸ h32)⟩
  · exact state_ext (by simp [State.linkCleared]) (by simp [State.linkCleared]) (by simp [State.linkCleared])
      (by simp [State.linkCleared]) (by simp [State.linkCleared]) (by simp [State.linkCleared]) (by simp [State.linkCleared])
      (restartPending := by simp [State.linkCleared]) (acting := by simp [State.linkCleared])
      (pending := by simp [State.linkCleared])
  · exact hcursor.trans (by simp [State.linkCleared])

/-- Settles O34: in FAULT nothing is granted, so heads and link stand (`settle_heads`, `settle_link_fault`); a cleared head
takes a HOME alone (`linkCleared_settles`). -/
theorem linkFaultAndLinkClearEndEveryMove : Obligations.LinkFaultAndLinkClearEndEveryMove := by
  refine ⟨fun s => ⟨fun ha hshape hok => ?_, exec_linkFault_again⟩, fun p s h hshape => ⟨fun hfault => ?_, fun hok => ?_⟩⟩
  · have hfault : s.enterLinkFault.link.fault = true := by rw [enterLinkFault_link]
    have hlink := settle_link_fault s hfault
    have hheads := settle_heads s (.inl hfault)
    refine ⟨_, exec_linkFault ha hok, state_ext, ?_, fun v h1 h32 => ?_, fun v h1 h32 hstate q => endEvent_raised ?_, ?_⟩
    · rw [← enterLinkFault_link s, ← hlink]; simp
    · rw [← enterLinkFault_head (heads_length hshape) h1 h32]
      exact head_congr v (by simpa using hheads)
    · exact enterLinkFault_raised (attn_length hshape) (mem_runningSlots.mpr ⟨⟨h1, h32⟩, hstate⟩) q
    · exact capacity_fault (by simpa [hlink] using hfault)
  · obtain ⟨t, ht, hreplied, hframe, hcleared, hcursor, hslots⟩ := linkClear_clears h hshape hfault
    refine ⟨t, ht, hreplied, hframe, hcleared, hcursor, fun v h1 h32 => ?_⟩
    have hv := linkCleared_settles (hslots v h1 h32)
    have hhead : (s.met p).head v = s.head v := head_congr v
    have harbiter : (s.met p).arbiter = s.arbiter := by simp
    rwa [hhead, harbiter] at hv
  · exact ⟨_, rfl, requestEvent_refused p linkClearRequest s _ h rfl (by simp [linkClearRequest])
      (linkClearWork_ok (by simpa using hok))⟩

end Sys2Proof.Machine
end

section
/-! PROOF. Every command answers and leaves the waiting commands alone; an acting WARM reset holds them (O2). -/

namespace Sys2Proof.Machine

@[simp] theorem placeLayer_pending (s : State) (c : Nat) (l : Layer) : (s.placeLayer c l).pending = s.pending := by
  simp [State.placeLayer]

@[simp] theorem clearEdges_pending (s : State) (n : Nat) : (s.clearEdges n).pending = s.pending := by
  simp [State.clearEdges]

/-- No request's work touches the waiting commands. -/
theorem requestOf_pending {i : Sys2Proof.Instr} {p : Sys2Proof.Port} {r : Request} (hi : requestOf i = some (p, r)) (s : State) :
    (r.work s).1.pending = s.pending := by
  cases i <;> cases hi
  case clockSet => simp only [clockSetRequest, clockSetWork]; repeat' split
                   all_goals simp [refuse, done]
  case clockGet => rfl
  case channelSet => simp only [channelSetRequest, channelSetWork]; repeat' split
                     all_goals simp [refuse, done]
  case channelGet => simp only [channelGetRequest, channelGetWork]; repeat' split
                     all_goals simp [refuse, doneWith]
  case roomTemp => simp only [roomTempRequest, roomTempWork]; repeat' split
                   all_goals simp [refuse]
  case layerPush => simp only [layerPushRequest, layerPushWork]; repeat' split
                    all_goals simp [refuse, foldl_keeps _ State.pending fun _ _ => placeLayer_pending _ _ _]
  case layerPop => simp only [layerPopRequest, layerPopWork]; repeat' split
                   all_goals simp [refuse, doneWith]
  case layerClear => simp only [layerClearRequest, layerClearWork]; repeat' split
                     all_goals simp [refuse, done, foldl_keeps State.clearStack State.pending fun _ _ => rfl]
  case holdRelease => simp only [holdReleaseRequest, holdReleaseWork]; repeat' split
                      all_goals simp [refuse]
  case zonePark => simp only [zoneParkRequest, zoneParkWork]; repeat' split
                   all_goals simp [refuse, doneWith]
  case zoneUnpark => simp only [zoneUnparkRequest, zoneUnparkWork]; repeat' split
                     all_goals simp [refuse, done]
  case valveSet => simp only [valveSetRequest, valveSetWork]; repeat' split
                   all_goals simp [refuse, done]
  case valveGet => simp only [valveGetRequest, valveGetWork]; repeat' split
                   all_goals simp [refuse, doneWith]
  case valveHome => simp only [valveHomeRequest, valveHomeWork]; repeat' split
                    all_goals simp [refuse, done]
  case linkClear => simp only [linkClearRequest, linkClearWork]; repeat' split
                    all_goals simp [refuse, done]
  case boilerSet => simp only [boilerSetRequest, boilerSetWork]; repeat' split
                    all_goals simp [refuse, done]
  case boilerGet => rfl
  case inputSet => simp only [inputSetRequest, inputSetWork]; repeat' split
                   all_goals simp [refuse, done]
  case inputGet => simp only [inputGetRequest, inputGetWork]; repeat' split
                   all_goals simp [refuse, doneWith, foldl_keeps State.clearEdges State.pending fun _ _ => clearEdges_pending _ _]
  case attnGet => simp [attnGetRequest, attnGetWork, doneWith]
  case attnMask => simp only [attnMaskRequest, attnMaskWork]; repeat' split
                   all_goals simp [refuse, done]
  case editClaim => simp only [editClaimRequest, editClaimWork]; repeat' split
                    all_goals simp [refuse, done]
  case editCommit => simp only [editCommitRequest, editCommitWork]; repeat' split
                     all_goals simp [refuse, done]
  case editDrop => simp only [editDropRequest, editDropWork]; repeat' split
                   all_goals simp [refuse, done]
  case tableRead => simp only [tableReadRequest, tableReadWork, readPart]; repeat' split
                    all_goals simp [refuse]
  case tableWrite => simp only [tableWriteRequest, tableWriteWork]; repeat' split
                     all_goals simp [refuse, done]
  case storeSave => simp [storeSaveRequest, storeSaveWork, done]
  case storeErase => simp [storeEraseRequest, storeEraseWork, done]
  case restart => rfl
  case ident => rfl

/-! ## The events -/

theorem ite_pending {c : Prop} [Decidable c] {s t : State} (h : t.pending = s.pending) :
    (if c then t else s).pending = s.pending := by split <;> simp [h]

theorem event_pending {s : State} (f : State → State) (h : (f s).pending = s.pending := by simp) :
    (s.event f).pending = s.pending := by
  unfold State.event; split
  · rfl
  · simp [h]

theorem plantEvent_pending {s : State} (f : State → State) (h : (f s).pending = s.pending := by simp) :
    (s.plantEvent f).pending = s.pending := by
  unfold State.plantEvent; split
  · rfl
  · simp [h]

theorem bootFrom_pending (s : State) (cold : Bool) : (s.bootFrom cold).pending = s.pending := by
  have raises (u : State) : (u.resetRaises cold).pending = u.pending := by
    simp only [State.resetRaises]; repeat' split
    all_goals simp
  simp [State.bootFrom, State.startBlocks, raises, State.loadedFrom]

theorem nextStop_pending (s : State) (vs : List Nat) : (s.nextStop vs).pending = s.pending := by
  cases vs <;> rfl

theorem warmStart_pending (s : State) : s.warmStart.pending = s.pending := by
  simp [State.warmStart, nextStop_pending]

theorem secondTickEvent_pending (s : State) : (secondTickEvent s).pending = s.pending := by
  unfold secondTickEvent; split
  · simp
  · calc (wallMinuteEvent (elapsedMinuteEvent s)).pending
        = (elapsedMinuteEvent s).pending := ite_pending (event_pending _)
      _ = s.pending := ite_pending (event_pending _)

theorem complete_pending {s : State} (p : Port) (kind : Byte) (f : Form)
    (hf : ∀ r, f = .fits r → ∃ i, requestOf i = some (p, r)) : (s.complete p kind f).pending = s.pending := by
  have serve (u : State) : (f.serve u).1.pending = u.pending := by
    cases f with
    | unknown => rfl
    | malformed => rfl
    | fits r =>
      obtain ⟨i, hi⟩ := hf r rfl
      simp only [Form.serve]; repeat' split
      all_goals first | rfl | exact requestOf_pending hi u
  rw [complete_met]
  simp only [State.meet]; repeat' split
  all_goals simp [serve]

theorem takeByteAt_pending (s : State) (p : Port) (b : Byte) : (s.takeByteAt p b).pending = s.pending := by
  have whole (bytes : List Byte) : (s.completeFrame p bytes).pending = s.pending := by
    cases bytes with
    | nil => simp [State.completeFrame]
    | cons kind payload => exact complete_pending p kind _ fun r hr => formOf_requestOf hr
  unfold State.takeByteAt; repeat' split
  all_goals simp [whole]

/-- A request answers, and its event leaves the waiting commands alone. -/
theorem request_pending {i : Sys2Proof.Instr} {p : Sys2Proof.Port} {r : Request} (hi : requestOf i = some (p, r))
    (s : State) : (requestEvent p r s).pending = s.pending :=
  event_pending _ (complete_pending p _ _ (by rintro _ ⟨⟩; exact ⟨i, hi⟩))

theorem exec_pending (c : Sys2Proof.Instr) (s : State) : ∃ t, exec c s = .next t ∧ t.pending = s.pending := by
  by_cases hc : (requestOf c).isSome
  · obtain ⟨pr, hpr⟩ := Option.isSome_iff_exists.mp hc
    exact ⟨_, exec_requestOf hpr s, request_pending hpr s⟩
  · cases c <;> first | exact (hc rfl).elim | refine ⟨_, rfl, ?_⟩
    case coldReset => exact bootFrom_pending s true
    case warmResetComplete => exact ite_pending (bootFrom_pending s false)
    case wallMinute => exact ite_pending (event_pending _)
    case elapsedMinute => exact ite_pending (event_pending _)
    case secondTick => exact secondTickEvent_pending s
    case layerExpiry => exact event_pending _
    case watchEnd => exact ite_pending (event_pending _)
    case discardedReply => rfl
    case stallRetry => exact ite_pending (plantEvent_pending _)
    case minOnElapsed => exact ite_pending (plantEvent_pending _)
    case minOffElapsed => exact ite_pending (plantEvent_pending _)
    case regulationPass => exact ite_pending (plantEvent_pending _)
    case goodReply =>
      simp only [goodReplyEvent]; split
      · rfl
      · exact plantEvent_pending _
    case miss =>
      simp only [missEvent]; split
      · rfl
      · exact plantEvent_pending _
    case moveTimeout => exact ite_pending (plantEvent_pending _)
    case linkFault =>
      unfold linkFaultEvent; split
      · rfl
      · exact plantEvent_pending _
    case supplyMeasurement => exact plantEvent_pending _
    case supplyQualified => exact ite_pending (plantEvent_pending _)
    case sensorSample => exact ite_pending (plantEvent_pending _)
    case inputChange => exact ite_pending (plantEvent_pending _)
    case inputEstablished => exact ite_pending (plantEvent_pending _)
    case inputSample =>
      unfold inputSampleEvent; repeat' split
      · rfl
      · exact event_pending _
      · exact plantEvent_pending _
    case leadExpiry => exact ite_pending (plantEvent_pending _)
    case overrunExpiry => exact ite_pending (plantEvent_pending _)
    case pumpTimerExpiry => exact ite_pending (plantEvent_pending _ rfl)
    case rampStep => exact ite_pending (event_pending _)
    case storeWriteEnd =>
      unfold storeWriteEndEvent; split
      · rfl
      · exact event_pending _ (by simp [State.writeEnds])
    case editClaimLapse =>
      unfold editClaimLapseEvent; split
      · exact ite_pending (event_pending _ (by simp [State.lapse]))
      · rfl
    case frameGap p =>
      unfold frameGapEvent; split
      · rfl
      · exact event_pending _
    case frameDiscard p _ => exact ite_pending (event_pending _)
    case frameSent p =>
      unfold frameSentEvent; repeat' split
      · rfl
      · exact warmStart_pending s
      · exact event_pending _
    case unknownKind p kind =>
      unfold unknownKindEvent; split
      · rfl
      · exact event_pending _ (complete_pending p kind _ (by simp))
    case byteArrival p b => exact event_pending _ (takeByteAt_pending s p b)
    case warmResetStopEnd =>
      unfold warmResetStopEndEvent; split
      · rfl
      · exact ite_pending (nextStop_pending s _)

/-! ## While a WARM reset acts -/

theorem ite_acting {c : Prop} [Decidable c] {s t : State} (h : t = s) : (if c then t else s) = s := by simp [h]

/-- While a WARM reset acts only its own events, a COLD reset and the second tick change anything. -/
theorem exec_acting (c : Sys2Proof.Instr) (s : State) (h : s.acting ≠ none) (hcold : c ≠ .coldReset)
    (hdone : c ≠ .warmResetComplete) (hstop : c ≠ .warmResetStopEnd) (htick : c ≠ .secondTick) : exec c s = .next s := by
  have held (f : State → State) : s.event f = s := event_acting s f h
  have plant (f : State → State) : s.plantEvent f = s := plantEvent_acting s f h
  by_cases hc : (requestOf c).isSome
  · obtain ⟨pr, hpr⟩ := Option.isSome_iff_exists.mp hc
    rw [exec_requestOf hpr s, requestEvent, held]
  · cases c <;> first | exact (hc rfl).elim | refine congrArg Host.Outcome.next (?_ : _ = s)
    case coldReset => exact absurd rfl hcold
    case warmResetComplete => exact absurd rfl hdone
    case warmResetStopEnd => exact absurd rfl hstop
    case secondTick => exact absurd rfl htick
    case wallMinute => exact ite_acting (held _)
    case elapsedMinute => exact ite_acting (held _)
    case layerExpiry => exact held _
    case watchEnd => exact ite_acting (held _)
    case discardedReply => rfl
    case stallRetry => exact ite_acting (plant _)
    case minOnElapsed => exact ite_acting (plant _)
    case minOffElapsed => exact ite_acting (plant _)
    case regulationPass => exact ite_acting (plant _)
    case goodReply => simp only [goodReplyEvent, plant]; split <;> rfl
    case miss => simp only [missEvent, plant]; split <;> rfl
    case moveTimeout => exact ite_acting (plant _)
    case linkFault => simp [linkFaultEvent, plant]
    case supplyMeasurement => exact plant _
    case supplyQualified => exact ite_acting (plant _)
    case sensorSample => exact ite_acting (plant _)
    case inputChange => exact ite_acting (plant _)
    case inputEstablished => exact ite_acting (plant _)
    case inputSample => simp [inputSampleEvent, held, plant]
    case leadExpiry => exact ite_acting (plant _)
    case overrunExpiry => exact ite_acting (plant _)
    case pumpTimerExpiry => exact ite_acting (plant _)
    case rampStep => exact ite_acting (held _)
    case storeWriteEnd => simp only [storeWriteEndEvent, held]; split <;> rfl
    case editClaimLapse => simp only [editClaimLapseEvent, held, ite_self]; split <;> rfl
    case frameGap => simp [frameGapEvent, held]
    case frameDiscard => exact ite_acting (held _)
    case frameSent p => simp only [frameSentEvent, held, Option.isNone_iff_eq_none, h, false_and, if_false]; split <;> rfl
    case unknownKind => simp [unknownKindEvent, held]
    case byteArrival => exact held _

/-- Settles O2: the commands by `exec_pending` and `exec_acting`, requests through the row each is served by. -/
theorem commandsAnswerAndAnActingResetHoldsThem : Obligations.CommandsAnswerAndAnActingResetHoldsThem :=
  ⟨exec_pending, exec_acting⟩

end Sys2Proof.Machine
end

section
/-! PROOF. What a reset leaves, whichever it is, and the completion of a WARM reset (O4). -/

namespace Sys2Proof.Machine

/-! ## The blocks of the plant as a reset leaves them -/

/-- The plant's blocks hold what a reset gives them; the wanted targets and the flow setpoint are not spoken of. -/
structure State.Blank (u : State) : Prop where
  elapsed : u.clock.elapsed = 0
  zones : u.zones = List.replicate 16 .initial
  table : u.table = { entries := List.replicate 17 .initial, servedLevel := 0 }
  heads : u.heads = List.replicate 32 .initial
  link : u.link = State.reset.link
  queue : u.arbiter.queue = []
  arrivals : u.arbiter.arrivals = 0
  sinkOpen : u.arbiter.sinkOpen = false
  field : u.field = .initial

theorem item_replicate {α : Type} (n v : Nat) (d : α) : item (List.replicate n d) v d = d := by
  by_cases h : 1 ≤ v ∧ v ≤ n
  · exact List.eq_of_mem_replicate (item_mem _ v d h.1 (by simpa using h.2))
  · exact item_outside _ v d (by simp; omega)

/-- The pump relay stays off where no reason calls for it (R144). -/
theorem setPump_dry {s : State} (hdry : s.pumpCalled = false) (hoff : s.field.pump = false) : s.setPump = s := by
  rw [State.setPump, hdry, ← hoff]; rfl

namespace State.Blank

variable {u : State} (h : u.Blank)
include h

theorem head (v : Nat) : u.head v = .initial := by rw [State.head, h.heads]; exact item_replicate 32 v _

theorem zone (k : Nat) : u.zone k = .initial := by rw [State.zone, h.zones]; exact item_replicate 16 k _

theorem consumer (c : Nat) : u.consumer c = .initial := by rw [State.consumer, h.table]; exact item_replicate 17 c _

theorem entryOf (v : Nat) : u.entryOf v = none := by rw [State.entryOf, h.queue]; rfl

theorem anyRequest : u.anyRequest = false := by rw [State.anyRequest, h.table]; decide

theorem servedSet : u.servedSet = [] := by simp [State.servedSet, h.consumer, Consumer.served, Consumer.initial]

/-- No input is active before its first sample (R156, R160). -/
theorem faultInput : u.faultInput = false := by
  have level (n : Nat) : (u.inputRec n).level = none := by
    rw [State.inputRec, h.field]
    exact congrArg InputRec.level (item_replicate 4 n InputRec.initial)
  have inactive (n : Nat) : u.inputActive n = false := by
    rw [State.inputActive, level]; cases (u.inputCfg n).sensitivity <;> rfl
  simp [State.faultInput, State.activeInputs, inactive]

theorem judgeTable (hcold : u.boiler.state.warm = false) : u.judgeTable = u := by
  have judged : u.table.judged false = u.table := by rw [h.table]; decide
  have held : u.setTable (u.table.judged u.boiler.state.warm) = u := by rw [hcold, judged]; rfl
  simp [State.judgeTable, held]

theorem remark : u.remark = u := by
  simp [State.remark, h.queue, State.setQueue, State.setArbiter]
  rw [← h.queue]

theorem grantRound : u.grantRound = u := grantRound_unsupplied (by rw [h.field]; rfl)

theorem setBoiler (b : Boiler) : (u.setBoiler b).Blank := ⟨h.elapsed, h.zones, h.table, h.heads, h.link, h.queue, h.arrivals, h.sinkOpen, h.field⟩

/-- The boiler enters IDLE, and nothing follows (R139). -/
theorem enterIdle (hdump : u.boiler.heatDump = false) : u.enterIdle = u.setBoiler { u.boiler.cleared with state := .idle } := by
  have closed : u.closeSinks = u := by simp [State.closeSinks, State.setSinkOpen, hdump, h.sinkOpen]
  have entered := h.setBoiler { u.boiler.cleared with state := .idle }
  simp only [State.enterIdle, closed, State.enterState]
  rw [entered.judgeTable rfl, entered.remark, entered.grantRound]

/-- The first POLL: that of the first slot in use (R88). -/
theorem nextTransaction : u.nextTransaction =
    u.setLink { u.link with transaction := (slotNumbers.find? u.used).map (⟨·, .poll⟩) } := by
  have round : u.nextPoll = slotNumbers.find? u.used := by
    have slots : (List.range 32).map (fun i => (u.link.cursor + i) % 32 + 1) = slotNumbers := by rw [h.link]; decide
    have inRound : u.inRound = u.used := by funext v; simp [State.inRound, h.head v, Head.initial, Head.running]
    rw [State.nextPoll, slots, inRound]
  have idle : u.link.transaction = none := by rw [h.link]; rfl
  have calm : ¬ (u.link.fault ∨ u.link.transaction.isSome) := by rw [h.link]; decide
  have none_listed : u.link.commands = [] := by rw [h.link]; rfl
  rw [State.nextTransaction, if_neg calm, none_listed]
  dsimp only
  rw [round]
  cases slotNumbers.find? u.used with
  | some v => simp [none_listed]
  | none => exact (congrArg u.setLink (show _ = u.link by rw [Option.map_none, ← idle])).symm

/-- What ends the start of the blocks, once the boiler stays (log 4). -/
theorem settled (hdump : u.boiler.heatDump = false) (hstate : u.boiler.state = .rest ∨ u.boiler.state = .idle) :
    u.remark.grantRound.nextTransaction.setPump =
      u.setLink { u.link with transaction := (slotNumbers.find? u.used).map (⟨·, .poll⟩) } := by
  rw [h.remark, h.grantRound, h.nextTransaction]
  have dry : u.pumpCalled = false := by
    have frost : u.frostRun = false := by rw [State.frostRun, h.field]; rfl
    rcases hstate with hs | hs <;> simp [State.pumpCalled, State.pumpReasons, hs, hdump, frost]
  exact setPump_dry dry (by rw [State.setLink, h.field]; rfl)

end State.Blank

/-! ## The start of the blocks -/

/-- The plant settles after a reset: with min-off 0 the boiler stands in IDLE, else it stays in REST, and the first POLL
begins (R139, R88, log 22). -/
theorem State.Blank.started {u : State} (h : u.Blank) (before : Nat → Nat) (hrest : u.boiler.state = .rest)
    (hmark : u.boiler.restMark = 0) (hdump : u.boiler.heatDump = false) (hcleared : u.boiler.cleared = u.boiler) :
    u.settleWith before .judge =
      (u.setBoiler { u.boiler with state := if u.cfg.boiler.minOff = 0 then .idle else .rest }).setLink
        { u.link with transaction := (slotNumbers.find? u.used).map (⟨·, .poll⟩) } := by
  have elapsed : u.minOffElapsed = decide (u.cfg.boiler.minOff = 0) := by
    rw [State.minOffElapsed, hmark, h.elapsed]; simp [minutesSince]
  have first : u.boilerMove before .judge = if u.cfg.boiler.minOff = 0 then some u.enterIdle else none := by
    simp [State.boilerMove, hrest, h.faultInput, elapsed]
  rw [State.settleWith, boilerFuel, boilerMoves, first]
  by_cases hoff : u.cfg.boiler.minOff = 0
  · have idle := h.setBoiler { u.boiler with state := .idle }
    have next : (u.setBoiler { u.boiler with state := .idle }).boilerMove before .judge = none := by
      have hfault := idle.faultInput
      have hrequest := idle.anyRequest
      rw [State.boilerMove, hfault, show (u.setBoiler { u.boiler with state := .idle }).boiler.state = .idle from rfl]
      simp [hrequest]
    rw [if_pos hoff, if_pos hoff, h.enterIdle hdump, hcleared]
    dsimp only
    rw [boilerMoves, next]
    exact idle.settled hdump (.inr rfl)
  · rw [if_neg hoff, if_neg hoff, ← hrest]
    exact h.settled hdump (.inl hrest)

/-- On blank blocks a wanted target is formed, and nothing offered to the queue (R106, R110). -/
theorem State.Blank.formAndOffer {u : State} (h : u.Blank) (v : Nat) : u.formAndOffer v = u.setWanted v (u.formTarget v) := by
  have unplaced : ((u.setWanted v (u.formTarget v)).head v).state = .unknown := congrArg Head.state (h.head v)
  have empty : (u.setWanted v (u.formTarget v)).entryOf v = none := h.entryOf v
  rw [State.formAndOffer]
  cases hw : (u.setWanted v (u.formTarget v)).wantedOf v with
  | none => rw [State.offer, hw]
  | some w => rw [offer_unplaced hw (.inl unplaced), empty]; rfl

theorem State.Blank.setWanted {u : State} (h : u.Blank) (v : Nat) (w : Option Wanted) : (u.setWanted v w).Blank :=
  ⟨h.elapsed, h.zones, h.table, h.heads, h.link, h.queue, h.arrivals, h.sinkOpen, h.field⟩

/-- On blank blocks every slot in use is wanted at 0, of class NORMAL (R107, R108, R109). -/
theorem State.Blank.formTarget {u : State} (h : u.Blank) (hdump : u.boiler.heatDump = false) (v : Nat) :
    u.formTarget v = if u.used v then some ⟨0, .normal⟩ else none := by
  rw [State.formTarget, State.used]
  cases (u.valveCfg v).role with
  | unused => simp
  | zone k dump => simp [hdump, h.zone k, ZoneRun.initial, regulatedTarget]
  | cylinder => simp [h.consumer, Consumer.initial]
  | sink => simp [h.sinkOpen]

theorem State.Blank.formAll {u : State} (h : u.Blank) (hdump : u.boiler.heatDump = false)
    (hlength : u.arbiter.wanted.length = 32) : (u.formAll slotNumbers).Blank ∧
      ∀ v, 1 ≤ v → v ≤ 32 → (u.formAll slotNumbers).wantedOf v = if u.used v then some ⟨0, .normal⟩ else none := by
  let P : State → Prop := fun w => w.Blank ∧ w.cfg = u.cfg ∧ w.boiler = u.boiler ∧ w.arbiter.wanted.length = 32
  have hP : ∀ w v, v ∈ slotNumbers → P w → P (w.formAndOffer v) := fun w v _ ⟨hw, hcfg, hboiler, hl⟩ =>
    ⟨by rw [hw.formAndOffer]; exact hw.setWanted v _, by simpa using hcfg, by simpa using hboiler,
      (formAndOffer_wanted_length w v).trans hl⟩
  have hu : P u := ⟨h, rfl, rfl, hlength⟩
  refine ⟨(foldl_induct P State.formAndOffer slotNumbers (fun w v hv => hP w v hv) u hu).1, fun v h1 h2 => ?_⟩
  refine foldl_read P State.wantedOf State.formAndOffer (fun v _ => if u.used v then some ⟨0, .normal⟩ else none)
    slotNumbers (numbers_nodup 32) hP ?_ (fun w v j hj => formAndOffer_wantedOf_other w v j hj) u hu v
    ((mem_numbers 32 v).mpr ⟨h1, h2⟩)
  intro w v hv ⟨hw, hcfg, hboiler, hl⟩
  obtain ⟨h1, h2⟩ := (mem_numbers 32 v).mp hv
  have hused : w.used v = u.used v := by simp [State.used, State.valveCfg, hcfg]
  rw [hw.formAndOffer, hw.formTarget (by rw [hboiler]; exact hdump), hused]
  exact item_setItem_same _ _ _ _ h1 (by omega)

/-! ## The ports -/

/-- A port on which nothing is being sent, with the one notice its attention set owes and no other frame (R178). -/
def PortState.owes (ps : PortState) : Prop :=
  ps.tx = { sending := none, queue := if someNotifying ps.attn then [.notice none] else [] }

theorem someNotifying_set {attn : List (Option Attention)} {n : Nat} (hn : n < attn.length) (o : ObjectSet) (k : Byte)
    (unmasked : Bool) : someNotifying (attn.set n (some (joinAttention (attn.getD n none) o k unmasked))) =
      (unmasked || someNotifying attn) := by
  have split := List.set_eq_take_append_cons_drop (l := attn) (i := n)
    (a := some (joinAttention (attn.getD n none) o k unmasked))
  have whole : attn = attn.take n ++ attn.getD n none :: attn.drop (n + 1) := by
    simp [List.getD, hn]
  have joined : (joinAttention (attn.getD n none) o k unmasked).notifying =
      (unmasked || (attn.getD n none).any (·.notifying)) := by
    cases attn.getD n none <;> simp [joinAttention, Bool.or_comm]
  rw [split, if_pos hn]
  conv_rhs => rw [whole]
  simp only [someNotifying, List.any_append, List.any_cons, Option.any_some, joined]
  ac_rfl

theorem raise_owes {ps : PortState} (h : ps.owes) (hl : ps.attn.length = 16) (m : Mask) (c : Category) (o : ObjectSet)
    (k : Byte) : (ps.raise m c o k).owes := by
  have joined := someNotifying_set (n := c.number) (hl ▸ number_lt c) o k (!raiseMasked m o)
  rw [PortState.owes, raise_attn, joined]
  unfold PortState.owes at h
  unfold PortState.raise
  dsimp only
  cases hu : raiseMasked m o <;> cases hs : someNotifying ps.attn <;> simp [h, hs]

theorem startNext_owes {ps : PortState} (h : ps.owes) : ps.startNext.tx =
    { sending := if someNotifying ps.attn then some (.notice (some (notifyingWord ps.attn))) else none, queue := [] } := by
  unfold PortState.owes at h
  cases hs : someNotifying ps.attn <;> simp [PortState.startNext, h, hs, firstByteOut]

/-- A port with an idle receiver, no cursor, the notice it owes, and this attention set. -/
structure PortState.Fresh (ps : PortState) (attn : Nat → Option Attention) : Prop where
  rx : ps.rx = .idle
  cursor : ps.cursor = none
  length : ps.attn.length = 16
  owes : ps.owes
  attn : ∀ n, ps.attn.getD n none = attn n

theorem PortState.Fresh.raise {ps : PortState} {attn : Nat → Option Attention} (h : ps.Fresh attn) (m : Mask) (c : Category)
    (k : Byte) (hnew : attn c.number = none) :
    (ps.raise m c 0 k).Fresh fun n => if n = c.number then some ⟨0, k, !m.whole⟩ else attn n where
  rx := by simp [h.rx]
  cursor := by simp [h.cursor]
  length := by simp [h.length]
  owes := raise_owes h.owes h.length m c 0 k
  attn n := by
    by_cases hn : n = c.number
    · rw [if_pos hn, hn, raise_attn_same ps m c 0 k h.length, h.attn, hnew]
      simp [joinAttention, raiseMasked]
    · rw [if_neg hn, raise_attn_other ps m c 0 k n hn, h.attn]

theorem freshPort : PortState.fresh.Fresh fun _ => none where
  rx := rfl
  cursor := rfl
  length := rfl
  owes := rfl
  attn n := by
    rw [PortState.fresh, List.getD, List.getElem?_replicate]; split <;> rfl

/-- What stands in a port's attention set after a reset (R179, R192). -/
def restartAttention (cold valid : Bool) (masks : List Mask) (n : Nat) : Option Attention :=
  if n = 1 ∨ (n = 0 ∧ cold = true) ∨ (n = 14 ∧ valid = false) then
    some ⟨0, if n = 14 then 2 else 0, !(masks.getD n ⟨false, 0⟩).whole⟩
  else none

theorem resetRaises_port (s : State) (cold : Bool) (p : Port) :
    (((s.loadedFrom cold).resetRaises cold).port p).Fresh
      (restartAttention cold (s.loadedFrom cold).store.imageValid ((s.loadedFrom cold).masks p)) := by
  generalize hu : s.loadedFrom cold = u
  have fresh : (u.port p).Fresh fun _ => none := by rw [← hu]; cases p <;> exact freshPort
  have masked (w : State) (c : Category) : (w.raise c 0).masks p = w.masks p := by cases p <;> simp [State.masks]
  have restart := fresh.raise ((u.masks p).getD 1 ⟨false, 0⟩) .restart 0 rfl
  have clock := restart.raise ((u.masks p).getD 0 ⟨false, 0⟩) .clock 0 rfl
  have store {ps : PortState} {attn} (h : ps.Fresh attn) := h.raise ((u.masks p).getD 14 ⟨false, 0⟩) .store storeDefaults
  have recast {ps : PortState} {f g : Nat → Option Attention} (h : ps.Fresh f) (heq : ∀ n, f n = g n) : ps.Fresh g :=
    ⟨h.rx, h.cursor, h.length, h.owes, fun n => (h.attn n).trans (heq n)⟩
  have numbered : Category.clock.number = 0 ∧ Category.restart.number = 1 ∧ Category.store.number = 14 := ⟨rfl, rfl, rfl⟩
  obtain ⟨h0, h1, h14⟩ := numbered
  rw [State.resetRaises]
  cases cold <;> cases hvalid : u.store.imageValid <;> simp only [raise_keeps, hvalid, raise_port, raiseStore_port, masked, if_true, if_false, Bool.false_eq_true]
  · refine recast (store restart rfl) fun n => ?_
    rw [h1, h14, restartAttention]; grind [storeDefaults]
  · refine recast restart fun n => ?_
    rw [h1, restartAttention]; grind
  · refine recast (store clock rfl) fun n => ?_
    rw [h0, h1, h14, restartAttention]; grind [storeDefaults]
  · refine recast clock fun n => ?_
    rw [h0, h1, restartAttention]; grind

/-! ## The reset -/

theorem loadedFrom_blank (s : State) (cold : Bool) : (s.loadedFrom cold).Blank where
  elapsed := by cases cold <;> rfl
  zones := rfl
  table := rfl
  heads := rfl
  link := rfl
  queue := rfl
  arrivals := rfl
  sinkOpen := rfl
  field := rfl

theorem State.Blank.congr {u t : State} (h : u.Blank) (clock : t.clock = u.clock := by simp)
    (zones : t.zones = u.zones := by simp) (table : t.table = u.table := by simp) (heads : t.heads = u.heads := by simp)
    (link : t.link = u.link := by simp) (arbiter : t.arbiter = u.arbiter := by simp) (field : t.field = u.field := by simp) :
    t.Blank :=
  ⟨by rw [clock]; exact h.elapsed, zones.trans h.zones, table.trans h.table, heads.trans h.heads, link.trans h.link,
    by rw [arbiter]; exact h.queue, by rw [arbiter]; exact h.arrivals, by rw [arbiter]; exact h.sinkOpen,
    field.trans h.field⟩

/-- With nothing served the flow setpoint is flow min (R148, R149). -/
theorem State.Blank.withFlow_boiler {u : State} (h : u.Blank) : ∃ parts, u.withFlow.boiler =
    { u.boiler with flowSetpoint := u.cfg.boiler.flowMin, modulationTarget := modulationOf u.cfg.boiler.flowMin, parts } := by
  have empty : u.flowParts.contribution = none := by
    simp [State.flowParts, State.servedZones, h.servedSet, h.consumer channelW, Consumer.served, Consumer.initial,
      FlowParts.contribution]
  refine ⟨u.flowParts, ?_⟩
  rw [State.withFlow, State.setBoiler, FlowParts.setpoint, empty]

theorem resetRaises_keeps (u : State) (cold : Bool) :
    (u.resetRaises cold).clock = u.clock ∧ (u.resetRaises cold).cfg = u.cfg ∧ (u.resetRaises cold).store = u.store ∧
    (u.resetRaises cold).claim = u.claim ∧ (u.resetRaises cold).channels = u.channels ∧
    (u.resetRaises cold).zones = u.zones ∧ (u.resetRaises cold).wRequest = u.wRequest ∧
    (u.resetRaises cold).table = u.table ∧ (u.resetRaises cold).heads = u.heads ∧
    (u.resetRaises cold).link = u.link ∧ (u.resetRaises cold).arbiter = u.arbiter ∧
    (u.resetRaises cold).boiler = u.boiler ∧ (u.resetRaises cold).field = u.field ∧
    (u.resetRaises cold).restartPending = u.restartPending ∧ (u.resetRaises cold).acting = u.acting ∧
    (u.resetRaises cold).pending = u.pending := by
  simp only [State.resetRaises]; repeat' split
  all_goals simp

/-- After a reset no channel holds a layer, and every plan is compiled from the clock and the tables (R14, R24). -/
theorem compileAll_reset {r : State} (h : r.channels = State.reset.channels) (c : Nat) :
    (r.compileAll.channel c).stack = [] ∧ (1 ≤ c → c ≤ 17 → (r.compileAll.channel c).plan = r.compilePlan c) := by
  have size : State.reset.channels.length = 17 := by decide
  have blank (c : Nat) : (r.channel c).stack = [] := by
    have hc : r.channel c = item State.reset.channels c ⟨[], []⟩ := by rw [State.channel, h]
    by_cases hin : 1 ≤ c ∧ c ≤ 17
    · have none_held : ∀ x ∈ State.reset.channels, x.stack = [] := by decide
      rw [hc]; exact none_held _ (item_mem _ c _ hin.1 (by rw [size]; exact hin.2))
    · rw [hc, item_outside _ c _ (by rw [size]; omega)]
  have length : r.channels.length = 17 := by rw [h, size]
  by_cases hin : 1 ≤ c ∧ c ≤ 17
  · rw [compileAll_channel r c length hin.1 hin.2]
    exact ⟨blank c, fun _ _ => rfl⟩
  · have outside : r.compileAll.channel c = r.channel c :=
      foldl_read_other State.channel State.compile (fun u k d hne => channel_setPlan_other u k d _ hne) channelNumbers c
        (by rw [channelNumbers, mem_numbers]; exact hin) r
    rw [outside]
    exact ⟨blank c, fun h1 h2 => absurd (And.intro h1 h2) hin⟩

/-- The blocks with plans, wanted targets and flow setpoint formed, before they settle. -/
def State.blocksFormed (r : State) : State := (r.compileAll.formAll slotNumbers).withFlow

/-- What a reset has made of every block before the plant settles. -/
structure State.Formed (s f : State) (cold : Bool) : Prop where
  blank : f.Blank
  clock : f.clock = (s.loadedFrom cold).clock
  cfg : f.cfg = (s.loadedFrom cold).cfg
  store : f.store = (s.loadedFrom cold).store
  claim : f.claim = none
  wRequest : f.wRequest = false
  layers : ∀ c, (f.channel c).stack = []
  plans : ∀ c, 1 ≤ c → c ≤ 17 → f.planCompiled c
  wanted : ∀ v, 1 ≤ v → v ≤ 32 → f.wantedOf v = if f.used v then some ⟨0, .normal⟩ else none
  boiler : ∃ parts, f.boiler = { State.reset.boiler with
    flowSetpoint := f.cfg.boiler.flowMin, modulationTarget := modulationOf f.cfg.boiler.flowMin, parts }
  ports : ∀ p, (f.port p).Fresh (restartAttention cold f.store.imageValid (f.masks p))
  restartPending : f.restartPending = false
  acting : f.acting = none
  pending : f.pending = s.pending

theorem blocksFormed_formed (s : State) (cold : Bool) :
    s.Formed ((s.loadedFrom cold).resetRaises cold).blocksFormed cold := by
  obtain ⟨clock, cfg, store, claim, channels, zones, wRequest, table, heads, link, arbiter, boiler, field, restartPending,
    acting, pending⟩ := resetRaises_keeps (s.loadedFrom cold) cold
  have ports := resetRaises_port s cold
  have blank : ((s.loadedFrom cold).resetRaises cold).Blank :=
    (loadedFrom_blank s cold).congr clock zones table heads link arbiter field
  generalize (s.loadedFrom cold).resetRaises cold = r at *
  have compiled : r.compileAll.Blank := blank.congr
  have arbiter : r.compileAll.arbiter = State.reset.arbiter := by simp [arbiter]; rfl
  have boiler : r.boiler = State.reset.boiler := boiler
  obtain ⟨formed, wanted⟩ := compiled.formAll (by simp [boiler, State.reset]) (by rw [arbiter]; rfl)
  have channel (c : Nat) : r.blocksFormed.channel c = r.compileAll.channel c := by simp [State.blocksFormed, State.channel]
  have plans := compileAll_reset (r := r) channels
  exact {
    blank := show ((r.compileAll.formAll slotNumbers).withFlow).Blank from formed.congr
    clock := by simp [State.blocksFormed, clock]
    cfg := by simp [State.blocksFormed, cfg]
    store := by simp [State.blocksFormed, store]
    claim := by simp [State.blocksFormed, claim]; rfl
    wRequest := by simp [State.blocksFormed, wRequest]; rfl
    layers c := by rw [channel c]; exact (plans c).1
    plans c h1 h2 := planCompiled_of_compilePlan (s := r) c (by simp [State.blocksFormed]) (by simp [State.blocksFormed])
      (by rw [channel c]; exact (plans c).2 h1 h2)
    wanted v h1 h2 := by
      have used : r.blocksFormed.used v = r.compileAll.used v := by simp [State.blocksFormed, State.used, State.valveCfg]
      have held : r.blocksFormed.wantedOf v = (r.compileAll.formAll slotNumbers).wantedOf v := by
        simp [State.blocksFormed, State.wantedOf]
      rw [used, held, wanted v h1 h2]
    boiler := by
      obtain ⟨parts, flow⟩ := formed.withFlow_boiler
      exact ⟨parts, by simp [State.blocksFormed, flow, boiler]⟩
    ports p := by
      have port : r.blocksFormed.port p = r.port p := by cases p <;> simp [State.blocksFormed, State.port]
      have masks : r.blocksFormed.masks p = (s.loadedFrom cold).masks p := by
        cases p <;> simp [State.blocksFormed, State.masks, cfg]
      rw [port, masks, show r.blocksFormed.store = (s.loadedFrom cold).store by simp [State.blocksFormed, store]]
      exact ports p
    restartPending := by simp [State.blocksFormed, restartPending]; rfl
    acting := by simp [State.blocksFormed, acting]; rfl
    pending := by simp [State.blocksFormed, pending]; rfl }

/-- The end of a reset: the boiler judged, the first POLL begun, each port's notice on its way. -/
def State.restarted (f : State) : State :=
  { f with
    boiler := { f.boiler with state := if f.cfg.boiler.minOff = 0 then .idle else .rest }
    link := { f.link with transaction := (slotNumbers.find? f.used).map (⟨·, .poll⟩) }
    main := f.main.startNext
    service := f.service.startNext }

theorem restarted_of_formed {s f : State} {cold : Bool} (h : s.Formed f cold) :
    (f.settleWith f.committed .judge).endEvent = f.restarted := by
  obtain ⟨parts, boiler⟩ := h.boiler
  have atRest : f.boiler.state = .rest ∧ f.boiler.restMark = 0 ∧ f.boiler.heatDump = false ∧
      f.boiler.cleared = f.boiler := by simp [boiler, State.reset, Boiler.cleared]
  obtain ⟨hstate, hmark, hdump, hcleared⟩ := atRest
  rw [h.blank.started _ hstate hmark hdump hcleared]
  rfl

/-- The image a reset loads, and the store it leaves (R189, R192). -/
theorem loadedFrom_stored (s : State) (cold : Bool) :
    (s.loadedFrom cold).cfg = (if s.store.imageValid = true ∧ s.store.writing = none then s.store.image else .defaults) ∧
      s.writeStopped (s.loadedFrom cold) := by
  have afterReset : s.store.writing = none ∧ s.store.afterReset = s.store ∨
      s.store.writing ≠ none ∧ s.store.afterReset = s.store.cut := by
    cases hw : s.store.writing <;> simp [Store.afterReset, hw]
  have cfg : (s.loadedFrom cold).cfg = s.store.afterReset.loaded := rfl
  have store : (s.loadedFrom cold).store = s.store.afterReset := rfl
  rw [State.writeStopped, cfg, store]
  rcases afterReset with ⟨hw, hr⟩ | ⟨hw, hr⟩ <;> rw [hr]
  · simp [Store.loaded, hw]
  · exact ⟨by simp [Store.loaded, hw, Store.cut], fun h => absurd h hw, fun _ => ⟨rfl, rfl, cut_check_ne _⟩⟩

/-- What a reset leaves, COLD or WARM (11.5). -/
theorem bootFrom_restarted (s : State) (cold : Bool) : s.Restarted (s.bootFrom cold) cold := by
  have formed := blocksFormed_formed s cold
  have boot : s.bootFrom cold = ((((s.loadedFrom cold).resetRaises cold).blocksFormed).settleWith
    (((s.loadedFrom cold).resetRaises cold).blocksFormed).committed .judge).endEvent := rfl
  rw [boot, restarted_of_formed formed]
  generalize ((s.loadedFrom cold).resetRaises cold).blocksFormed = f at formed
  obtain ⟨parts, boiler⟩ := formed.boiler
  obtain ⟨hcfg, hstore⟩ := loadedFrom_stored s cold
  have port (p : Port) : f.restarted.port p = (f.port p).startNext := by cases p <;> rfl
  have masks (p : Port) : f.restarted.masks p = f.masks p := by cases p <;> rfl
  exact {
    clock := formed.clock.trans (by cases cold <;> rfl)
    cfg := formed.cfg.trans hcfg
    store := by
      rw [State.writeStopped, show f.restarted.store = _ from formed.store]; exact hstore
    claim := formed.claim
    layers := formed.layers
    plans := formed.plans
    zones := formed.blank.zones
    wRequest := formed.wRequest
    table := formed.blank.table
    heads := formed.blank.heads
    link := by
      have link := formed.blank.link
      simp only [State.restarted, link]; rfl
    queue := ⟨formed.blank.queue, formed.blank.arrivals, formed.blank.sinkOpen⟩
    wanted := formed.wanted
    boiler := by
      simp only [State.restarted, boiler, modulationOf]; rfl
    field := formed.blank.field
    receivers p := by rw [port]; simp [(formed.ports p).rx, (formed.ports p).cursor]
    attention p n := by rw [port, startNext_attn, masks, (formed.ports p).attn]; rfl
    notice p := by rw [port, startNext_attn, startNext_owes (formed.ports p).owes]
    flags := ⟨formed.restartPending, formed.acting⟩
    pending := formed.pending }

/-- Settles O4: the completion of an acting WARM reset is a restart that keeps the clock (`bootFrom_restarted`). -/
theorem warmResetCompletesKeepingTheClock : Obligations.WarmResetCompletesKeepingTheClock := by
  intro s
  refine ⟨fun hacting hidle => ⟨_, rfl, ?_⟩, fun h => congrArg Host.Outcome.next (?_ : warmResetCompleteEvent s = s)⟩
  · rw [warmResetCompleteEvent, if_pos ⟨hacting, hidle⟩]
    exact bootFrom_restarted s false
  · exact if_neg fun ⟨hacting, hidle⟩ => h.elim (· hacting) (· hidle)

end Sys2Proof.Machine
end

section
/-! PROOF. A grant round, read from its queue to its end (R92, R116 to R121; O35). -/

namespace Sys2Proof.Machine

/-! ## What may be granted -/

theorem gatedClosing_iff (s : State) (e : Entry) : s.gatedClosing e = true ↔ s.gates e := by
  have gated : s.boiler.gates = true ↔ s.boiler.state = .lead ∨ s.boiler.state = .firing ∨ s.boiler.state = .overrun ∨
      s.boiler.state = .faulted ∧ s.boiler.pumpTimer ≠ none := by
    rw [Boiler.gates]; cases s.boiler.state <;> simp [Option.isSome_iff_ne_none]
  simp only [State.gatedClosing, Bool.and_eq_true, decide_eq_true_eq, gated, and_assoc]

/-- With its DEFERRED mark judged, an entry is eligible where it may be granted (R117, R120). -/
theorem eligible_iff {s : State} {e : Entry}
    (hmark : e.deferred = true ↔ e.op = .drive ∧ s.committed e.slot < e.target ∧ s.consumerDeferred e.slot = true) :
    s.eligible e = true ↔ s.mayRun e := by
  have takes : headTakes (s.head e.slot).state e.op = true ↔ (s.head e.slot).state = .ready ∨
      e.op = .home ∧ ((s.head e.slot).state = .unknown ∨ (s.head e.slot).state = .stalled) := by
    cases e.op <;> simp [headTakes, or_assoc]
  simp only [State.eligible, Bool.and_eq_true, Bool.not_eq_true', takes, ← Bool.not_eq_true, hmark, gatedClosing_iff,
    and_assoc]

/-- What an entry's grant depends on (R117). -/
theorem mayRun_congr {s t : State} (e : Entry) (hcfg : t.cfg = s.cfg) (hheads : t.heads = s.heads)
    (hfault : t.link.fault = s.link.fault) (htable : t.table = s.table) (hboiler : t.boiler = s.boiler)
    (hsupply : t.field.supplyOk = s.field.supplyOk) : t.mayRun e ↔ s.mayRun e := by
  have head : t.head e.slot = s.head e.slot := head_congr _ hheads
  have committed : t.committed = s.committed := by
    funext v; rw [State.committed, State.committed, head_congr v hheads, hfault]
  have deferred : t.consumerDeferred e.slot = s.consumerDeferred e.slot := by
    simp only [State.consumerDeferred, State.valveCfg, State.consumer, hcfg, htable]
  have trial : t.trialCapacity e = s.trialCapacity e := by
    rw [State.trialCapacity, State.trialCapacity, rawSumWith_congr hcfg, State.trialPosition, State.trialPosition, committed]
  have gates : t.gates e ↔ s.gates e := by
    rw [State.gates, State.gates, trial, capacity_congr hcfg hheads hfault, hboiler, State.sinkMinimum, State.sinkMinimum, hcfg]
  rw [State.mayRun, State.mayRun, head, committed, deferred, gates, hfault, hsupply]

/-! ## The grant order (R118) -/

/-- The first entry a grant round takes: no eligible one of a higher class waits, none of its class waits before it. -/
theorem grantOrder_find {a b : List Entry} {e : Entry} {p : Entry → Bool} (he : p e = true)
    (ha : ∀ x ∈ a, p x = true → e.cls.code < x.cls.code) (hb : ∀ x ∈ b, p x = true → e.cls.code ≤ x.cls.code) :
    (grantOrder (a ++ e :: b)).find? p = some e := by
  have higher (c : MoveClass) (hc : c.code < e.cls.code) : ((a ++ e :: b).filter (·.cls == c)).find? p = none := by
    refine List.find?_eq_none.mpr fun x hx hp => ?_
    obtain ⟨hmem, hcls⟩ := List.mem_filter.mp hx
    obtain rfl : x.cls = c := by simpa using hcls
    rcases List.mem_append.mp hmem with hxa | hxb
    · exact absurd (ha x hxa hp) (by omega)
    · rcases List.mem_cons.mp hxb with rfl | hxb
      · omega
      · exact absurd (hb x hxb hp) (by omega)
  have own : ((a ++ e :: b).filter (·.cls == e.cls)).find? p = some e := by
    have before : (a.filter (·.cls == e.cls)).find? p = none := by
      refine List.find?_eq_none.mpr fun x hx hp => ?_
      obtain ⟨hmem, hcls⟩ := List.mem_filter.mp hx
      have := ha x hmem hp
      rw [show x.cls = e.cls by simpa using hcls] at this
      omega
    simp [List.filter_append, List.find?_append, before, he]
  unfold grantOrder
  cases hc : e.cls <;> rw [hc] at own higher
  · simp only [List.find?_append, own, Option.some_or]
  · simp only [List.find?_append, own, higher .safety (by decide), Option.some_or, Option.none_or]
  · simp only [List.find?_append, own, higher .safety (by decide), higher .normal (by decide), Option.some_or,
      Option.none_or]
  · simp only [List.find?_append, own, higher .safety (by decide), higher .normal (by decide),
      higher .homing (by decide), Option.none_or]

/-! ## One grant -/

/-- Every entry is of a slot that exists, and every slot's record stands. -/
def State.slotted (s : State) : Prop := s.heads.length = 32 ∧ ∀ e ∈ s.arbiter.queue, 1 ≤ e.slot ∧ e.slot ≤ 32

theorem grant_slotted {s : State} (h : s.slotted) (e : Entry) : (s.grant e).slotted := by
  obtain ⟨hlen, hslots⟩ := h
  refine ⟨(length_setItem _ _ _).trans hlen, fun f hf => hslots f ?_⟩
  rw [grant_queue] at hf
  exact (List.mem_filter.mp hf).1

theorem granted_running (h : Head) (e : Entry) (stroke : Nat) : (h.granted e stroke).running = true := by
  cases hop : e.op <;> simp [Head.granted, Head.running, hop, MoveOp.headState]

/-- A grant takes one unit (R116). -/
theorem grant_unitsInUse {s : State} {e : Entry} (h : s.slotted) (hgrant : s.nextGrant = some e) :
    (s.grant e).unitsInUse = s.unitsInUse + 1 := by
  obtain ⟨hlen, hslots⟩ := h
  obtain ⟨-, hmem, hel⟩ := nextGrant_some s e hgrant
  obtain ⟨-, -, htakes, -⟩ := eligible_spec s e hel
  obtain ⟨h1, h32⟩ := hslots e hmem
  have still : e.slot ∉ s.runningSlots := by
    rw [mem_runningSlots]
    rintro ⟨-, hrun | hrun⟩ <;> rw [hrun] at htakes <;> cases hop : e.op <;> simp [hop, headTakes] at htakes
  have slots : (s.grant e).runningSlots.Perm (e.slot :: s.runningSlots) := by
    refine (List.perm_ext_iff_of_nodup (runningSlots_nodup _)
      (List.nodup_cons.mpr ⟨still, runningSlots_nodup s⟩)).mpr fun v => ?_
    simp only [State.runningSlots, List.mem_cons, List.mem_filter, slotNumbers, mem_numbers]
    by_cases hv : v = e.slot
    · subst hv
      rw [grant_head_same s e h1 (hlen ▸ h32)]
      simp [granted_running, h1, h32]
    · rw [grant_head_other s e v hv]
      simp [hv]
  exact slots.length_eq

/-- What has been granted stays granted (R92). -/
theorem granted_grant {r s : State} {e f : Entry} (h : r.granted s e) (hgrant : s.nextGrant = some f) :
    r.granted (s.grant f) e := by
  obtain ⟨hqueue, hhead, c, hc, hslot, hreq⟩ := h
  obtain ⟨-, hmem, -⟩ := nextGrant_some s f hgrant
  have hne : e.slot ≠ f.slot := fun heq => by
    have := mem_queued hmem heq.symm
    rw [hqueue] at this; simp at this
  refine ⟨(queued_removeEntry_other s hne).trans hqueue, (grant_head_other s f _ hne).trans hhead, ?_⟩
  exact (commanded_addCommand_other _ f.request _ hne).mpr ⟨c, hc, hslot, hreq⟩

/-- A grant grants its entry, its head standing as before the round (R92, R119). -/
theorem granted_self {r s : State} {e : Entry} (h : s.slotted) (hmem : e ∈ s.arbiter.queue) (hcfg : s.cfg = r.cfg)
    (hhead : s.head e.slot = r.head e.slot) : r.granted (s.grant e) e := by
  obtain ⟨hlen, hslots⟩ := h
  obtain ⟨h1, h32⟩ := hslots e hmem
  refine ⟨queued_removeEntry_same s _, ?_, ?_⟩
  · rw [grant_head_same s e h1 (hlen ▸ h32), hhead, State.valveCfg, hcfg]
    cases hop : e.op <;> simp [Head.granted, hop, MoveOp.headState, State.valveCfg]
  · obtain ⟨c, hc, hslot, hreq⟩ := commanded_addCommand _ e.slot e.request
    exact ⟨c, hc, hslot, by rw [hreq, Entry.request]; cases e.op <;> rfl⟩

/-! ## The round -/

/-- What the grants of a round make of `r`: each slot stands, or one entry of its own has been granted. -/
structure State.RoundFrom (r s : State) : Prop where
  slotted : s.slotted
  cfg : s.cfg = r.cfg
  fault : s.link.fault = r.link.fault
  subset : s.arbiter.queue ⊆ r.arbiter.queue
  slots : ∀ v, (s.head v = r.head v ∧ s.queued v = r.queued v) ∨
    ∃ e ∈ r.arbiter.queue, e.slot = v ∧ r.granted s e

theorem State.RoundFrom.grant {r s : State} {e : Entry} (h : r.RoundFrom s) (hgrant : s.nextGrant = some e) :
    r.RoundFrom (s.grant e) where
  slotted := grant_slotted h.slotted e
  cfg := by simpa using h.cfg
  fault := h.fault
  subset f hf := h.subset (List.mem_filter.mp (grant_queue s e ▸ hf)).1
  slots v := by
    obtain ⟨-, hmem, -⟩ := nextGrant_some s e hgrant
    rcases h.slots v with ⟨hhead, hqueued⟩ | ⟨f, hf, hv, hgranted⟩
    · by_cases hv : v = e.slot
      · subst hv
        exact .inr ⟨e, h.subset hmem, rfl, granted_self h.slotted hmem h.cfg hhead⟩
      · exact .inl ⟨(grant_head_other s e v hv).trans hhead, (queued_removeEntry_other s hv).trans hqueued⟩
    · exact .inr ⟨f, hf, hv, granted_grant hgranted hgrant⟩

theorem grantRound_roundFrom {r : State} (h : r.slotted) : r.RoundFrom r.grantRound :=
  grantRound_induct r.RoundFrom (fun _ _ hs hgrant => hs.grant hgrant) r
    ⟨h, rfl, rfl, fun _ he => he, fun _ => .inl ⟨rfl, rfl⟩⟩

/-- A round with a unit for each of its grants ends with nothing left to grant (R118). -/
theorem grantRoundUpTo_ends (n : Nat) {s : State} (h : s.slotted) (hn : s.cfg.boiler.motorAllowance ≤ s.unitsInUse + n) :
    (grantRoundUpTo n s).nextGrant = none := by
  induction n generalizing s with
  | zero => exact if_neg (show ¬ s.unitsInUse < s.cfg.boiler.motorAllowance by omega)
  | succ n ih =>
    rw [grantRoundUpTo]
    cases hgrant : s.nextGrant with
    | none => exact hgrant
    | some e =>
      refine ih (grant_slotted h e) ?_
      have := grant_unitsInUse h hgrant
      simp only [grant_keeps]
      omega

theorem grantRound_ends {s : State} (h : s.slotted) : s.grantRound.nextGrant = none :=
  grantRoundUpTo_ends _ h (by omega)

theorem grantRound_of_none {s : State} (h : s.nextGrant = none) : s.grantRound = s := by
  unfold State.grantRound
  cases s.cfg.boiler.motorAllowance with
  | zero => rfl
  | succ n => rw [grantRoundUpTo, h]

/-- The entry granted first has been granted at the round's end. -/
theorem grantRound_grants {r : State} {e : Entry} (h : r.slotted) (hgrant : r.nextGrant = some e) :
    r.granted r.grantRound e := by
  obtain ⟨-, hmem, -⟩ := nextGrant_some r e hgrant
  have reached := grantRound_induct (fun s => s = r ∨ r.granted s e) (fun s f hs hf => .inr ?_) r (.inl rfl)
  · rcases reached with heq | hgranted
    · have := grantRound_ends h
      rw [heq, hgrant] at this; cases this
    · exact hgranted
  · rcases hs with rfl | hs
    · obtain rfl : e = f := Option.some.inj (hgrant.symm.trans hf)
      exact granted_self h hmem rfl rfl
    · exact granted_grant hs hf

/-- With a unit free after the round, nothing that waits may be granted (R118). -/
theorem grantRound_exhausts {s : State} (h : s.slotted) (hunits : s.grantRound.unitsInUse < s.cfg.boiler.motorAllowance)
    {e : Entry} (he : e ∈ s.grantRound.arbiter.queue) : s.grantRound.eligible e = false := by
  have none := grantRound_ends h
  rw [State.nextGrant, if_pos (by simpa using hunits)] at none
  have all := List.find?_eq_none.mp none e (by
    simp only [grantOrder, List.mem_append, List.mem_filter]
    cases hc : e.cls <;> simp [he])
  simpa using all

end Sys2Proof.Machine
end

section
/-! PROOF. The measurements of the actuator supply (R101, R102; O35). -/

namespace Sys2Proof.Machine

/-! ## The effect of a measurement -/

/-- The supply's record with this measurement taken. -/
def State.measured (s : State) (v : Nat) : State := s.setField { s.field with supplyLast := some v }

section
variable {s : State} {v : Nat}

theorem measureSupply_firstOk (h : s.field.supplyLast = none) (hv : 190 ≤ v) :
    s.measureSupply v = s.setField { s.field with supplyLast := some v, supplyOk := true } :=
  (if_pos (by simp [h])).trans (if_pos hv)

theorem measureSupply_firstLow (h : s.field.supplyLast = none) (hv : v < 190) : s.measureSupply v =
    (s.setField { s.field with supplyLast := some v, supplyOk := false, supplyQual := 0 }).raise .supply 0 :=
  (if_pos (by simp [h])).trans (if_neg (by omega))

theorem measureSupply_ok (h : s.field.supplyLast ≠ none) (hok : s.field.supplyOk = true) (hv : 190 ≤ v) :
    s.measureSupply v = s.measured v :=
  (if_neg (by simpa using h)).trans ((if_pos hok).trans (if_neg (by omega)))

theorem measureSupply_stops (h : s.field.supplyLast ≠ none) (hok : s.field.supplyOk = true) (hv : v < 190) :
    s.measureSupply v = (s.measured v).supplyStop :=
  (if_neg (by simpa using h)).trans ((if_pos hok).trans (if_pos hv))

theorem measureSupply_low (h : s.field.supplyLast ≠ none) (hok : s.field.supplyOk = false) :
    s.measureSupply v = (s.measured v).setField ((s.measured v).field.qualify v) :=
  (if_neg (by simpa using h)).trans (if_neg (by simp [hok, State.setField]))

end

/-! ## The supply fails (R102) -/

/-- The moves stopped, each head with a STOP in the list. -/
def State.stopMoves (s : State) (vs : List Nat) : State :=
  vs.foldl (fun s v => (s.endMove v .unknown).addCommand v .stop) s

/-- The supply's record at LOW (R101). -/
def State.supplyLow (s : State) : State := s.setField { s.field with supplyOk := false, supplyQual := 0 }

theorem supplyStop_eq (s : State) :
    s.supplyStop = (s.supplyLow.stopMoves s.runningSlots).raise .supply (objectsOf s.runningSlots) := rfl

theorem stopMoves_keeps {α : Type} (g : State → α) (hg : ∀ u v, g ((State.endMove u v .unknown).addCommand v .stop) = g u)
    (u : State) (vs : List Nat) : g (u.stopMoves vs) = g u := foldl_keeps _ g hg vs u

/-- Every running head stops where it is, UNKNOWN (R102). -/
theorem supplyStop_head {s : State} (hlen : s.heads.length = 32) {v : Nat} (hv : v ∈ s.runningSlots) :
    s.supplyStop.head v = { s.head v with state := .unknown, move := none } := by
  have stopped := foldl_endMove_head (f := fun u v => (u.endMove v .unknown).addCommand v .stop) (fun _ _ => rfl)
    (s := s.supplyLow) (runningSlots_nodup s)
    (fun v hv => (mem_runningSlots.mp hv).1) hlen v
  rw [if_pos hv] at stopped
  rw [supplyStop_eq]
  exact (head_congr (s := s.supplyLow.stopMoves s.runningSlots) v).trans stopped

/-- Every running head is sent a STOP (R102). -/
theorem supplyStop_commanded {s : State} {v : Nat} (hv : v ∈ s.runningSlots) : s.supplyStop.commanded v .stop := by
  have reached (vs : List Nat) (u : State) (h : v ∈ vs ∨ u.commanded v .stop) : (u.stopMoves vs).commanded v .stop := by
    induction vs generalizing u with
    | nil => exact h.resolve_left (by simp)
    | cons k vs ih =>
      refine ih ((u.endMove k .unknown).addCommand k .stop) ?_
      by_cases hk : v = k
      · exact .inr (hk ▸ commanded_addCommand _ _ _)
      · refine h.imp (fun hv => (List.mem_cons.mp hv).resolve_left hk) fun hu => ?_
        exact (commanded_addCommand_other (u.endMove k .unknown) _ _ hk).mpr hu
  have raised (u : State) (o : ObjectSet) : (u.raise .supply o).commanded v .stop ↔ u.commanded v .stop := by
    simp [State.commanded]
  rw [supplyStop_eq, raised]
  exact reached _ _ (.inl hv)

theorem supplyStop_field (s : State) : s.supplyStop.field = { s.field with supplyOk := false, supplyQual := 0 } := by
  rw [supplyStop_eq]
  have stopped := stopMoves_keeps State.field (fun _ _ => rfl) s.supplyLow s.runningSlots
  simp only [raise_keeps, stopped]
  rfl

theorem supplyStop_onlyRaises (s : State) : s.onlyRaises s.supplyStop [.supply] := by
  rw [supplyStop_eq]
  exact onlyRaises_trans (onlyRaises_of_ports _ (stopMoves_keeps State.main (fun _ _ => rfl) s.supplyLow s.runningSlots)
    (stopMoves_keeps State.service (fun _ _ => rfl) s.supplyLow s.runningSlots)) (onlyRaises_raise _ .supply _ (List.mem_singleton_self _))

theorem supplyStop_raised {s : State} (hattn : ∀ p, (s.port p).attn.length = 16) {o : ObjectSet}
    (ho : o &&& ~~~(objectsOf s.runningSlots) = 0) (q : Port) : s.supplyStop.raised q .supply o := by
  have port := stopMoves_keeps (State.port · q) (fun _ _ => by cases q <;> rfl) s.supplyLow s.runningSlots
  rw [supplyStop_eq]
  exact raised_raise_within q .supply (by rw [port]; exact (show (s.port q).attn.length = 16 from hattn q)) ho

/-! ## The end of the event -/

/-- Every measurement that an event takes ends as it settles. -/
theorem exec_measures {c : Sys2Proof.Instr} {s : State} {v : Nat} (ha : s.acting = none)
    (hc : c = .supplyMeasurement v ∨
      (c = .supplyQualified v ∧ s.field.supplyLast ≠ none ∧ s.field.supplyOk = false ∧ 205 < v ∧ 99 ≤ s.field.supplyQual)) :
    exec c s = .next ((s.measureSupply v).settle s).endEvent := by
  rw [← plantEvent_free s (·.measureSupply v) ha]
  rcases hc with rfl | ⟨rfl, hlast, hok, hv, hqual⟩
  · rfl
  · have qualifies : s.qualifies v = true := by
      simp [State.qualifies, Option.isSome_iff_ne_none, hlast, hok, FieldIO.qualify, hv, hqual]
    exact congrArg Host.Outcome.next (if_pos qualifies)

theorem measureSupply_onlyRaises (s : State) (v : Nat) : s.onlyRaises (s.measureSupply v) [.supply] := by
  have still (f : FieldIO) : s.onlyRaises (s.setField f) [.supply] := onlyRaises_of_ports _ rfl rfl
  unfold State.measureSupply
  dsimp only
  repeat' split
  · exact still _
  · exact onlyRaises_trans (still _) (onlyRaises_raise _ .supply _ (List.mem_singleton_self _))
  · exact onlyRaises_trans (still _) (supplyStop_onlyRaises _)
  · exact still _
  · exact still _

theorem measureSupply_heads_length (s : State) (v : Nat) : (s.measureSupply v).heads.length = s.heads.length :=
  congrArg (·.2.2.2.1) (measureSupply_sizes s v)

theorem measureSupply_last (s : State) (v : Nat) : (s.measureSupply v).field.supplyLast = some v := by
  have qualify (f : FieldIO) : (f.qualify v).supplyLast = f.supplyLast := by unfold FieldIO.qualify; split <;> rfl
  unfold State.measureSupply
  dsimp only
  repeat' split
  all_goals simp [supplyStop_field, qualify]

/-- Supply and qualification time at the event's end are those the measurement left. -/
theorem measured_supply (s : State) (v : Nat) :
    ((s.measureSupply v).settle s).endEvent.field.supplyOk = (s.measureSupply v).field.supplyOk ∧
      ((s.measureSupply v).settle s).endEvent.field.supplyQual = (s.measureSupply v).field.supplyQual ∧
      ((s.measureSupply v).settle s).endEvent.field.supplyLast = some v := by
  obtain ⟨hok, hqual, hlast, -⟩ := settle_supplyKept (s.measureSupply v) s
  exact ⟨by simpa using hok, by simpa using hqual, by simpa [measureSupply_last] using hlast⟩

section
variable {s : State} (hshape : s.shaped) {v : Nat} (hv : v < 190)
include hshape hv

/-- A first measurement below 19.0 V (R101). -/
theorem measured_firstLow (hfirst : s.field.supplyLast = none) :
    ((s.measureSupply v).settle s).endEvent.heads = s.heads ∧
      ∀ q, ((s.measureSupply v).settle s).endEvent.raised q .supply 0 := by
  have effect := measureSupply_firstLow hfirst hv
  have low : (s.measureSupply v).field.supplyOk = false := by simp [effect]
  refine ⟨?_, fun q => endEvent_raised ?_⟩
  · have heads := settle_heads s (.inr low)
    simp only [endEvent_keeps, heads]
    rw [effect]
    simp
  · rw [effect]
    exact raised_raise_within q .supply (show (s.port q).attn.length = 16 from attn_length hshape q) (by simp)

/-- The supply fails below 19.0 V (R101, R102). -/
theorem measured_stops (hlater : s.field.supplyLast ≠ none) (hok : s.field.supplyOk = true) :
    (∀ q, ((s.measureSupply v).settle s).endEvent.raised q .supply 0) ∧
      ∀ n ∈ s.runningSlots,
        ((s.measureSupply v).settle s).endEvent.head n = { s.head n with state := .unknown, move := none } ∧
        (∀ q, ((s.measureSupply v).settle s).endEvent.raised q .supply (object n)) ∧
        ((s.measureSupply v).settle s).endEvent.commanded n .stop := by
  have effect := measureSupply_stops hlater hok hv
  have hattn : ∀ p, ((s.measured v).port p).attn.length = 16 := attn_length hshape
  have hlen : (s.measured v).heads.length = 32 := heads_length hshape
  refine ⟨fun q => endEvent_raised ?_, fun n hn => ?_⟩
  · rw [effect]
    exact supplyStop_raised hattn (by simp) q
  · obtain ⟨⟨h1, h32⟩, -⟩ := mem_runningSlots.mp hn
    have settles := endEvent_slotSettles (s.measureSupply v) s h1
      (by rw [measureSupply_heads_length, heads_length hshape]; exact h32)
    have head := supplyStop_head hlen (v := n) hn
    rw [← effect] at head
    have stands : (s.measureSupply v).SlotStands ((s.measureSupply v).settle s).endEvent n := by
      rcases settles.outcome with stands | ⟨e, granted⟩
      · exact stands
      · have supply := granted.supply
        rw [effect, supplyStop_field] at supply
        cases supply
    refine ⟨stands.head.trans head, fun q => endEvent_raised ?_, (stands.commands .stop).mpr ?_⟩
    · rw [effect]; exact supplyStop_raised hattn (object_within (show n ∈ (s.measured v).runningSlots from hn)) q
    · rw [effect]; exact supplyStop_commanded hn

end

end Sys2Proof.Machine
end

section
/-! PROOF. A supply back to OK takes a grant round (R101, R118); the trial capacity (R78; O35). -/

namespace Sys2Proof.Machine

/-! ## An event in which the boiler stays -/

/-- What the end of such an event leaves, read from its grant round (log 4). -/
structure State.RoundTaken (u t : State) : Prop where
  cfg : t.cfg = u.cfg
  heads : t.heads = u.remark.grantRound.heads
  fault : t.link.fault = u.link.fault
  table : t.table = u.table
  boiler : t.boiler = u.boiler
  supply : t.field.supplyOk = u.field.supplyOk
  arbiter : t.arbiter = u.remark.grantRound.arbiter
  commands : ∀ v r, t.commanded v r ↔ u.remark.grantRound.commanded v r

theorem grantRound_fault (s : State) : s.grantRound.link.fault = s.link.fault :=
  grantRound_induct (fun t => t.link.fault = s.link.fault) (fun _ _ h _ => h) s rfl

theorem settle_roundTaken {u before : State} (h : u.boilerStays) (hb : u.boiler.state = before.boiler.state) :
    u.RoundTaken (u.settle before) := by
  rw [settle_of_stays h hb]
  exact {
    cfg := by simp
    heads := by simp
    fault := by simpa [nextTransaction_fault] using grantRound_fault u.remark
    table := by simp
    boiler := by simp
    supply := by simp [State.setPump, State.setField]
    arbiter := by simp
    commands := fun v r => by
      rw [← nextTransaction_commanded u.remark.grantRound v r]; simp [State.commanded] }

theorem State.RoundTaken.endEvent {u t : State} (h : u.RoundTaken t) : u.RoundTaken t.endEvent where
  cfg := by simpa using h.cfg
  heads := by simpa using h.heads
  fault := by simpa using h.fault
  table := by simpa using h.table
  boiler := by simpa using h.boiler
  supply := by simpa using h.supply
  arbiter := by simpa using h.arbiter
  commands v r := by rw [← h.commands v r]; simp [State.commanded]

/-! ## Marks (R120) -/

/-- An entry with its DEFERRED mark judged. -/
def State.marked (s : State) (e : Entry) : Entry := { e with deferred := s.isOpening e && s.consumerDeferred e.slot }

theorem remark_queue (s : State) : s.remark.arbiter.queue = s.arbiter.queue.map s.marked := rfl

theorem marked_deferred (s : State) (e : Entry) : (s.marked e).deferred = true ↔
    (s.marked e).op = .drive ∧ s.committed e.slot < (s.marked e).target ∧ s.consumerDeferred e.slot = true := by
  simp [State.marked, State.isOpening, and_assoc]

theorem cfg_valves_length {s : State} (h : s.shaped) : s.cfg.valves.length = 32 := by
  obtain ⟨hcfg, -⟩ := h
  simp only [Stored.shaped, Bool.and_eq_true, beq_iff_eq] at hcfg
  tauto

/-- A slot in use is one of the 32. -/
theorem used_slot {s : State} (hshape : s.shaped) {v : Nat} (h : s.used v = true) : 1 ≤ v ∧ v ≤ 32 := by
  by_contra hout
  have unused : s.valveCfg v = .initial := item_outside _ v _ (by rw [cfg_valves_length hshape]; omega)
  rw [State.used, unused] at h
  cases h

theorem remark_slotted {s : State} (hshape : s.shaped) (hqueue : s.queueOk) : s.remark.slotted := by
  obtain ⟨-, hentries, -⟩ := hqueue
  refine ⟨heads_length hshape, fun e he => ?_⟩
  obtain ⟨f, hf, rfl⟩ := List.mem_map.mp he
  obtain ⟨hused, -⟩ := hentries f hf
  exact used_slot hshape hused

/-! ## The round, read at the event's end -/

theorem remark_round {u : State} (hshape : u.shaped) (hqueue : u.queueOk) : u.remark.RoundFrom u.remark.grantRound :=
  grantRound_roundFrom (remark_slotted hshape hqueue)

section
variable {u t : State} (h : u.RoundTaken t)
include h

/-- A granted entry, read at the event's end. -/
theorem State.RoundTaken.granted {e : Entry} (hg : u.remark.granted u.remark.grantRound (u.marked e)) : u.granted t e := by
  obtain ⟨hnone, hhead, hcmd⟩ := hg
  refine ⟨(queued_congr _ (congrArg _ h.arbiter)).trans hnone, (head_congr _ h.heads).trans hhead, ?_⟩
  exact (h.commands _ _).mpr hcmd

/-- With no unit free nothing is granted (R116, R118). -/
theorem State.RoundTaken.full (hunits : u.cfg.boiler.motorAllowance ≤ u.unitsInUse) :
    t.heads = u.heads ∧ ∀ n, t.queued n = u.queued n := by
  have round : u.remark.grantRound = u.remark :=
    grantRound_of_none (if_neg (show ¬ u.unitsInUse < u.cfg.boiler.motorAllowance by omega))
  refine ⟨h.heads.trans (by rw [round]; rfl), fun n => (queued_congr n (congrArg _ h.arbiter)).trans ?_⟩
  rw [round]; exact remark_queued u n

variable (hshape : u.shaped) (hqueue : u.queueOk)
include hshape hqueue

/-- The slot of an entry that is left stands. -/
theorem State.RoundTaken.left_stands {e : Entry} (he : e ∈ t.arbiter.queue) : t.head e.slot = u.head e.slot := by
  rw [h.arbiter] at he
  rcases (remark_round hshape hqueue).slots e.slot with ⟨hhead, -⟩ | ⟨f, -, hf, hnone, -⟩
  · exact (head_congr _ h.heads).trans hhead
  · have := mem_queued he rfl
    rw [← hf, hnone] at this
    simp at this

/-- The entries left carry the marks of R120. -/
theorem State.RoundTaken.left_marks {e : Entry} (he : e ∈ t.arbiter.queue) :
    e.deferred = true ↔ e.op = .drive ∧ t.committed e.slot < e.target ∧ t.consumerDeferred e.slot = true := by
  have committed : t.committed e.slot = u.committed e.slot := by
    rw [State.committed, State.committed, h.left_stands hshape hqueue he, h.fault]
  have deferred : t.consumerDeferred e.slot = u.consumerDeferred e.slot := by
    simp only [State.consumerDeferred, State.valveCfg, State.consumer, h.cfg, h.table]
  rw [committed, deferred]
  rw [h.arbiter] at he
  obtain ⟨f, -, rfl⟩ := List.mem_map.mp ((remark_round hshape hqueue).subset he)
  exact marked_deferred u f

/-- With a unit left free, no entry left may be granted (R118). -/
theorem State.RoundTaken.exhausts (hunits : t.unitsInUse < t.cfg.boiler.motorAllowance) {e : Entry}
    (he : e ∈ t.arbiter.queue) : ¬ t.mayRun e := by
  have units : t.unitsInUse = u.remark.grantRound.unitsInUse := by
    simp only [State.unitsInUse, State.runningSlots, State.head, h.heads]
  have cfg : t.cfg = u.remark.grantRound.cfg := by rw [h.cfg]; simp
  have fault : t.link.fault = u.remark.grantRound.link.fault := by rw [h.fault, grantRound_fault]; rfl
  have same := mayRun_congr e cfg h.heads fault (by rw [h.table]; simp) (by rw [h.boiler]; simp) (by rw [h.supply]; simp)
  have marks := h.left_marks hshape hqueue he
  have committed : t.committed e.slot = u.remark.grantRound.committed e.slot := by
    rw [State.committed, State.committed, head_congr _ h.heads, fault]
  have deferred : t.consumerDeferred e.slot = u.remark.grantRound.consumerDeferred e.slot := by
    simp only [State.consumerDeferred, State.valveCfg, State.consumer, h.cfg, h.table, grantRound_keeps]
    rfl
  rw [committed, deferred] at marks
  rw [same, ← eligible_iff marks, grantRound_exhausts (remark_slotted hshape hqueue) (by rw [← units]; exact h.cfg ▸ hunits)
    (h.arbiter ▸ he)]
  simp

/-- Each entry's slot stands, or the entry has been granted (R92, R119). -/
theorem State.RoundTaken.slot {e : Entry} (he : e ∈ u.arbiter.queue) :
    t.queued e.slot = u.queued e.slot ∨ u.granted t e := by
  rcases (remark_round hshape hqueue).slots e.slot with ⟨-, hqueued⟩ | ⟨f, hf, hslot, hg⟩
  · exact .inl (((queued_congr _ (congrArg _ h.arbiter)).trans hqueued).trans (remark_queued u e.slot))
  · obtain ⟨e', he', rfl⟩ := List.mem_map.mp hf
    have nodup := hqueue.1
    obtain rfl : e' = e := List.inj_on_of_nodup_map nodup he' he hslot
    exact .inr (h.granted hg)

/-- The entry that stands first in the grant order is granted (R118). -/
theorem State.RoundTaken.first {a b : List Entry} {e : Entry} (hab : u.arbiter.queue = a ++ e :: b)
    (hunits : u.unitsInUse < u.cfg.boiler.motorAllowance) (he : u.mayRun e)
    (ha : ∀ x ∈ a, u.mayRun x → e.cls.code < x.cls.code) (hb : ∀ x ∈ b, u.mayRun x → e.cls.code ≤ x.cls.code) :
    u.granted t e := by
  have eligible (x : Entry) : u.remark.eligible (u.marked x) = true ↔ u.mayRun x :=
    (eligible_iff (s := u.remark) (marked_deferred u x)).trans Iff.rfl
  have find : (grantOrder u.remark.arbiter.queue).find? u.remark.eligible = some (u.marked e) := by
    rw [remark_queue, hab, List.map_append, List.map_cons]
    refine grantOrder_find ((eligible e).mpr he) (fun x hx hp => ?_) fun x hx hp => ?_
    · obtain ⟨y, hy, rfl⟩ := List.mem_map.mp hx
      exact ha y hy ((eligible y).mp hp)
    · obtain ⟨y, hy, rfl⟩ := List.mem_map.mp hx
      exact hb y hy ((eligible y).mp hp)
  have first : u.remark.nextGrant = some (u.marked e) := (if_pos hunits).trans find
  exact h.granted (grantRound_grants (remark_slotted hshape hqueue) first)

end

/-! ## The supply back to OK (R101) -/

/-- The supply's record after the measurement that qualifies it. -/
def State.qualified (s : State) (v : Nat) : State :=
  s.setField { s.field with supplyLast := some v, supplyQual := s.field.supplyQual + 1, supplyOk := true }

theorem measureSupply_qualified {s : State} {v : Nat} (hlater : s.field.supplyLast ≠ none) (hok : s.field.supplyOk = false)
    (hv : 205 < v) (hqual : 99 ≤ s.field.supplyQual) : s.measureSupply v = s.qualified v := by
  rw [measureSupply_low hlater hok, FieldIO.qualify, if_pos hv]
  simp [State.qualified, State.measured, State.setField, hqual]

/-- The conditions of the boiler do not read the supply. -/
theorem qualified_boilerStays {s : State} (h : s.boilerStays) (v : Nat) : (s.qualified v).boilerStays := h

theorem qualified_shaped {s : State} (h : s.shaped) (v : Nat) : (s.qualified v).shaped :=
  shaped_of_kept h ((setField_sizes s _ rfl).trans (sizes_of_shaped h)) rfl rfl rfl

/-- A LOW supply that stays below 10 s of qualification, or reaches it (R101). -/
theorem measureSupply_counts {s : State} {v : Nat} (hlater : s.field.supplyLast ≠ none) (hok : s.field.supplyOk = false) :
    (v ≤ 205 → (s.measureSupply v).field.supplyOk = false ∧ (s.measureSupply v).field.supplyQual = 0) ∧
      (205 < v → (s.measureSupply v).field.supplyQual = s.field.supplyQual + 1 ∧
        (s.measureSupply v).field.supplyOk = decide (100 ≤ s.field.supplyQual + 1)) := by
  rw [measureSupply_low hlater hok]
  refine ⟨fun hv => ?_, fun hv => ?_⟩
  · simp [FieldIO.qualify, State.measured, hok, show ¬ 205 < v by omega]
  · simp [FieldIO.qualify, State.measured, hv]

/-! ## The trial capacity (R78) -/

/-- Capacity with the head as the entry would leave it. -/
theorem trialCapacity_eq {s : State} (hshape : s.shaped) (hfault : s.link.fault = false) {e : Entry} (h1 : 1 ≤ e.slot)
    (h32 : e.slot ≤ 32) : s.trialCapacity e = (s.setHead e.slot { s.head e.slot with
      state := .ready
      position := if e.op = .drive then min (s.committed e.slot) e.target else 0 }).capacity := by
  have committed : (s.setHead e.slot { s.head e.slot with
      state := .ready
      position := if e.op = .drive then min (s.committed e.slot) e.target else 0 }).committed =
      fun v => if v = e.slot then s.trialPosition e else s.committed v := by
    funext v
    by_cases hv : v = e.slot
    · subst hv
      rw [State.committed, head_setHead_same _ h1 (by rw [heads_length hshape]; exact h32), if_pos rfl, State.trialPosition]
      cases e.op <;> simp [State.setHead, hfault, Head.committed]
    · rw [State.committed, head_setHead_other _ _ hv, if_neg hv]; rfl
  rw [State.trialCapacity, State.capacity, State.rawSum, committed, rawSumWith_congr (s := s) (t := s.setHead _ _) rfl]

/-- Settles O35: each measurement by its case (`measured_firstLow`, `measured_stops`, `measureSupply_counts`); the one that
qualifies leaves the boiler, so its event takes one grant round (`settle_roundTaken`). -/
theorem supplyMeasurementJudgesTheSupply : Obligations.SupplyMeasurementJudgesTheSupply := by
  refine ⟨fun v c s ha hshape hc => ?_, fun v s ha hshape hqueue hstays hfault hlater hlow hv hqual => ?_,
    fun e s hshape hfault h1 h32 => trialCapacity_eq hshape hfault h1 h32⟩
  · obtain ⟨ok, qual, last⟩ := measured_supply s v
    refine ⟨_, exec_measures ha hc, state_ext, ?_, last, fun hfirst => ?_, fun hlater hok => ?_, fun hlater hlow => ?_⟩
    · exact portsKept_of_onlyRaises (settle_onlyRaises s (onlyRaises_mono (measureSupply_onlyRaises s v) (by simp)) (by simp))
    · rw [ok, qual]
      by_cases hv : 190 ≤ v
      · rw [measureSupply_firstOk hfirst hv]
        exact ⟨by simp [hv], fun h => absurd h (by omega)⟩
      · have hlow : v < 190 := by omega
        exact ⟨by simp [measureSupply_firstLow hfirst hlow, hv],
          fun _ => ⟨by simp [measureSupply_firstLow hfirst hlow], measured_firstLow hshape hlow hfirst⟩⟩
    · rw [ok, qual]
      by_cases hv : 190 ≤ v
      · rw [measureSupply_ok hlater hok hv]
        exact ⟨by simp [State.measured, hok, hv], fun h => absurd h (by omega)⟩
      · have hfails : v < 190 := by omega
        obtain ⟨raised, heads⟩ := measured_stops hshape hfails hlater hok
        refine ⟨by simp [measureSupply_stops hlater hok hfails, supplyStop_field, hv],
          fun _ => ⟨by simp [measureSupply_stops hlater hok hfails, supplyStop_field], raised, fun n h1 h32 hstate => ?_⟩⟩
        exact heads n (mem_runningSlots.mpr ⟨⟨h1, h32⟩, hstate⟩)
    · rw [ok, qual]
      exact measureSupply_counts hlater hlow
  · have effect := measureSupply_qualified hlater hlow hv hqual
    have taken : (s.qualified v).RoundTaken ((s.qualified v).settle s).endEvent :=
      (settle_roundTaken (qualified_boilerStays hstays v) rfl).endEvent
    have hshape' := qualified_shaped hshape v
    have hqueue' : (s.qualified v).queueOk := hqueue
    rw [exec_measures ha (.inl rfl), effect]
    generalize ((s.qualified v).settle s).endEvent = t at taken
    have back : t.field.supplyOk = true := taken.supply
    have reads (x : Entry) : { s with field := t.field }.mayRun x ↔ (s.qualified v).mayRun x :=
      mayRun_congr x rfl rfl rfl rfl rfl back
    refine ⟨t, rfl, back, taken.boiler, fun e he => taken.left_marks hshape' hqueue' he,
      fun e he => taken.slot hshape' hqueue' he, fun hunits e he => taken.exhausts hshape' hqueue' hunits he,
      fun hunits => taken.full hunits, fun a e b hab hunits he hbefore hafter => ?_⟩
    exact taken.first hshape' hqueue' hab hunits ((reads e).mp he) (fun x hx hx' => hbefore x hx ((reads x).mpr hx'))
      fun x hx hx' => hafter x hx ((reads x).mpr hx')

end Sys2Proof.Machine
end

section
/-! PROOF. The draft of a VALVE-SET, field code by field code (R82, R171; O36). -/

namespace Sys2Proof.Machine

/-! ## The list of pairs -/

/-- A later pair of a code stands over an earlier one (log 10). -/
theorem listed_cons (f : Nat × Int) (fields : List (Nat × Int)) (code : Nat) (held : Int) :
    listed (f :: fields) code held = listed fields code (if f.1 = code then f.2 else held) := by
  unfold listed
  rw [List.reverse_cons, List.find?_append]
  cases fields.reverse.find? (·.1 == code) with
  | some g => rfl
  | none => by_cases hf : f.1 = code <;> simp [hf]

/-! ## The values of a draft -/

/-- The zone and the flag of a ZONE. -/
def Role.zoneHeld : Role → Option Nat × Bool
  | .zone k dump => (some k, dump)
  | .unused | .cylinder | .sink => (none, false)

/-- A draft's settings in the order of their field codes, with zone and flag as a ZONE would take them. -/
def ValveDraft.values (d : ValveDraft) : List Int :=
  [d.role, ((d.zone.or d.cfg.role.zoneHeld.1).getD 0 : Nat), flagValue (d.dump.getD d.cfg.role.zoneHeld.2), d.cfg.weight,
    d.cfg.liftMin, d.cfg.liftMax, d.cfg.deadband, d.cfg.stroke]

theorem ValveCfg.values_eq (x : ValveCfg) : x.values =
    [(x.role.code : Int), (x.role.zoneHeld.1.getD 0 : Nat), flagValue x.role.zoneHeld.2, x.weight, x.liftMin, x.liftMax,
      x.deadband, x.stroke] := by
  rw [ValveCfg.values]; cases x.role <;> rfl

theorem natIn_eq {lo hi n : Nat} {v : Int} (h : natIn lo hi v = some n) : (n : Int) = v ∧ lo ≤ n ∧ n ≤ hi := by
  unfold natIn at h
  split at h
  · cases h; omega
  · cases h

theorem natIn_of_le {lo hi : Nat} {v : Int} (h1 : lo ≤ v) (h2 : v ≤ hi) : natIn lo hi v = some v.toNat := if_pos ⟨h1, h2⟩

theorem flagIn_eq {b : Bool} {v : Int} (h : flagIn v = some b) : flagValue b = v := by
  unfold flagIn at h
  repeat' split at h
  all_goals cases h
  all_goals simp_all [flagValue]

/-- What a pair writes: its value in its place, the held role aside (R171). -/
theorem ValveDraft.write_some {d d' : ValveDraft} {code : Nat} {f : ValveField} {v : Int}
    (hf : ValveField.ofCode code = some f) (h : d.write f v = some d') :
    d'.values = d.values.set (code - 1) v ∧ d'.cfg.role = d.cfg.role ∧ (1 ≤ code ∧ code ≤ 8) ∧
      (d.role ≤ 3 → d'.role ≤ 3) ∧ d'.zone.isSome = (d.zone.isSome || code == 2) ∧
      d'.dump.isSome = (d.dump.isSome || code == 3) := by
  unfold ValveField.ofCode at hf
  split at hf
  all_goals cases hf
  all_goals
    simp only [ValveDraft.write, Option.map_eq_some_iff] at h
    obtain ⟨n, hn, rfl⟩ := h
  case h_3 => simp [ValveDraft.values, ← flagIn_eq hn]
  all_goals
    obtain ⟨hv, hlo, hhi⟩ := natIn_eq hn
    simp [ValveDraft.values, ← hv, hhi]

theorem ValveDraft.values_length (d : ValveDraft) : d.values.length = 8 := rfl

/-- Each setting of the draft is the one listed, or the one it held (R171). -/
theorem ValveDraft.writeAll_some {d d' : ValveDraft} {fields : List (Nat × Int)} (h : d.writeAll fields = some d') :
    (∀ code, 1 ≤ code → code ≤ 8 → d'.values.getD (code - 1) 0 = listed fields code (d.values.getD (code - 1) 0)) ∧
      d'.cfg.role = d.cfg.role ∧ (d.role ≤ 3 → d'.role ≤ 3) ∧
      d'.zone.isSome = (d.zone.isSome || fields.any (·.1 == 2)) ∧ d'.dump.isSome = (d.dump.isSome || fields.any (·.1 == 3)) := by
  induction fields generalizing d with
  | nil => cases h; simp [listed]
  | cons f fields ih =>
    obtain ⟨c, v⟩ := f
    rw [ValveDraft.writeAll] at h
    cases hc : ValveField.ofCode c with
    | none => rw [hc] at h; cases h
    | some g =>
      rw [hc] at h
      obtain ⟨e, hw, he⟩ := Option.bind_eq_some_iff.mp h
      obtain ⟨values, role, ⟨hc1, hc8⟩, bound, zone, dump⟩ := write_some hc hw
      obtain ⟨ihvalues, ihrole, ihbound, ihzone, ihdump⟩ := ih he
      refine ⟨fun code h1 h8 => ?_, ihrole.trans role, fun hd => ihbound (bound hd), ?_, ?_⟩
      · rw [ihvalues code h1 h8, listed_cons, values]
        congr 1
        by_cases hcode : c = code
        · subst hcode
          rw [if_pos rfl, List.getD_eq_getElem?_getD, List.getElem?_set_self (by rw [values_length]; omega)]; rfl
        · rw [if_neg hcode, List.getD_eq_getElem?_getD, List.getElem?_set_ne (by omega), List.getD_eq_getElem?_getD]
      · rw [ihzone, zone, List.any_cons, Bool.or_assoc]
      · rw [ihdump, dump, List.any_cons, Bool.or_assoc]

/-- Every pair in range is taken. -/
theorem ValveDraft.writeAll_accepts {fields : List (Nat × Int)} (h : listsInRange valveRanges fields) (d : ValveDraft) :
    ∃ d', d.writeAll fields = some d' := by
  induction fields generalizing d with
  | nil => exact ⟨d, rfl⟩
  | cons f fields ih =>
    obtain ⟨c, v⟩ := f
    have taken : ∃ g, ValveField.ofCode c = some g ∧ ∃ e, d.write g v = some e := by
      obtain ⟨⟨code, lo, hi⟩, hr, rfl, hlo, hhi⟩ := h (c, v) (List.mem_cons_self ..)
      dsimp only at hlo hhi
      simp only [valveRanges, List.mem_cons, Prod.mk.injEq, List.not_mem_nil, or_false] at hr
      rcases hr with ⟨rfl, rfl, rfl⟩ | ⟨rfl, rfl, rfl⟩ | ⟨rfl, rfl, rfl⟩ | ⟨rfl, rfl, rfl⟩ | ⟨rfl, rfl, rfl⟩ | ⟨rfl, rfl, rfl⟩ |
        ⟨rfl, rfl, rfl⟩ | ⟨rfl, rfl, rfl⟩
      case inr.inr.inl =>
        have two : v = 1 ∨ v = 0 := by omega
        rcases two with rfl | rfl <;> exact ⟨_, rfl, _, rfl⟩
      all_goals exact ⟨_, rfl, _, by rw [ValveDraft.write, natIn_of_le hlo hhi]; rfl⟩
    obtain ⟨g, hg, e, he⟩ := taken
    obtain ⟨d', hd'⟩ := ih (fun f hf => h f (List.mem_cons_of_mem _ hf)) e
    exact ⟨d', by rw [ValveDraft.writeAll, hg]; simp [he, hd']⟩

/-- Pairs that are taken are of codes that VALVE-SET knows. -/
theorem ValveDraft.writeAll_known {d d' : ValveDraft} {fields : List (Nat × Int)} (h : d.writeAll fields = some d') :
    codesKnown ValveField.ofCode fields = true := by
  induction fields generalizing d with
  | nil => rfl
  | cons f fields ih =>
    obtain ⟨c, v⟩ := f
    rw [ValveDraft.writeAll] at h
    cases hc : ValveField.ofCode c with
    | none => rw [hc] at h; cases h
    | some g =>
      rw [hc] at h
      obtain ⟨e, -, he⟩ := Option.bind_eq_some_iff.mp h
      have rest := ih he
      simp only [codesKnown, List.all_cons, hc, Option.isSome_some, Bool.true_and] at rest ⊢
      exact rest

/-! ## The role of a draft -/

theorem ValveDraft.roleOf_some {d : ValveDraft} {r : Role} (h : d.roleOf = some r) : r.code = d.role ∧
    (r.code = 1 → r.zoneHeld = (d.zone.or d.cfg.role.zoneHeld.1, d.dump.getD d.cfg.role.zoneHeld.2)) := by
  unfold ValveDraft.roleOf at h
  split at h
  · next hrole =>
    rw [hrole]
    cases hheld : d.cfg.role with
    | zone j held =>
      rw [hheld] at h
      obtain ⟨k, hk, rfl⟩ := Option.map_eq_some_iff.mp h
      exact ⟨rfl, fun _ => by rw [Role.zoneHeld, Role.zoneHeld, ← hk]⟩
    | _ =>
      rw [hheld] at h
      obtain ⟨k, hk, rfl⟩ := Option.map_eq_some_iff.mp h
      exact ⟨rfl, fun _ => by rw [Role.zoneHeld, Role.zoneHeld, ← hk]⟩
  · next hrole => split at h <;> cases h; exact ⟨hrole.symm, fun h => by cases h⟩
  · next hrole => split at h <;> cases h; exact ⟨hrole.symm, fun h => by cases h⟩
  · next hrole => split at h <;> cases h; exact ⟨hrole.symm, fun h => by cases h⟩
  · cases h

theorem ValveDraft.roleOf_accepts {d : ValveDraft} (hrole : d.role ≤ 3)
    (hzone : d.role = 1 → (d.zone.or d.cfg.role.zoneHeld.1).isSome = true)
    (hother : d.role ≠ 1 → d.zone = none ∧ d.dump = none) : ∃ r, d.roleOf = some r := by
  have cases4 : d.role = 0 ∨ d.role = 1 ∨ d.role = 2 ∨ d.role = 3 := by omega
  unfold ValveDraft.roleOf
  rcases cases4 with h | h | h | h <;> rw [h]
  · obtain ⟨hz, hd⟩ := hother (by omega)
    simp [hz, hd]
  · have some_zone := hzone h
    cases hheld : d.cfg.role <;> rw [hheld] at some_zone <;> obtain ⟨k, hk⟩ := Option.isSome_iff_exists.mp some_zone <;>
      simp only [Role.zoneHeld] at hk <;> exact ⟨_, by simp only [hk]; rfl⟩
  · obtain ⟨hz, hd⟩ := hother (by omega)
    simp [hz, hd]
  · obtain ⟨hz, hd⟩ := hother (by omega)
    simp [hz, hd]

/-! ## The configuration of a draft (R82) -/

/-- The draft that a VALVE-SET starts from. -/
def ValveCfg.draft (x : ValveCfg) : ValveDraft := ⟨x, x.role.code, none, none⟩

theorem ValveCfg.draft_values (x : ValveCfg) : x.draft.values = x.values := by
  rw [ValveCfg.values_eq]; rfl

theorem valveDraft_some {x cfg : ValveCfg} {fields : List (Nat × Int)} (h : valveDraft x fields = some cfg) :
    ∃ d r, x.draft.writeAll fields = some d ∧ d.roleOf = some r ∧ d.cfg.liftMin < d.cfg.liftMax ∧
      cfg = { d.cfg with role := r } := by
  obtain ⟨d, hd, h⟩ := Option.bind_eq_some_iff.mp h
  obtain ⟨r, hr, h⟩ := Option.bind_eq_some_iff.mp h
  split at h
  · next hlift => exact ⟨d, r, hd, hr, hlift, (Option.some.inj h).symm⟩
  · cases h

theorem valveDraft_known {x cfg : ValveCfg} {fields : List (Nat × Int)} (h : valveDraft x fields = some cfg) :
    codesKnown ValveField.ofCode fields = true := by
  obtain ⟨d, r, hd, -⟩ := valveDraft_some h
  exact ValveDraft.writeAll_known hd

/-- Each setting is the one listed, or the one held (R82, R171). -/
theorem valveDraft_values {x cfg : ValveCfg} {fields : List (Nat × Int)} (h : valveDraft x fields = some cfg) {code : Nat}
    (h1 : 1 ≤ code) (h8 : code ≤ 8) (hzone : cfg.role.code = 1 ∨ (code ≠ 2 ∧ code ≠ 3)) :
    cfg.values.getD (code - 1) 0 = listed fields code (x.values.getD (code - 1) 0) := by
  obtain ⟨d, r, hd, hr, -, rfl⟩ := valveDraft_some h
  obtain ⟨values, -⟩ := ValveDraft.writeAll_some hd
  obtain ⟨hcode, hheld⟩ := ValveDraft.roleOf_some hr
  rw [← ValveCfg.draft_values x, ← values code h1 h8, ValveCfg.values_eq, ValveDraft.values]
  rcases hzone with hone | ⟨h2, h3⟩
  · dsimp only at hone
    simp only [hcode, hheld hone]
  · obtain rfl | rfl | rfl | rfl | rfl | rfl : code = 1 ∨ code = 4 ∨ code = 5 ∨ code = 6 ∨ code = 7 ∨ code = 8 := by omega
    all_goals simp [hcode]

/-- A request that keeps the ranges, the order of the lifts and the zone of a ZONE is accepted (R82). -/
theorem valveDraft_accepts {x : ValveCfg} {fields : List (Nat × Int)} (hrange : listsInRange valveRanges fields)
    (hlift : listed fields 5 x.liftMin < listed fields 6 x.liftMax)
    (hzone : if listed fields 1 x.role.code = 1 then x.role.code = 1 ∨ ∃ f ∈ fields, f.1 = 2
      else ∀ f ∈ fields, f.1 ≠ 2 ∧ f.1 ≠ 3) : ∃ cfg, valveDraft x fields = some cfg := by
  obtain ⟨d, hd⟩ := ValveDraft.writeAll_accepts hrange x.draft
  obtain ⟨values, hheld, hbound, zone, dump⟩ := ValveDraft.writeAll_some hd
  have role : (d.role : Int) = listed fields 1 x.role.code := values 1 (by omega) (by omega)
  have low : (d.cfg.liftMin : Int) = listed fields 5 x.liftMin := values 5 (by omega) (by omega)
  have high : (d.cfg.liftMax : Int) = listed fields 6 x.liftMax := values 6 (by omega) (by omega)
  have ordered : d.cfg.liftMin < d.cfg.liftMax := by omega
  rw [← role] at hzone
  have accepted : ∃ r, d.roleOf = some r := by
    refine ValveDraft.roleOf_accepts (hbound (by cases hr : x.role <;> simp [ValveCfg.draft, hr, Role.code])) (fun hone => ?_)
      fun hone => ?_
    · rw [if_pos (by omega)] at hzone
      rcases hzone with hx | ⟨f, hf, hcode⟩
      · have held : x.role.zoneHeld.1.isSome = true := by cases hr : x.role <;> rw [hr] at hx <;> simp_all [Role.code, Role.zoneHeld]
        rw [hheld, Option.isSome_or, show x.draft.cfg = x from rfl, held, Bool.or_true]
      · rw [Option.isSome_or, zone, List.any_eq_true.mpr ⟨f, hf, by simpa using hcode⟩]; simp
    · rw [if_neg (by omega)] at hzone
      have no_zone : fields.any (·.1 == 2) = false := by
        rw [List.any_eq_false]; exact fun f hf => by simpa using (hzone f hf).1
      have no_dump : fields.any (·.1 == 3) = false := by
        rw [List.any_eq_false]; exact fun f hf => by simpa using (hzone f hf).2
      rw [no_zone] at zone
      rw [no_dump] at dump
      exact ⟨by simpa [ValveCfg.draft] using zone, by simpa [ValveCfg.draft] using dump⟩
  obtain ⟨r, hr⟩ := accepted
  have whole : valveDraft x fields = (x.draft.writeAll fields).bind fun d =>
      d.roleOf.bind fun r => if d.cfg.liftMin < d.cfg.liftMax then some { d.cfg with role := r } else none := rfl
  exact ⟨_, by rw [whole, hd, Option.bind_some, hr, Option.bind_some, if_pos ordered]⟩

end Sys2Proof.Machine
end

section
/-! PROOF. A wanted target and its cause, kept through settling (R106 to R109; O36). -/

namespace Sys2Proof.Machine

/-- Slot `v` wants what its cause asks for (R106). -/
def State.targetFormed (s : State) (v : Nat) : Prop := s.wantedOf v = s.formTarget v

theorem formTarget_wantedBy (s : State) (v : Nat) : s.formTarget v = s.wantedBy (s.valveCfg v) := by
  rw [State.formTarget, State.wantedBy]
  cases (s.valveCfg v).role with
  | zone k dump => cases s.boiler.heatDump <;> cases dump <;> rfl
  | _ => rfl

/-- What a cause reads. -/
theorem formTarget_congr {s t : State} {v : Nat} (hcfg : t.cfg = s.cfg) (hdump : t.boiler.heatDump = s.boiler.heatDump)
    (hzones : t.zones = s.zones)
    (hheat : (s.valveCfg v).role = .cylinder → (t.consumer channelW).heatAvailable = (s.consumer channelW).heatAvailable)
    (hsink : (s.valveCfg v).role = .sink → t.arbiter.sinkOpen = s.arbiter.sinkOpen) : t.formTarget v = s.formTarget v := by
  have valve : t.valveCfg v = s.valveCfg v := by rw [State.valveCfg, State.valveCfg, hcfg]
  rw [State.formTarget, State.formTarget, valve]
  cases hrole : (s.valveCfg v).role with
  | unused => simp
  | zone k dump => simp [hdump, State.zone, hzones]
  | cylinder => simp [hheat hrole]
  | sink => simp [hsink hrole]

theorem targetFormed_congr {s t : State} {v : Nat} (h : s.targetFormed v)
    (hwanted : t.arbiter.wanted = s.arbiter.wanted := by simp) (hcfg : t.cfg = s.cfg := by simp)
    (hdump : t.boiler.heatDump = s.boiler.heatDump := by simp) (hzones : t.zones = s.zones := by simp)
    (hheat : (s.valveCfg v).role = .cylinder → (t.consumer channelW).heatAvailable = (s.consumer channelW).heatAvailable :=
      by simp [State.consumer])
    (hsink : (s.valveCfg v).role = .sink → t.arbiter.sinkOpen = s.arbiter.sinkOpen := by simp) : t.targetFormed v := by
  rw [State.targetFormed, State.wantedOf, hwanted, formTarget_congr hcfg hdump hzones hheat hsink]
  exact h

theorem offer_sinkOpen (s : State) (v : Nat) : (s.offer v).arbiter.sinkOpen = s.arbiter.sinkOpen := by
  rcases offer_cases s v with heq | ⟨-, heq | ⟨w, -, heq⟩⟩ <;> rw [heq]
  · unfold State.dropRegulated; repeat' split
    all_goals rfl
  · unfold State.joinDrive; split <;> rfl

theorem formAndOffer_sinkOpen (s : State) (v : Nat) : (s.formAndOffer v).arbiter.sinkOpen = s.arbiter.sinkOpen :=
  offer_sinkOpen _ v

theorem formAndOffer_formTarget (s : State) (w v : Nat) : (s.formAndOffer w).formTarget v = s.formTarget v :=
  formTarget_congr (by simp) (by simp) (by simp) (fun _ => by simp [State.consumer]) fun _ => formAndOffer_sinkOpen s w

section
variable {v : Nat} (h1 : 1 ≤ v)
include h1

theorem formAndOffer_formed {s : State} (h2 : v ≤ s.arbiter.wanted.length) : (s.formAndOffer v).targetFormed v := by
  rw [State.targetFormed, formAndOffer_formTarget, State.wantedOf, State.formAndOffer, offer_wanted]
  exact item_setItem_same _ _ _ _ h1 h2

/-- The table judged, before a change of heat-available reaches the CYLINDER slots (R70, R71). -/
def State.tableJudged (s : State) : State := s.setTable (s.table.judged s.boiler.state.warm)

/-- Forming these slots' targets forms each of them, and keeps those that are formed. -/
theorem formAll_formed {vs : List Nat} {s : State} (h2 : v ≤ s.arbiter.wanted.length) (h : v ∈ vs ∨ s.targetFormed v) :
    (s.formAll vs).targetFormed v := by
  induction vs generalizing s with
  | nil => exact h.resolve_left (by simp)
  | cons w vs ih =>
    refine ih (s := s.formAndOffer w) (by rw [formAndOffer_wanted_length]; exact h2) ?_
    by_cases hw : v = w
    · subst hw; exact .inr (formAndOffer_formed h1 h2)
    · refine h.imp (fun hv => (List.mem_cons.mp hv).resolve_left hw) fun hs => ?_
      rw [State.targetFormed, formAndOffer_wantedOf_other _ _ _ hw, formAndOffer_formTarget]; exact hs

/-- A formed target is formed at the end of settling: where heat-available or sink-open changes, the slots it is a cause of
are formed anew (R108, R109). -/
theorem targetFormed_keeps (h32 : v ≤ 32) :
    SettlingKeeps fun t => t.arbiter.wanted.length = 32 ∧ t.targetFormed v where
  boiler s b hb := fun ⟨hlen, hs⟩ => ⟨hlen, targetFormed_congr hs rfl rfl hb rfl (fun _ => rfl) fun _ => rfl⟩
  relays s o r b p := fun ⟨hlen, hs⟩ => ⟨hlen, hs⟩
  raises s c o _ := fun ⟨hlen, hs⟩ => ⟨by simpa using hlen, targetFormed_congr hs⟩
  table s := fun ⟨hlen, hs⟩ => by
    have hin : v ≤ s.tableJudged.arbiter.wanted.length := le_of_le_of_eq h32 hlen.symm
    have other (h : (s.valveCfg v).role = .cylinder →
        (s.tableJudged.consumer channelW).heatAvailable = (s.consumer channelW).heatAvailable) : s.tableJudged.targetFormed v :=
      targetFormed_congr hs rfl rfl rfl rfl h fun _ => rfl
    unfold State.judgeTable
    dsimp only
    split
    · next heat => exact ⟨hlen, other fun _ => heat⟩
    · refine ⟨(formAll_wanted_length _ _).trans hlen, formAll_formed h1 hin ?_⟩
      by_cases hrole : (s.valveCfg v).role = .cylinder
      · exact .inl (List.mem_filter.mpr ⟨(mem_numbers 32 v).mpr ⟨h1, h32⟩, beq_iff_eq.mpr hrole⟩)
      · exact .inr (other fun h => absurd h hrole)
  sinks s b := fun ⟨hlen, hs⟩ => by
    have hin : v ≤ (s.setArbiter { s.arbiter with sinkOpen := b }).arbiter.wanted.length := le_of_le_of_eq h32 hlen.symm
    unfold State.setSinkOpen
    split
    · exact ⟨hlen, hs⟩
    · refine ⟨(formAll_wanted_length _ _).trans hlen, formAll_formed h1 hin ?_⟩
      by_cases hrole : (s.valveCfg v).role = .sink
      · exact .inl (List.mem_filter.mpr ⟨(mem_numbers 32 v).mpr ⟨h1, h32⟩, beq_iff_eq.mpr hrole⟩)
      · exact .inr (targetFormed_congr hs rfl rfl rfl rfl (fun _ => rfl) fun h => absurd h hrole)
  marks s := fun ⟨hlen, hs⟩ => ⟨hlen, targetFormed_congr hs rfl (hsink := fun _ => rfl)⟩
  grant s e := fun ⟨hlen, hs⟩ _ => ⟨hlen, targetFormed_congr hs rfl (hsink := fun _ => rfl)⟩
  transaction s := fun ⟨hlen, hs⟩ => ⟨by simpa using hlen, targetFormed_congr hs⟩

theorem settle_targetFormed {u : State} (before : State) (h32 : v ≤ 32) (hlen : u.arbiter.wanted.length = 32)
    (h : u.targetFormed v) : (u.settle before).targetFormed v :=
  ((targetFormed_keeps h1 h32).settle before ⟨hlen, h⟩).2

end

end Sys2Proof.Machine
end

section
/-! PROOF. VALVE-SET and VALVE-HOME (R82, R83, R97; O36). -/

namespace Sys2Proof.Machine

/-! ## The work of VALVE-SET -/

/-- A slot given its configuration, with the effects of its role, before the plant settles. -/
def State.valveGiven (s : State) (v : Nat) (cfg : ValveCfg) : State :=
  (s.setValveCfg v cfg).roleEffects v (s.valveCfg v).role cfg.role

theorem valveSetWork_held {s : State} {v : Nat} {fields : List (Nat × Int)} (h1 : 1 ≤ v) (h32 : v ≤ 32)
    (h : valveDraft (s.valveCfg v) fields = some (s.valveCfg v)) : valveSetWork v fields s = (s, .done {} []) := by
  rw [valveSetWork, if_neg (by simp [isSlot, h1, h32]), h]
  exact if_pos rfl

theorem valveSetWork_given {s : State} {v : Nat} {fields : List (Nat × Int)} {cfg : ValveCfg} (h1 : 1 ≤ v) (h32 : v ≤ 32)
    (h : valveDraft (s.valveCfg v) fields = some cfg) (hne : cfg ≠ s.valveCfg v) :
    valveSetWork v fields s = ((s.valveGiven v cfg).settle s, .done {} []) := by
  rw [valveSetWork, if_neg (by simp [isSlot, h1, h32]), h]
  exact if_neg hne

section
variable {s : State} {v : Nat} {cfg : ValveCfg}

theorem valveGiven_cfg (s : State) (v : Nat) (cfg : ValveCfg) :
    (s.valveGiven v cfg).cfg = { s.cfg with valves := setItem s.cfg.valves v cfg } := by
  simp [State.valveGiven, State.setValveCfg]

theorem valveGiven_valveCfg (hshape : s.shaped) (h1 : 1 ≤ v) (h32 : v ≤ 32) : (s.valveGiven v cfg).valveCfg v = cfg := by
  rw [State.valveCfg, valveGiven_cfg]
  exact item_setItem_same _ _ _ _ h1 (by rw [cfg_valves_length hshape]; exact h32)

/-- The slot leaves use: nothing waits for it, and it wants nothing (R83). -/
theorem valveGiven_unused (hused : (s.valveCfg v).role ≠ .unused) (hnew : cfg.role = .unused) : s.valveGiven v cfg =
    (((s.setValveCfg v cfg).removeEntry v).setHead v { s.head v with retryDue := none }).setWanted v none := by
  have other : (s.valveCfg v).role.sameAssignment cfg.role = false := by
    rw [hnew]; cases hr : (s.valveCfg v).role <;> simp_all [Role.sameAssignment]
  rw [State.valveGiven, State.roleEffects, other, if_neg (by simp), if_pos hnew]
  rfl

/-- The slot comes into use (R83). -/
theorem valveGiven_enlisted (hunused : (s.valveCfg v).role = .unused) (hnew : cfg.role ≠ .unused) : s.valveGiven v cfg =
    ((s.setValveCfg v cfg).setHead v (s.head v).enlisted).formAndOffer v := by
  have other : (s.valveCfg v).role.sameAssignment cfg.role = false := by
    rw [hunused]; cases hr : cfg.role <;> simp_all [Role.sameAssignment]
  rw [State.valveGiven, State.roleEffects, other, if_neg (by simp), if_neg hnew, if_pos hunused]
  rfl

/-- The slot in use gets another assignment (R83). -/
theorem valveGiven_reassigned (hused : (s.valveCfg v).role ≠ .unused) (hnew : cfg.role ≠ .unused)
    (hother : (s.valveCfg v).role.sameAssignment cfg.role = false) :
    s.valveGiven v cfg = ((s.setValveCfg v cfg).reassignEntry v).formAndOffer v := by
  rw [State.valveGiven, State.roleEffects, hother, if_neg (by simp), if_neg hnew, if_neg hused]

end

/-- The entry that a slot's orders show. -/
theorem entryOf_of_queued {s : State} {v : Nat} {e : Entry} (h : s.queued v = [e]) :
    ∃ f, s.entryOf v = some f ∧ f.unmarked = e := by
  obtain ⟨f, hf⟩ := Option.ne_none_iff_exists'.mp fun hnone => by
    rw [(entryOf_none_iff s v).mp hnone] at h; cases h
  have waits := mem_queued (List.mem_of_find?_eq_some hf) (by simpa using List.find?_some hf)
  rw [h] at waits
  exact ⟨f, hf, List.mem_singleton.mp waits⟩

/-- A HOME that waited waits again after the reassignment, where homing is still taken (R83, R114). -/
theorem reassignEntry_waits {s : State} {v : Nat} {e : Entry} (h : s.queued v = [e]) (hop : e.op = .home)
    (hused : s.used v = true) (habsent : (s.head v).state ≠ .absent) (hhoming : (s.head v).state ≠ .homing) :
    (s.reassignEntry v).homeWaits v := by
  obtain ⟨f, hf, rfl⟩ := entryOf_of_queued h
  have effect : s.reassignEntry v = (s.removeEntry v).requestHoming v := by
    rw [State.reassignEntry, hf]; exact if_pos hop
  rw [effect]
  exact requestHoming_waits (s := s.removeEntry v) hused habsent hhoming

/-! ## The slot at the end of an accepted VALVE-SET -/

section
variable {s : State} {v : Nat} {cfg : ValveCfg} (hshape : s.shaped) (h1 : 1 ≤ v) (h32 : v ≤ 32) (main service : PortState)
include hshape h1 h32

theorem valveGiven_slotSettles :
    (s.valveGiven v cfg).SlotSettles { (s.valveGiven v cfg).settle s with main, service } v := by
  have sizes : (s.valveGiven v cfg).sizes = s.sizes := by simp [State.valveGiven]
  have length : (s.valveGiven v cfg).heads.length = 32 := (congrArg (·.2.2.2.1) sizes).trans (heads_length hshape)
  exact replied_slotSettles _ _ main service h1 (length ▸ h32)

/-- A slot made UNUSED has no entry, no wanted target and no retry due (R83). -/
theorem valveGiven_leaves (hused : (s.valveCfg v).role ≠ .unused) (hnew : cfg.role = .unused) :
    ((s.valveGiven v cfg).settle s).queued v = [] ∧ ((s.valveGiven v cfg).settle s).wantedOf v = none ∧
      (((s.valveGiven v cfg).settle s).head v).retryDue = none := by
  have settles : (s.valveGiven v cfg).SlotSettles ((s.valveGiven v cfg).settle s) v :=
    valveGiven_slotSettles hshape h1 h32 _ _
  have slots : v ≤ s.arbiter.wanted.length := wanted_length hshape ▸ h32
  have role : ¬ ((s.valveGiven v cfg).valveCfg v).role.plant := by
    rw [valveGiven_valveCfg hshape h1 h32, hnew]; rintro (h | h) <;> cases h
  obtain ⟨wanted, queued⟩ := settle_plain s role
  have effect := valveGiven_unused hused hnew (s := s)
  have empty : (s.valveGiven v cfg).queued v = [] := by rw [effect]; exact queued_removeEntry_same (s.setValveCfg v cfg) v
  have none_wanted : (s.valveGiven v cfg).wantedOf v = none := by
    rw [effect]; exact item_setItem_same _ _ _ _ h1 slots
  have head : (s.valveGiven v cfg).head v = { s.head v with retryDue := none } := by
    rw [effect]; exact head_setHead_same (s := (s.setValveCfg v cfg).removeEntry v) _ h1 (heads_length hshape ▸ h32)
  refine ⟨?_, wanted.trans none_wanted, ?_⟩
  · rcases queued with h | ⟨-, h⟩
    · exact h.trans empty
    · exact h
  · rcases settles.outcome with stands | ⟨e, granted⟩
    · rw [stands.head, head]
    · rw [granted.head]; rfl

/-- A new assignment forms the wanted target from its cause (R83, R106). -/
theorem valveGiven_formed (hnew : cfg.role ≠ .unused) (hother : (s.valveCfg v).role.sameAssignment cfg.role = false) :
    ((s.valveGiven v cfg).settle s).wantedOf v = ((s.valveGiven v cfg).settle s).wantedBy cfg := by
  have slots : v ≤ s.arbiter.wanted.length := wanted_length hshape ▸ h32
  have formed : (s.valveGiven v cfg).targetFormed v := by
    by_cases hunused : (s.valveCfg v).role = .unused
    · rw [valveGiven_enlisted hunused hnew]
      exact formAndOffer_formed h1 slots
    · rw [valveGiven_reassigned hunused hnew hother]
      exact formAndOffer_formed h1 (slots.trans_eq (congrArg (·.2.2.2.2.1) (reassignEntry_sizes (s.setValveCfg v cfg) v)).symm)
  have length : (s.valveGiven v cfg).arbiter.wanted.length = 32 := by
    have sizes : (s.valveGiven v cfg).sizes = s.sizes := by simp [State.valveGiven]
    exact (congrArg (·.2.2.2.2.1) sizes).trans (wanted_length hshape)
  have settled := settle_targetFormed h1 s h32 length formed
  have same : ((s.valveGiven v cfg).settle s).valveCfg v = cfg := by
    rw [State.valveCfg, show ((s.valveGiven v cfg).settle s).cfg = (s.valveGiven v cfg).cfg by simp]; exact valveGiven_valveCfg hshape h1 h32
  rw [settled, formTarget_wantedBy, same]

/-- A slot that comes into use has counts 0; it is UNKNOWN unless its head runs (R83). -/
theorem valveGiven_enlists (hunused : (s.valveCfg v).role = .unused) (hnew : cfg.role ≠ .unused) :
    (((s.valveGiven v cfg).settle s).head v).misses = 0 ∧ (((s.valveGiven v cfg).settle s).head v).retries = 0 ∧
      (s.queued v = [] →
        if (s.head v).state = .moving ∨ (s.head v).state = .homing then
          (((s.valveGiven v cfg).settle s).head v).state = (s.head v).state
        else ((s.valveGiven v cfg).settle s).head v =
          { s.head v with state := .unknown, move := none, misses := 0, retries := 0, retryDue := none }) := by
  have settles : (s.valveGiven v cfg).SlotSettles ((s.valveGiven v cfg).settle s) v :=
    valveGiven_slotSettles hshape h1 h32 _ _
  have effect := valveGiven_enlisted hunused hnew (s := s)
  have head : (s.valveGiven v cfg).head v = (s.head v).enlisted := by
    rw [effect]
    exact (head_congr (s := (s.setValveCfg v cfg).setHead v (s.head v).enlisted) v).trans
      (head_setHead_same (s := s.setValveCfg v cfg) _ h1 (heads_length hshape ▸ h32))
  have counts : (s.head v).enlisted.misses = 0 ∧ (s.head v).enlisted.retries = 0 := by
    unfold Head.enlisted; split <;> exact ⟨rfl, rfl⟩
  refine ⟨?_, ?_, fun hnone => ?_⟩
  · rw [settles.reported, head]; exact counts.1
  · rw [settles.reported, head]; exact counts.2
  · split
    · next hruns =>
      have running : (s.head v).enlisted = { s.head v with misses := 0, retries := 0 } :=
        if_pos (by rcases hruns with h | h <;> simp [Head.running, h])
      have stands := settles.stands fun op => by
        rw [head, running]; rcases hruns with h | h <;> cases op <;> simp [headTakes, h]
      rw [stands.head, head, running]
    · next hstill =>
      have still : (s.head v).enlisted =
          { s.head v with state := .unknown, move := none, misses := 0, retries := 0, retryDue := none } :=
        if_neg (by simpa [Head.running] using hstill)
      rcases settles.outcome with stands | ⟨e, granted⟩
      · rw [stands.head, head, still]
      · obtain ⟨n, hn⟩ := granted.home (granted.home_of_stalled (.inr (by rw [head, still])))
        rw [effect] at hn
        have waited : (MoveOp.home, n) ∈ s.orders v :=
          formAll_home (s := (s.setValveCfg v cfg).setHead v (s.head v).enlisted) [v] hn
        rw [State.orders, hnone] at waited
        cases waited

/-- A homing that waited is asked for again, whatever the new assignment (R83). -/
theorem valveGiven_homes {e : Entry} (hused : (s.valveCfg v).role ≠ .unused) (hnew : cfg.role ≠ .unused)
    (hother : (s.valveCfg v).role.sameAssignment cfg.role = false) (he : s.queued v = [e]) (hop : e.op = .home)
    (habsent : (s.head v).state ≠ .absent) : (((s.valveGiven v cfg).settle s).head v).state = .homing ∨
      ∃ e ∈ ((s.valveGiven v cfg).settle s).queued v, e.op = .home := by
  have settles : (s.valveGiven v cfg).SlotSettles ((s.valveGiven v cfg).settle s) v :=
    valveGiven_slotSettles hshape h1 h32 _ _
  have effect := valveGiven_reassigned hused hnew hother
  have head : (s.valveGiven v cfg).head v = s.head v := by
    rw [effect]; exact head_congr v
  by_cases hhoming : (s.head v).state = .homing
  · have stands := settles.stands fun op => by rw [head, hhoming]; cases op <;> rfl
    exact .inl (by rw [stands.head, head, hhoming])
  · have inUse : (s.setValveCfg v cfg).used v = true := by
      have valve : (s.setValveCfg v cfg).valveCfg v = cfg :=
        item_setItem_same _ _ _ _ h1 (cfg_valves_length hshape ▸ h32)
      rw [State.used, valve]; simpa using hnew
    have again := reassignEntry_waits (s := s.setValveCfg v cfg) he hop inUse habsent hhoming
    have waits : (s.valveGiven v cfg).homeWaits v := by
      rw [effect]; exact homeWaits_of_orders again (formAndOffer_homeWaits v again)
    rcases settles.outcome with stands | ⟨f, granted⟩
    · obtain ⟨g, hg, hslot, hhome⟩ := (homeWaits_of_orders waits (stands.waits waits)).exists_home
      exact .inr ⟨g.unmarked, mem_queued hg hslot, hhome⟩
    · exact .inl (by rw [granted.state, granted.waits waits]; rfl)

end

end Sys2Proof.Machine
end

section
/-! PROOF. The requests VALVE-SET and VALVE-HOME answered (R82, R83, R97, R112, R114; O36). -/

namespace Sys2Proof.Machine

/-! ## VALVE-SET -/

theorem sameAssignment_self (r : Role) : r.sameAssignment r = true := by cases r <;> simp [Role.sameAssignment]

theorem met_valveCfg (s : State) (p : Port) (v : Nat) : (s.met p).valveCfg v = s.valveCfg v := by simp [State.valveCfg]

section
variable {p : Port} {s : State} {v : Nat} {fields : List (Nat × Int)} {cfg : ValveCfg} (h : s.takes p)
  (hwrite : s.storeWriting = false) (h1 : 1 ≤ v) (h32 : v ≤ 32) (hdraft : valveDraft (s.valveCfg v) fields = some cfg)
include h hwrite h1 h32 hdraft

/-- The values held already change nothing (R82). -/
theorem valveSet_held (hsame : cfg = s.valveCfg v) : ∃ t, exec (.valveSet p v fields) s = .next t ∧
    s.replied t p 0x20 (.done {} []) [.boiler, .capacity, .sink] ∧ s.onlyReplied t p := by
  have hwork : valveSetWork v fields (s.met p) = (s.met p, .done {} []) := by
    refine valveSetWork_held h1 h32 ?_
    rw [met_valveCfg, hdraft, hsame]
  have hknown := valveDraft_known hdraft
  obtain ⟨main, service, hend, hreplied, -⟩ := requestEvent_form (r := valveSetRequest v fields) h hwork
    (onlyRaises_refl (s.met p) [.boiler, .capacity, .sink]) hknown fun _ => hwrite
  obtain ⟨-, honly⟩ := requestEvent_refused p (valveSetRequest v fields) s _ h hknown (fun _ => hwrite) hwork
  exact ⟨_, rfl, hend ▸ hreplied, honly⟩

/-- Another configuration is given to the slot, and the plant settles (R82, R83). -/
theorem valveSet_given (hne : cfg ≠ s.valveCfg v) : ∃ main service,
    exec (.valveSet p v fields) s = .next { ((s.met p).valveGiven v cfg).settle (s.met p) with main, service } ∧
    s.replied { ((s.met p).valveGiven v cfg).settle (s.met p) with main, service } p 0x20 (.done {} [])
      [.boiler, .capacity, .sink] := by
  have hwork := valveSetWork_given (s := s.met p) h1 h32 (by rw [met_valveCfg]; exact hdraft)
    (by rw [met_valveCfg]; exact hne)
  have hports : (s.met p).onlyRaises (((s.met p).valveGiven v cfg).settle (s.met p)) [.boiler, .capacity, .sink] :=
    onlyRaises_trans (t := (s.met p).valveGiven v cfg)
      (onlyRaises_of_ports _ (by simp [State.valveGiven]) (by simp [State.valveGiven])) (settle_settlesTo _ _).ports
  obtain ⟨main, service, hend, hreplied, -⟩ := requestEvent_form (r := valveSetRequest v fields) h hwork hports
    (valveDraft_known hdraft) fun _ => hwrite
  exact ⟨main, service, congrArg Host.Outcome.next hend, hreplied⟩

end

/-! ## VALVE-HOME -/

/-- A slot asked to home by the service: counts and retry due go (R97). -/
def State.homingAsked (s : State) (v : Nat) : State :=
  (s.setHead v { s.head v with retries := 0, retryDue := none }).requestHoming v

theorem valveHomeWork_asked {s : State} {v : Nat} (h1 : 1 ≤ v) (h32 : v ≤ 32) (hused : s.used v = true)
    (habsent : (s.head v).state ≠ .absent) : valveHomeWork v s = ((s.homingAsked v).settle s, .done {} []) :=
  (if_neg (by simp [isSlot, h1, h32])).trans (if_neg (by simp [hused, habsent]))

theorem valveHomeWork_state {s : State} {v : Nat} (h1 : 1 ≤ v) (h32 : v ≤ 32)
    (h : s.used v = false ∨ (s.head v).state = .absent) : valveHomeWork v s = (s, .refused .state) :=
  (if_neg (by simp [isSlot, h1, h32])).trans (if_pos (by simpa using h))

theorem valveHomeWork_range {s : State} {v : Nat} (h : v = 0 ∨ 32 < v) : valveHomeWork v s = (s, .refused .range) :=
  if_pos (by simp [isSlot]; omega)

theorem valveHome_asked {p : Port} {s : State} {v : Nat} (h : s.takes p) (h1 : 1 ≤ v) (h32 : v ≤ 32)
    (hused : s.used v = true) (habsent : (s.head v).state ≠ .absent) : ∃ main service,
    exec (.valveHome p v) s = .next { ((s.met p).homingAsked v).settle (s.met p) with main, service } ∧
    s.replied { ((s.met p).homingAsked v).settle (s.met p) with main, service } p 0x22 (.done {} [])
      [.boiler, .capacity, .sink] := by
  have hwork := valveHomeWork_asked (s := s.met p) h1 h32 (by simpa [State.used, State.valveCfg] using hused)
    (by simpa [State.head] using habsent)
  have hports : (s.met p).onlyRaises (((s.met p).homingAsked v).settle (s.met p)) [.boiler, .capacity, .sink] :=
    onlyRaises_trans (t := (s.met p).homingAsked v)
      (onlyRaises_of_ports _ (by simp [State.homingAsked]) (by simp [State.homingAsked])) (settle_settlesTo _ _).ports
  obtain ⟨main, service, hend, hreplied, -⟩ := requestEvent_form (r := valveHomeRequest v) h hwork hports rfl
    (by simp [valveHomeRequest])
  exact ⟨main, service, congrArg Host.Outcome.next hend, hreplied⟩

section
variable {s : State} {v : Nat} (hshape : s.shaped) (h1 : 1 ≤ v) (h32 : v ≤ 32)
include hshape h1 h32

theorem homingAsked_head : (s.homingAsked v).head v = { s.head v with retries := 0, retryDue := none } :=
  (head_congr (s := s.setHead v _) v (by simp [State.homingAsked])).trans (head_setHead_same _ h1 (heads_length hshape ▸ h32))

theorem homingAsked_slotSettles : (s.homingAsked v).SlotSettles ((s.homingAsked v).settle s) v :=
  settle_slotSettles _ _ h1 (by simpa [State.homingAsked, length_setItem] using heads_length hshape ▸ h32)

/-- The head of a slot asked to home while it homes already stands; a HOME waits for any other (R114). -/
theorem homingAsked_settles (hused : s.used v = true) (habsent : (s.head v).state ≠ .absent) :
    (((s.homingAsked v).settle s).head v).retries = 0 ∧ (((s.homingAsked v).settle s).head v).retryDue = none ∧
      ((((s.homingAsked v).settle s).head v).state = .homing ∨
        ∃ e ∈ ((s.homingAsked v).settle s).arbiter.queue, e.slot = v ∧ e.op = .home) := by
  have settles := homingAsked_slotSettles hshape h1 h32
  have head := homingAsked_head hshape h1 h32
  have written := head_setHead_same (s := s) { s.head v with retries := 0, retryDue := none } h1 (heads_length hshape ▸ h32)
  refine ⟨by rw [settles.reported, head], ?_, ?_⟩
  · rcases settles.outcome with stands | ⟨e, granted⟩
    · rw [stands.head, head]
    · rw [granted.head]; rfl
  · by_cases hhoming : (s.head v).state = .homing
    · have stands := settles.stands fun op => by rw [head]; dsimp only; rw [hhoming]; cases op <;> rfl
      exact .inl (by rw [stands.head, head]; exact hhoming)
    · have waits : (s.homingAsked v).homeWaits v :=
        requestHoming_waits (s := s.setHead v _) hused (by rw [written]; exact habsent) (by rw [written]; exact hhoming)
      rcases settles.outcome with stands | ⟨e, granted⟩
      · exact .inr (homeWaits_of_orders waits (stands.waits waits)).exists_home
      · exact .inl (by rw [granted.state, granted.waits waits]; rfl)

end

/-! ## The queue with the supply LOW (R112, R114) -/

/-- The conditions of the boiler read the heads through the capacity, the arbiter through sink-open. -/
theorem boilerStays_slots {s t : State} (hframe : t = { s with heads := t.heads, arbiter := t.arbiter })
    (hcap : t.capacity = s.capacity) (hsink : t.arbiter.sinkOpen = s.arbiter.sinkOpen) (h : s.boilerStays) :
    t.boilerStays := by
  have boiler : t.boiler = s.boiler := by rw [hframe]
  have faultInput : t.faultInput = s.faultInput := by rw [hframe]; rfl
  have held : t.held = s.held := by rw [hframe]; rfl
  have anyRequest : t.anyRequest = s.anyRequest := by rw [hframe]; rfl
  have sinkMinimum : t.sinkMinimum = s.sinkMinimum := by rw [hframe]; rfl
  rw [State.boilerStays, boiler, faultInput, held, anyRequest, sinkMinimum, hcap, hsink]
  exact h

theorem requestHoming_sinkOpen (s : State) (v : Nat) :
    (s.requestHoming v).arbiter.sinkOpen = s.arbiter.sinkOpen := by
  unfold State.requestHoming; repeat' split
  all_goals rfl

section
variable {s : State} {v : Nat} (hshape : s.shaped) (h1 : 1 ≤ v) (h32 : v ≤ 32)
include hshape h1 h32

/-- Counts and retry due are not in the capacity. -/
theorem homingAsked_boilerStays (h : s.boilerStays) : (s.homingAsked v).boilerStays := by
  have committed : (s.homingAsked v).committed = s.committed := by
    funext n
    have fault : (s.homingAsked v).link.fault = s.link.fault := by simp [State.homingAsked]
    have head : ((s.homingAsked v).head n).committed = (s.head n).committed := by
      by_cases hn : n = v
      · subst hn; rw [homingAsked_head hshape h1 h32]; rfl
      · have other : (s.homingAsked v).head n = s.head n :=
          (head_congr (s := s.setHead v { s.head v with retries := 0, retryDue := none }) n
            (by simp [State.homingAsked])).trans (head_setHead_other s _ hn)
        rw [other]
    rw [State.committed, State.committed, fault, head]
  have cfg : (s.homingAsked v).cfg = s.cfg := by simp [State.homingAsked]
  have capacity : (s.homingAsked v).capacity = s.capacity := by
    rw [State.capacity, State.capacity, State.rawSum, State.rawSum, rawSumWith_congr cfg, committed]
  have sink : (s.homingAsked v).arbiter.sinkOpen = s.arbiter.sinkOpen := requestHoming_sinkOpen _ v
  rw [State.homingAsked] at capacity sink ⊢
  exact boilerStays_slots state_ext capacity sink h

/-- With the supply LOW and the boiler staying, the request is all that changes the queue. -/
theorem homingAsked_queued (hstays : s.boilerStays) (hsupply : s.field.supplyOk = false) :
    ((s.homingAsked v).settle s).queued v = (s.homingAsked v).queued v ∧
      ((s.homingAsked v).settle s).arbiter.arrivals = (s.homingAsked v).arbiter.arrivals := by
  have taken := settle_roundTaken (before := s) (homingAsked_boilerStays hshape h1 h32 hstays) (by simp [State.homingAsked])
  have still : (s.homingAsked v).remark.grantRound = (s.homingAsked v).remark :=
    grantRound_unsupplied (by simpa [State.homingAsked] using hsupply)
  have arbiter := taken.arbiter
  rw [still] at arbiter
  refine ⟨(queued_congr v (congrArg _ arbiter)).trans (remark_queued _ v), by rw [arbiter]; rfl⟩

end

/-- What a homing request makes of the slot's entry (R112, R114). -/
theorem requestHoming_entry {s : State} {v : Nat} (hused : s.used v = true) (habsent : (s.head v).state ≠ .absent)
    (harrivals : s.arbiter.arrivals ≤ 4294967295) :
    ((s.head v).state = .homing →
      (s.requestHoming v).queued v = s.queued v ∧ (s.requestHoming v).arbiter.arrivals = s.arbiter.arrivals) ∧
    ((s.head v).state ≠ .homing →
      (s.queued v = [] → (s.requestHoming v).queued v = [⟨v, .home, 0, .homing, s.arrivalNext, false⟩] ∧
        (s.requestHoming v).arbiter.arrivals = s.arrivalNext) ∧
      ∀ e, s.queued v = [e] → (s.requestHoming v).arbiter.arrivals = s.arbiter.arrivals ∧
        (s.requestHoming v).queued v = [e.takeHoming]) := by
  refine ⟨fun hhoming => ?_, fun hhoming => ?_⟩
  · rw [requestHoming_refused (.inr (.inr hhoming))]
    exact ⟨rfl, rfl⟩
  have queued := queued_requestHoming hused habsent hhoming
  refine ⟨fun hnone => ?_, fun e he => ?_⟩
  · rw [if_pos hnone, nextArrival_eq harrivals] at queued
    refine ⟨queued, ?_⟩
    rw [requestHoming_new hused habsent hhoming hnone, State.arrivalNext, ← nextArrival_eq harrivals]
    rfl
  · have waits : s.queued v ≠ [] := by rw [he]; simp
    rw [if_neg waits, he] at queued
    refine ⟨?_, queued⟩
    rw [requestHoming_joins hused habsent hhoming waits]
    rfl

/-- What VALVE-HOME makes of the slot's entry (R112, R114). -/
theorem homingAsked_entry {s : State} {v : Nat} (hshape : s.shaped) (h1 : 1 ≤ v) (h32 : v ≤ 32) (hused : s.used v = true)
    (habsent : (s.head v).state ≠ .absent) (harrivals : s.arbiter.arrivals ≤ 4294967295) :
    ((s.head v).state = .homing →
      (s.homingAsked v).queued v = s.queued v ∧ (s.homingAsked v).arbiter.arrivals = s.arbiter.arrivals) ∧
    ((s.head v).state ≠ .homing →
      (s.queued v = [] → (s.homingAsked v).queued v = [⟨v, .home, 0, .homing, s.arrivalNext, false⟩] ∧
        (s.homingAsked v).arbiter.arrivals = s.arrivalNext) ∧
      ∀ e, s.queued v = [e] → (s.homingAsked v).arbiter.arrivals = s.arbiter.arrivals ∧
        (s.homingAsked v).queued v = [e.takeHoming]) := by
  have written := head_setHead_same (s := s) { s.head v with retries := 0, retryDue := none } h1 (heads_length hshape ▸ h32)
  have entry := requestHoming_entry (s := s.setHead v { s.head v with retries := 0, retryDue := none }) (v := v) hused
    (by rw [written]; exact habsent) harrivals
  rw [written] at entry
  exact entry

theorem takeHoming_eq (e : Entry) : e.takeHoming = if e.op = .drive then
    { e with op := .home, target := 0, cls := if e.cls = .exercise then .homing else e.cls } else e := by
  unfold Entry.takeHoming; cases e.op <;> rfl

theorem met_head (s : State) (p : Port) (v : Nat) : (s.met p).head v = s.head v := by simp [State.head]

theorem met_queued (s : State) (p : Port) (v : Nat) : (s.met p).queued v = s.queued v := queued_congr v (by simp)

theorem met_used (s : State) (p : Port) (v : Nat) : (s.met p).used v = s.used v := by simp [State.used, State.valveCfg]

/-- A slot given its configuration, whether it held it or not, by the cases of R83. -/
theorem valveSet_slot {p : Port} {s : State} {v : Nat} {fields : List (Nat × Int)} {cfg : ValveCfg} (h : s.takes p)
    (hwrite : s.storeWriting = false) (h1 : 1 ≤ v) (h32 : v ≤ 32)
    (hdraft : valveDraft (s.valveCfg v) fields = some cfg) :
    ∃ t, exec (.valveSet p v fields) s = .next t ∧ s.replied t p 0x20 (.done {} []) [.boiler, .capacity, .sink] ∧
      t = { s with cfg := t.cfg, table := t.table, heads := t.heads, link := t.link, arbiter := t.arbiter,
                   boiler := t.boiler, field := t.field, claim := s.keptAlive p, main := t.main, service := t.service } ∧
      t.cfg = { s.cfg with valves := setItem s.cfg.valves v cfg } ∧ (cfg = s.valveCfg v → s.onlyReplied t p) ∧
      (cfg ≠ s.valveCfg v → ∃ u main service,
        ((s.met p).valveGiven v cfg).settle (s.met p) = u ∧ t = { u with main, service }) := by
  by_cases hsame : cfg = s.valveCfg v
  · obtain ⟨t, ht, hreplied, honly⟩ := valveSet_held h hwrite h1 h32 hdraft hsame
    refine ⟨t, ht, hreplied, by rw [honly], ?_, fun _ => honly, fun hne => absurd hsame hne⟩
    have kept : setItem s.cfg.valves v cfg = s.cfg.valves := by rw [hsame]; exact setItem_item _ _ _
    rw [kept, honly]
  · obtain ⟨main, service, ht, hreplied⟩ := valveSet_given h hwrite h1 h32 hdraft hsame
    refine ⟨_, ht, hreplied, ?_, ?_, fun hheld => absurd hheld hsame, fun _ => ⟨_, main, service, rfl, rfl⟩⟩
    · exact state_ext (store := by simp [State.valveGiven]) (claim := by simp [State.valveGiven])
        (clock := by simp [State.valveGiven]) (channels := by simp [State.valveGiven]) (zones := by simp [State.valveGiven])
        (wRequest := by simp [State.valveGiven]) (restartPending := by simp [State.valveGiven])
        (acting := by simp [State.valveGiven]) (pending := by simp [State.valveGiven])
    · show (((s.met p).valveGiven v cfg).settle (s.met p)).cfg = _
      rw [(settle_settlesTo _ _).cfg, valveGiven_cfg]; simp

theorem valveHome_slot {p : Port} {s : State} {v : Nat} (h : s.takes p) (h1 : 1 ≤ v) (h32 : v ≤ 32)
    (hused : s.used v = true) (habsent : (s.head v).state ≠ .absent) :
    ∃ t, exec (.valveHome p v) s = .next t ∧ s.replied t p 0x22 (.done {} []) [.boiler, .capacity, .sink] ∧
      t = { s with table := t.table, heads := t.heads, link := t.link, arbiter := t.arbiter, boiler := t.boiler,
                   field := t.field, claim := s.keptAlive p, main := t.main, service := t.service } ∧
      t.heads = (((s.met p).homingAsked v).settle (s.met p)).heads ∧
      t.arbiter = (((s.met p).homingAsked v).settle (s.met p)).arbiter := by
  obtain ⟨main, service, ht, hreplied⟩ := valveHome_asked h h1 h32 hused habsent
  refine ⟨_, ht, hreplied, ?_, rfl, rfl⟩
  exact state_ext (clock := by simp [State.homingAsked]) (cfg := by simp [State.homingAsked])
    (store := by simp [State.homingAsked]) (claim := by simp [State.homingAsked])
    (channels := by simp [State.homingAsked]) (zones := by simp [State.homingAsked])
    (wRequest := by simp [State.homingAsked]) (restartPending := by simp [State.homingAsked])
    (acting := by simp [State.homingAsked]) (pending := by simp [State.homingAsked])

theorem met_boilerStays {s : State} (p : Port) (h : s.boilerStays) : (s.met p).boilerStays := by
  cases p <;> exact h

/-- With the supply LOW, the slot's entry after VALVE-HOME is what the request makes of it (R112, R114). -/
theorem valveHome_entry {s t : State} {p : Port} {v : Nat} (hshape : s.shaped) (h1 : 1 ≤ v) (h32 : v ≤ 32)
    (hused : s.used v = true) (habsent : (s.head v).state ≠ .absent) (hsupply : s.field.supplyOk = false)
    (hstays : s.boilerStays) (harrivals : s.arbiter.arrivals ≤ 4294967295)
    (harbiter : t.arbiter = (((s.met p).homingAsked v).settle (s.met p)).arbiter) :
    ((s.head v).state = .homing → t.queued v = s.queued v ∧ t.arbiter.arrivals = s.arbiter.arrivals) ∧
    ((s.head v).state ≠ .homing →
      (s.queued v = [] → t.queued v = [⟨v, .home, 0, .homing, s.arrivalNext, false⟩] ∧
        t.arbiter.arrivals = s.arrivalNext) ∧
      ∀ e, s.queued v = [e] → t.arbiter.arrivals = s.arbiter.arrivals ∧ t.queued v = [e.takeHoming]) := by
  obtain ⟨settledQueued, settledArrivals⟩ := homingAsked_queued (met_shaped p hshape) h1 h32 (met_boilerStays p hstays)
    (by simpa using hsupply)
  have queued := (queued_congr v (congrArg Arbiter.queue harbiter)).trans settledQueued
  have arrivals := (congrArg Arbiter.arrivals harbiter).trans settledArrivals
  have entry := homingAsked_entry (met_shaped p hshape) h1 h32 (by rw [met_used]; exact hused)
    (by rw [met_head]; exact habsent) (by simpa using harrivals)
  have arbiter : (s.met p).arbiter = s.arbiter := by simp
  have arrivalNext : (s.met p).arrivalNext = s.arrivalNext := by simp [State.arrivalNext]
  rw [met_head, met_queued, arbiter, arrivalNext] at entry
  rw [queued, arrivals]
  exact entry

/-- Settles O36: the slot of an accepted VALVE-SET by what its role becomes (`valveGiven_leaves`, `valveGiven_enlists`,
`valveGiven_homes`, `valveGiven_formed`), that of a VALVE-HOME by the homing request (`homingAsked_settles`); the draft field
code by field code. -/
theorem valveRequestsConfigureAndHome : Obligations.ValveRequestsConfigureAndHome := by
  refine ⟨fun p v fields cfg s h hwrite hshape h1 h32 hdraft => ?_, fun p v s h hshape => ⟨fun h1 h32 hused habsent => ?_,
    fun h1 h32 hstate => ?_, fun hrange => ?_⟩, fun p v fields cfg s h hwrite hshape h1 h32 hdraft => ?_,
    fun p v s h hshape h1 h32 hused habsent hsupply hstays harrivals => ?_,
    fun x cfg fields hdraft code h1 h8 hcode => valveDraft_values hdraft h1 h8 hcode,
    fun p v fields s h hwrite hshape h1 h32 hrange hlift hzone => ?_⟩
  · obtain ⟨t, ht, hreplied, hframe, hcfg, hheld, hgiven⟩ := valveSet_slot h hwrite h1 h32 hdraft
    have hmet := met_shaped p hshape
    refine ⟨t, ht, hreplied, hframe, hcfg, ?_, hheld, fun hused hnew => ?_, fun hunused hnew => ?_, fun hother hnew => ?_⟩
    · rw [State.valveCfg, hcfg]
      exact item_setItem_same _ _ _ _ h1 (cfg_valves_length hshape ▸ h32)
    · obtain ⟨u, main, service, settled, rfl⟩ := hgiven fun heq => hused (heq ▸ hnew)
      rw [← met_valveCfg s p] at hused
      obtain ⟨hqueue, hwanted, hdue⟩ := valveGiven_leaves hmet h1 h32 hused hnew
      rw [settled] at hqueue hwanted hdue
      refine ⟨fun e he hv => ?_, hwanted, hdue⟩
      have := mem_queued (s := u) he hv
      rw [hqueue] at this
      cases this
    · obtain ⟨u, main, service, settled, rfl⟩ := hgiven fun heq => hnew (heq ▸ hunused)
      have hother : ((s.met p).valveCfg v).role.sameAssignment cfg.role = false := by
        rw [met_valveCfg, hunused]; cases hr : cfg.role <;> simp_all [Role.sameAssignment]
      rw [← met_valveCfg s p] at hunused
      obtain ⟨hmisses, hretries, -⟩ := valveGiven_enlists hmet h1 h32 hunused hnew
      have formed := valveGiven_formed hmet h1 h32 hnew hother
      rw [settled] at hmisses hretries formed
      exact ⟨hmisses, hretries, formed⟩
    · obtain ⟨u, main, service, settled, rfl⟩ := hgiven fun heq => by rw [heq, sameAssignment_self] at hother; cases hother
      rw [← met_valveCfg s p] at hother
      have formed := valveGiven_formed hmet h1 h32 hnew hother
      rw [settled] at formed
      exact formed
  · obtain ⟨t, ht, hreplied, hframe, hheads, harbiter⟩ := valveHome_slot h h1 h32 hused habsent
    obtain ⟨hretries, hdue, hhomes⟩ := homingAsked_settles (met_shaped p hshape) h1 h32 (by rw [met_used]; exact hused)
      (by rw [met_head]; exact habsent)
    rw [← head_congr v hheads] at hretries hdue hhomes
    rw [← harbiter] at hhomes
    exact ⟨t, ht, hreplied, hframe, hretries, hdue, hhomes⟩
  · exact ⟨_, rfl, requestEvent_refused p (valveHomeRequest v) s _ h rfl (by simp [valveHomeRequest])
      (valveHomeWork_state h1 h32 (by simpa [State.used, State.valveCfg, State.head] using hstate))⟩
  · exact ⟨_, rfl, requestEvent_refused p (valveHomeRequest v) s _ h rfl (by simp [valveHomeRequest])
      (valveHomeWork_range hrange)⟩
  · obtain ⟨t, ht, -, -, -, -, hgiven⟩ := valveSet_slot h hwrite h1 h32 hdraft
    have hmet := met_shaped p hshape
    refine ⟨t, ht, fun hunused hnew hnone => ?_, fun e hused hnew hother he hop habsent => ?_⟩
    · obtain ⟨u, main, service, settled, rfl⟩ := hgiven fun heq => hnew (heq ▸ hunused)
      rw [← met_valveCfg s p] at hunused
      obtain ⟨-, -, henlists⟩ := valveGiven_enlists hmet h1 h32 hunused hnew
      rw [met_queued, met_head, settled] at henlists
      exact henlists hnone
    · obtain ⟨u, main, service, settled, rfl⟩ := hgiven fun heq => by rw [heq, sameAssignment_self] at hother; cases hother
      rw [← met_valveCfg s p] at hused hother
      rw [← met_queued s p] at he
      rw [← met_head s p] at habsent
      have homes := valveGiven_homes hmet h1 h32 hused hnew hother he hop habsent
      rw [settled] at homes
      exact homes
  · obtain ⟨t, ht, -, -, -, harbiter⟩ := valveHome_slot h h1 h32 hused habsent
    have entry := valveHome_entry hshape h1 h32 hused habsent hsupply hstays harrivals harbiter
    simp only [takeHoming_eq] at entry
    exact ⟨t, ht, entry⟩
  · obtain ⟨cfg, hdraft⟩ := valveDraft_accepts hrange hlift hzone
    obtain ⟨t, ht, hreplied, -⟩ := valveSet_slot h hwrite h1 h32 hdraft
    exact ⟨⟨cfg, hdraft⟩, t, ht, hreplied⟩

end Sys2Proof.Machine
end

section
/-! PROOF. What a good reply makes of a head, by its state and the reply's kind (R89, R93, R94; O31). -/

namespace Sys2Proof.Machine

/-! ## What every reply leaves -/

theorem endMove_head {s : State} {v : Nat} (st : HeadState) (h1 : 1 ≤ v) (h2 : v ≤ s.heads.length) :
    (s.endMove v st).head v = { s.head v with state := st, move := none } := head_setHead_same _ h1 h2

theorem endMove_heads_length (s : State) (v : Nat) (st : HeadState) :
    (s.endMove v st).heads.length = s.heads.length := length_setItem _ _ _

/-- A property of the state that the effects of a reply keep (R89, R93, R94). -/
structure ReplyKeeps (v : Nat) (P : State → Prop) : Prop where
  head : ∀ (s : State) h, P s → P (s.setHead v h)
  stall : ∀ s : State, P s → P (s.raise .stall (object v))
  stop : ∀ s : State, P s → P (s.addCommand v .stop)
  home : ∀ s : State, P s → P (s.requestHoming v)
  offer : ∀ s : State, P s → P (s.offer v)

namespace ReplyKeeps

variable {v : Nat} {P : State → Prop} (keeps : ReplyKeeps v P)
include keeps

theorem enterStalled {s : State} (h : P s) : P (s.enterStalled v) := keeps.stall _ (keeps.head _ _ h)

theorem unknownReply {s : State} (k : ReplyKind) (h : P s) : P (s.unknownReply v k) := by
  cases k
  case stall => exact keeps.enterStalled h
  case running => exact keeps.stop _ h
  case atRest => exact keeps.offer _ (keeps.head _ _ h)
  case uncalibrated => exact keeps.home _ h

theorem readyReply {s : State} (k : ReplyKind) (h : P s) : P (s.readyReply v k) := by
  cases k
  case stall => exact keeps.enterStalled h
  case running => exact keeps.stop _ (keeps.head _ _ h)
  case atRest => exact h
  case uncalibrated => exact keeps.home _ (keeps.head _ _ h)

theorem movingReply {s : State} (k : ReplyKind) (h : P s) : P (s.movingReply v k) := by
  cases k
  case stall => exact keeps.enterStalled h
  case running => exact h
  case atRest => exact keeps.offer _ (keeps.head _ _ (keeps.head _ _ h))
  case uncalibrated =>
    rw [State.movingReply]; split
    · exact keeps.enterStalled h
    · exact keeps.home _ (keeps.head _ _ h)

theorem ownReply {s : State} (k : ReplyKind) (h : P s) : P (s.ownReply v k) := by
  cases k
  case running => exact keeps.head _ _ h
  case stall => exact keeps.movingReply .stall h
  case atRest => exact keeps.movingReply .atRest h
  case uncalibrated => exact keeps.movingReply .uncalibrated h

theorem stalledReply {s : State} (k : ReplyKind) (h : P s) : P (s.stalledReply v k) := by
  cases k
  case running => exact keeps.stop _ h
  all_goals exact h

theorem replyByState {s : State} (own : Bool) (k : ReplyKind) (h : P s) : P (s.replyByState v own k) := by
  unfold State.replyByState
  dsimp only
  repeat' split
  · exact h
  · exact keeps.unknownReply k h
  · exact keeps.unknownReply k (keeps.head _ _ h)
  · exact keeps.readyReply k h
  · exact keeps.stalledReply k h
  · exact keeps.movingReply k h
  · exact keeps.ownReply k h
  · exact h
  · exact keeps.movingReply k h
  · exact keeps.ownReply k h
  · exact h

end ReplyKeeps

theorem replyByState_link (u : State) (v : Nat) (own : Bool) (k : ReplyKind) :
    (u.replyByState v own k).link.fault = u.link.fault ∧ (u.replyByState v own k).link.cursor = u.link.cursor :=
  ReplyKeeps.replyByState (P := fun w => w.link.fault = u.link.fault ∧ w.link.cursor = u.link.cursor)
    { head := fun _ _ h => h
      stall := fun _ h => by simpa using h
      stop := fun _ h => h
      home := fun _ h => by simpa using h
      offer := fun _ h => by simpa using h } own k ⟨rfl, rfl⟩

theorem replyByState_onlyRaises (u : State) (v : Nat) (own : Bool) (k : ReplyKind) :
    u.onlyRaises (u.replyByState v own k) [.stall] :=
  ReplyKeeps.replyByState (P := fun w => u.onlyRaises w [.stall])
    { head := fun _ _ h => onlyRaises_congr h rfl rfl
      stall := fun _ h => onlyRaises_trans h (onlyRaises_raise _ .stall _ (by simp))
      stop := fun _ h => onlyRaises_congr h rfl rfl
      home := fun _ h => onlyRaises_congr h (by simp) (by simp)
      offer := fun _ h => onlyRaises_congr h (by simp) (by simp) } own k (onlyRaises_refl u _)

/-! ## The rows of R89's table -/

section
variable {u : State} {v : Nat} {own : Bool} {k : ReplyKind}

theorem replyByState_unheeded (h : u.used v = false) (hstill : (u.head v).running = false) :
    u.replyByState v own k = u := if_pos (by simp [h, hstill])

theorem replyByState_unknown (h : u.used v = true) (hst : (u.head v).state = .unknown) :
    u.replyByState v own k = u.unknownReply v k := by simp [State.replyByState, h, hst]

theorem replyByState_absent (h : u.used v = true) (hst : (u.head v).state = .absent) :
    u.replyByState v own k = (u.endMove v .unknown).unknownReply v k := by simp [State.replyByState, h, hst]

theorem replyByState_ready (h : u.used v = true) (hst : (u.head v).state = .ready) :
    u.replyByState v own k = u.readyReply v k := by simp [State.replyByState, h, hst]

theorem replyByState_stalled (h : u.used v = true) (hst : (u.head v).state = .stalled) :
    u.replyByState v own k = u.stalledReply v k := by simp [State.replyByState, h, hst]

section
variable (hst : (u.head v).state = .moving ∨ (u.head v).state = .homing)
include hst

theorem replyByState_accepted (hacc : (u.head v).move.any (·.accepted) = true) :
    u.replyByState v own k = u.movingReply v k := by
  rcases hst with hst | hst <;> simp [State.replyByState, Head.running, hst, hacc]

theorem replyByState_own (hacc : (u.head v).move.any (·.accepted) = false) :
    u.replyByState v true k = u.ownReply v k := by
  rcases hst with hst | hst <;> simp [State.replyByState, Head.running, hst, hacc]

theorem replyByState_early (hacc : (u.head v).move.any (·.accepted) = false) : u.replyByState v false k = u := by
  rcases hst with hst | hst <;> simp [State.replyByState, Head.running, hst, hacc]

end
end

/-! ## What the reply makes of the head -/

/-- The head is STALLED, with the attention and the retry of R94. -/
structure State.ReplyStalls (u w : State) (v : Nat) : Prop where
  head : w.head v = { u.head v with
    state := .stalled, move := none
    retryDue := if (u.head v).retries < 3 then some (u.clock.elapsed + 60) else none }
  arbiter : w.arbiter = u.arbiter
  raised : (∀ p, (u.port p).attn.length = 16) → ∀ q, w.raised q .stall (object v)

/-- The head runs with no move of its own, and a STOP is pending (R89). -/
structure State.ReplyStops (u w : State) (v : Nat) : Prop where
  head : w.head v = { u.head v with
    state := if (u.head v).state = .stalled then .stalled else .unknown, move := (w.head v).move }
  arbiter : w.arbiter = u.arbiter
  stop : w.commanded v .stop

/-- The head is READY, its move complete, and the wanted target is offered (R89, R111). -/
structure State.ReplyReadies (u w : State) (v : Nat) : Prop where
  head : w.head v = { u.head v with
    state := .ready, move := none
    lastMoved := if (u.head v).running then u.clock.elapsed else (u.head v).lastMoved
    retries := if (u.head v).state = .homing then 0 else (u.head v).retries }
  offers : ∃ heads, w = { u with heads }.offer v

/-- The head is UNKNOWN, its move ended, and a homing is requested (R89). -/
structure State.ReplyHomes (u w : State) (v : Nat) : Prop where
  head : w.head v = { u.head v with state := .unknown, move := (w.head v).move }
  ended : (u.head v).state = .moving → (w.head v).move = none
  home : u.used v = true → (∀ e ∈ u.arbiter.queue, e.op = .home → e.target = 0) →
    w.homeWaits v ∧ ∀ o ∈ w.orders v, o.2 = 0

/-- What a reply of kind `k` that is heeded makes of slot `v`, from `u` to `w` (R89, R93). -/
inductive State.Answered (u w : State) (v : Nat) : ReplyKind → Prop where
  | stays {k : ReplyKind} (same : w = u) (why : (u.head v).state = .stalled ∧ k ≠ .running ∨
      (u.head v).state = .ready ∧ k = .atRest ∨ (u.head v).running = true ∧ k = .running) : Answered u w v k
  | accepts (accepted : w = u.setHead v (u.head v).accept) (running : (u.head v).running = true)
      (waited : (u.head v).move.any (·.accepted) = false) : Answered u w v .running
  | stalls {k : ReplyKind} (stalls : u.ReplyStalls w v) (other : (u.head v).state ≠ .stalled)
      (why : k = .stall ∨ (u.head v).state = .homing ∧ k = .uncalibrated) : Answered u w v k
  | stops (stops : u.ReplyStops w v) (still : (u.head v).running = false) : Answered u w v .running
  | readies (readies : u.ReplyReadies w v) (other : (u.head v).state ≠ .stalled ∧ (u.head v).state ≠ .ready) :
      Answered u w v .atRest
  | homes (homes : u.ReplyHomes w v) (other : (u.head v).state ≠ .stalled ∧ (u.head v).state ≠ .homing) :
      Answered u w v .uncalibrated

/-- The head of slot `v` is UNKNOWN in `u₀`, as it stood in `u` or with its move ended; nothing else differs. -/
structure State.Roused (u u₀ : State) (v : Nat) : Prop where
  frame : u₀ = { u with heads := u₀.heads }
  length : u₀.heads.length = u.heads.length
  head : u₀.head v = { u.head v with state := .unknown, move := (u₀.head v).move }
  ended : (u.head v).state = .unknown ∨ (u₀.head v).move = none

theorem State.Roused.of_unknown {u : State} {v : Nat} (h : (u.head v).state = .unknown) : u.Roused u v :=
  ⟨rfl, rfl, by rw [← h], .inl h⟩

theorem endMove_roused {u : State} {v : Nat} (h1 : 1 ≤ v) (h2 : v ≤ u.heads.length) :
    u.Roused (u.endMove v .unknown) v where
  frame := rfl
  length := endMove_heads_length u v _
  head := by rw [endMove_head _ h1 h2]
  ended := .inr (by rw [endMove_head _ h1 h2])

section
variable {u u₀ : State} {v : Nat} (h1 : 1 ≤ v) (h2 : v ≤ u.heads.length)
include h1 h2

theorem enterStalled_stalls : u.ReplyStalls (u.enterStalled v) v where
  head := enterStalled_head h1 h2
  arbiter := by simp
  raised := enterStalled_raised

theorem State.Roused.stalls (h : u.Roused u₀ v) : u.ReplyStalls (u₀.enterStalled v) v where
  head := by
    have clock : u₀.clock = u.clock := by rw [h.frame]
    rw [enterStalled_head h1 (h.length ▸ h2), h.head, clock]
  arbiter := by rw [h.frame]; simp
  raised hattn := enterStalled_raised (by rw [h.frame]; exact hattn)

omit h1 h2 in
theorem State.Roused.stops (h : u.Roused u₀ v) (other : (u.head v).state ≠ .stalled) :
    u.ReplyStops (u₀.addCommand v .stop) v where
  head := by
    have head : (u₀.addCommand v .stop).head v = u₀.head v := head_congr v
    rw [head, if_neg other]
    exact h.head
  arbiter := by rw [h.frame]; simp
  stop := commanded_addCommand _ v .stop

omit h1 h2 in
theorem State.Roused.homes (h : u.Roused u₀ v) : u.ReplyHomes (u₀.requestHoming v) v := by
  have head : (u₀.requestHoming v).head v = u₀.head v := head_congr v
  refine ⟨by rw [head]; exact h.head, fun hmoving => ?_, fun hused htargets => ?_⟩
  · rw [head]
    exact h.ended.resolve_left fun hunknown => by rw [hmoving] at hunknown; cases hunknown
  have used : u₀.used v = true := by rw [h.frame]; exact hused
  have absent : (u₀.head v).state ≠ .absent := by rw [h.head]; exact nofun
  have homing : (u₀.head v).state ≠ .homing := by rw [h.head]; exact nofun
  have queued : u₀.queued v = u.queued v := by rw [h.frame]; rfl
  refine ⟨requestHoming_waits used absent homing, fun o ho => ?_⟩
  rw [State.orders, queued_requestHoming used absent homing, queued] at ho
  split at ho
  · rw [List.mem_singleton.mp ho]
  · obtain ⟨e, he, rfl⟩ := List.mem_map.mp ho
    obtain ⟨f, hf, rfl⟩ := List.mem_map.mp he
    obtain ⟨g, hg, -, rfl⟩ := of_mem_queued hf
    rw [takeHoming_eq]
    split
    · rfl
    · next hop => exact htargets g hg (by cases hg : g.op <;> simp_all [Entry.unmarked])

/-- A head that runs no move becomes READY: its last move stands. -/
theorem becomeReady_readies (h : u₀ = { u with heads := u₀.heads }) (length : u₀.heads.length = u.heads.length)
    (head : u₀.head v = { u.head v with state := (u₀.head v).state, move := (u₀.head v).move })
    (still : (u.head v).running = false) : u.ReplyReadies (u₀.becomeReady v) v where
  head := by
    have ready : (u₀.becomeReady v).head v = (u₀.endMove v .ready).head v := head_congr v (by simp [State.becomeReady])
    have homing : (u.head v).state ≠ .homing := fun hst => by simp [Head.running, hst] at still
    rw [ready, endMove_head _ h1 (length ▸ h2), head, if_neg (by simp [still]), if_neg homing]
  offers := ⟨(u₀.endMove v .ready).heads, by rw [State.becomeReady, h]; rfl⟩

theorem completeMove_readies (runs : (u.head v).running = true) : u.ReplyReadies (u.completeMove v) v where
  head := by
    have ready : (u.completeMove v).head v =
        ((u.setHead v { u.head v with
          lastMoved := u.clock.elapsed
          retries := if (u.head v).state = .homing then 0 else (u.head v).retries }).endMove v .ready).head v :=
      head_congr v (by simp [State.completeMove, State.becomeReady])
    rw [ready, endMove_head _ h1 (by simpa [State.setHead, length_setItem] using h2), head_setHead_same _ h1 h2, if_pos runs]
  offers := ⟨_, rfl⟩

theorem unknownReply_answered (h : u.Roused u₀ v) (k : ReplyKind) (other : (u.head v).state ≠ .stalled)
    (ready : k = .atRest → (u.head v).state ≠ .ready) (still : (u.head v).running = false) :
    u.Answered (u₀.unknownReply v k) v k := by
  cases k
  case stall => exact .stalls (h.stalls h1 h2) other (.inl rfl)
  case running => exact .stops (h.stops other) still
  case atRest => exact .readies (becomeReady_readies h1 h2 h.frame h.length (by rw [h.head]) still) ⟨other, ready rfl⟩
  case uncalibrated =>
    exact .homes h.homes ⟨other, fun hst => by simp [Head.running, hst] at still⟩

theorem readyReply_answered (hst : (u.head v).state = .ready) (k : ReplyKind) :
    u.Answered (u.readyReply v k) v k := by
  have roused : u.Roused (u.endMove v .unknown) v := endMove_roused h1 h2
  have still : (u.head v).running = false := by simp [Head.running, hst]
  cases k
  case stall => exact .stalls (enterStalled_stalls h1 h2) (by simp [hst]) (.inl rfl)
  case running => exact .stops (roused.stops (by simp [hst])) still
  case atRest => exact .stays rfl (.inr (.inl ⟨hst, rfl⟩))
  case uncalibrated => exact .homes roused.homes (by simp [hst])

omit h1 h2 in
theorem stalledReply_answered (hst : (u.head v).state = .stalled) (k : ReplyKind) :
    u.Answered (u.stalledReply v k) v k := by
  cases k
  case running =>
    have head : (u.stalledReply v .running).head v = u.head v := rfl
    exact .stops ⟨by rw [head, if_pos hst, ← hst], rfl, commanded_addCommand u v .stop⟩ (by simp [Head.running, hst])
  all_goals exact .stays rfl (.inl ⟨hst, nofun⟩)

theorem movingReply_answered (hst : (u.head v).state = .moving ∨ (u.head v).state = .homing) (k : ReplyKind) :
    u.Answered (u.movingReply v k) v k := by
  have runs : (u.head v).running = true := by simpa [Head.running] using hst
  have other : (u.head v).state ≠ .stalled := by rcases hst with hst | hst <;> simp [hst]
  cases k
  case stall => exact .stalls (enterStalled_stalls h1 h2) other (.inl rfl)
  case running => exact .stays rfl (.inr (.inr ⟨runs, rfl⟩))
  case atRest =>
    exact .readies (completeMove_readies h1 h2 runs) ⟨other, by rcases hst with hst | hst <;> simp [hst]⟩
  case uncalibrated =>
    by_cases homing : (u.head v).state = .homing
    · rw [State.movingReply, if_pos homing]
      exact .stalls (enterStalled_stalls h1 h2) other (.inr ⟨homing, rfl⟩)
    · rw [State.movingReply, if_neg homing]
      exact .homes (endMove_roused h1 h2).homes ⟨other, homing⟩

theorem ownReply_answered (hst : (u.head v).state = .moving ∨ (u.head v).state = .homing)
    (hacc : (u.head v).move.any (·.accepted) = false) (k : ReplyKind) : u.Answered (u.ownReply v k) v k := by
  cases k
  case running => exact .accepts rfl (by simpa [Head.running] using hst) hacc
  case stall => exact movingReply_answered h1 h2 hst .stall
  case atRest => exact movingReply_answered h1 h2 hst .atRest
  case uncalibrated => exact movingReply_answered h1 h2 hst .uncalibrated

/-- A head with a move heeds the reply to its own command, and every reply after it (R93). -/
theorem replyByState_runs_answered (own : Bool) (hst : (u.head v).state = .moving ∨ (u.head v).state = .homing)
    (heeds : (u.head v).move.any (·.accepted) = true ∨ own = true) (k : ReplyKind) :
    u.Answered (u.replyByState v own k) v k := by
  cases hacc : (u.head v).move.any (·.accepted) with
  | true => rw [replyByState_accepted hst hacc]; exact movingReply_answered h1 h2 hst k
  | false =>
    obtain rfl : own = true := heeds.resolve_left (by simp [hacc])
    rw [replyByState_own hst hacc]
    exact ownReply_answered h1 h2 hst hacc k

/-- A head of a slot in use with no move that waits to be accepted heeds every reply (R89, R93). -/
theorem replyByState_answered (own : Bool) (hused : u.used v = true)
    (heeds : (u.head v).state ≠ .moving ∧ (u.head v).state ≠ .homing ∨ (u.head v).move.any (·.accepted) = true)
    (k : ReplyKind) : u.Answered (u.replyByState v own k) v k := by
  cases hst : (u.head v).state
  case unknown =>
    rw [replyByState_unknown hused hst]
    exact unknownReply_answered h1 h2 (.of_unknown hst) k (by simp [hst]) (by simp [hst]) (by simp [Head.running, hst])
  case absent =>
    rw [replyByState_absent hused hst]
    exact unknownReply_answered h1 h2 (endMove_roused h1 h2) k (by simp [hst]) (by simp [hst]) (by simp [Head.running, hst])
  case ready => rw [replyByState_ready hused hst]; exact readyReply_answered h1 h2 hst k
  case stalled => rw [replyByState_stalled hused hst]; exact stalledReply_answered hst k
  case moving => exact replyByState_runs_answered h1 h2 own (.inl hst) (.inl (heeds.resolve_left (by simp [hst]))) k
  case homing => exact replyByState_runs_answered h1 h2 own (.inr hst) (.inl (heeds.resolve_left (by simp [hst]))) k

end

end Sys2Proof.Machine
end

section
/-! PROOF. A good reply before its head's state is judged: link, head record and room readings (R47 to R49, R85, R87, R89;
O31). -/

namespace Sys2Proof.Machine

/-! ## The readings of a head's zones (R49) -/

/-- Zone `k` takes the temperature of head `v` where its source is that head (R49). -/
def State.zoneHeard (v : Nat) (x : Temp) (s : State) (k : Nat) : State :=
  if (s.zoneCfg k).source = some v then s.takeReading k x else s

theorem takeHeadReading_eq (s : State) (v : Nat) (x : Temp) :
    s.takeHeadReading v x = zoneNumbers.foldl (State.zoneHeard v x) s := rfl

theorem takeReading_onlyRaises (s : State) (k : Nat) (x : Temp) : s.onlyRaises (s.takeReading k x) [.sensor] := by
  cases hx : inMeasuringRange x
  · rw [takeReading_rejected s k hx]; exact onlyRaises_raise s .sensor _ (by simp)
  · rw [takeReading_held s k hx]; exact onlyRaises_of_ports _ rfl rfl

theorem zoneHeard_onlyRaises (v : Nat) (x : Temp) (s : State) (k : Nat) : s.onlyRaises (s.zoneHeard v x k) [.sensor] := by
  unfold State.zoneHeard
  split
  · exact takeReading_onlyRaises s k x
  · exact onlyRaises_refl s _

theorem takeHeadReading_onlyRaises (s : State) (v : Nat) (x : Temp) : s.onlyRaises (s.takeHeadReading v x) [.sensor] :=
  onlyRaises_foldl _ _ _ (fun u k _ => zoneHeard_onlyRaises v x u k) s

/-- A zone's record with the temperature `x` of its head at the elapsed minute `now` (R47, R48). -/
def ZoneRun.heard (z : ZoneRun) (x : Temp) (now : Elapsed) : ZoneRun :=
  { z with reading := if -400 ≤ x ∧ x ≤ 1250 then some ⟨x, now⟩ else z.reading }

theorem takeReading_zone {s : State} {k : Nat} (x : Temp) (h1 : 1 ≤ k) (h2 : k ≤ s.zones.length) :
    (s.takeReading k x).zone k = (s.zone k).heard x s.clock.elapsed := by
  cases hx : inMeasuringRange x
  · have out : ¬ (-400 ≤ x ∧ x ≤ 1250) := fun hin => by rw [(inMeasuringRange_iff x).mpr hin] at hx; cases hx
    have zones : (s.raise .sensor (object k)).zone k = s.zone k := by simp [State.zone]
    rw [takeReading_rejected s k hx, zones, ZoneRun.heard, if_neg out]
  · rw [takeReading_held s k hx, zone_setZone_same s k _ h1 h2, ZoneRun.heard, if_pos ((inMeasuringRange_iff x).mp hx)]

theorem takeReading_zone_other (s : State) {k j : Nat} (x : Temp) (h : j ≠ k) : (s.takeReading k x).zone j = s.zone j := by
  cases hx : inMeasuringRange x
  · rw [takeReading_rejected s k hx]; simp [State.zone]
  · rw [takeReading_held s k hx, zone_setZone_other s k j _ h]

theorem zoneHeard_zone_other (s : State) (v : Nat) (x : Temp) {k j : Nat} (h : j ≠ k) :
    (s.zoneHeard v x k).zone j = s.zone j := by
  unfold State.zoneHeard
  split
  · exact takeReading_zone_other s x h
  · rfl

/-- Every zone whose source is the head takes its temperature, the others keep their reading (R49). -/
theorem takeHeadReading_zone {s : State} {k : Nat} (v : Nat) (x : Temp) (hlen : s.zones.length = 16) (h1 : 1 ≤ k)
    (h16 : k ≤ 16) : (s.takeHeadReading v x).zone k = { s.zone k with
      reading := if (s.zoneCfg k).source = some v ∧ -400 ≤ x ∧ x ≤ 1250 then some ⟨x, s.clock.elapsed⟩
        else (s.zone k).reading } := by
  have read : (s.takeHeadReading v x).zone k =
      if (s.zoneCfg k).source = some v then (s.zone k).heard x s.clock.elapsed else s.zone k := by
    refine foldl_read (fun u => u.zones.length = 16 ∧ u.clock = s.clock ∧ u.cfg = s.cfg) State.zone (State.zoneHeard v x)
      (fun k z => if (s.zoneCfg k).source = some v then z.heard x s.clock.elapsed else z) zoneNumbers (numbers_nodup 16)
      (fun u k _ ⟨hlen, hclock, hcfg⟩ => ?_) (fun u k hk ⟨hlen, hclock, hcfg⟩ => ?_)
      (fun u k j h => zoneHeard_zone_other u v x h) s ⟨hlen, rfl, rfl⟩ k ((mem_numbers ..).mpr ⟨h1, h16⟩)
    · unfold State.zoneHeard
      split
      · exact ⟨by simpa using hlen, by simpa using hclock, by simpa using hcfg⟩
      · exact ⟨hlen, hclock, hcfg⟩
    · obtain ⟨hk1, hk16⟩ := (mem_numbers ..).mp hk
      have source : (u.zoneCfg k).source = (s.zoneCfg k).source := by rw [State.zoneCfg, State.zoneCfg, hcfg]
      unfold State.zoneHeard
      rw [source]
      split
      · rw [takeReading_zone x hk1 (hlen ▸ hk16), hclock]
      · rfl
  rw [read]
  by_cases hsource : (s.zoneCfg k).source = some v <;> simp [hsource, ZoneRun.heard]

/-- A temperature outside the measuring range raises SENSOR for every zone of the head (R48). -/
theorem takeHeadReading_raised {s : State} {v k : Nat} {x : Temp} (hattn : ∀ p, (s.port p).attn.length = 16)
    (h1 : 1 ≤ k) (h16 : k ≤ 16) (hsource : (s.zoneCfg k).source = some v) (hout : x < -400 ∨ 1250 < x) (q : Port) :
    (s.takeHeadReading v x).raised q .sensor (object k) := by
  obtain ⟨before, after, split⟩ := List.append_of_mem (show k ∈ zoneNumbers from (mem_numbers ..).mpr ⟨h1, h16⟩)
  have fold (u : State) (l : List Nat) : u.onlyRaises (l.foldl (State.zoneHeard v x) u) [.sensor] :=
    onlyRaises_foldl _ _ _ (fun u k _ => zoneHeard_onlyRaises v x u k) u
  have cfg (u : State) (l : List Nat) : (l.foldl (State.zoneHeard v x) u).cfg = u.cfg :=
    foldl_keeps _ State.cfg (fun u k => by unfold State.zoneHeard; split <;> simp) l u
  rw [takeHeadReading_eq, split, List.foldl_append, List.foldl_cons]
  refine raised_of_onlyRaises (fold _ after) ?_
  have source : ((before.foldl (State.zoneHeard v x) s).zoneCfg k).source = some v := by
    rw [State.zoneCfg, cfg]; exact hsource
  rw [State.zoneHeard, if_pos source, takeReading_rejected _ _ (inMeasuringRange_outside hout)]
  exact raised_raise q .sensor _ ((attn_length_of_onlyRaises (fold s before) q).trans (hattn q))

/-! ## The state a reply finds -/

/-- The link, the head's record and the readings after a good reply, before the head's state is judged (R85, R87, R89). -/
def State.heard (s : State) (t : Transaction) (r : StatusReply) : State :=
  let u := (s.setLink (s.link.answered t)).setHead t.slot ((s.head t.slot).fields r)
  match r.temperature with
  | some x => u.takeHeadReading t.slot x
  | none => u

/-- The reply answers the command that the grant issued (R93). -/
def State.answersGrant (s : State) (v : Nat) : Bool := (s.ownCommand v).any (·.request.isGranted)

theorem goodReply_heard (s : State) (t : Transaction) (r : StatusReply) :
    s.goodReply t r = (s.heard t r).replyByState t.slot (s.answersGrant t.slot) r.kind := rfl

@[simp] theorem heard_keeps (s : State) (t : Transaction) (r : StatusReply) :
    (s.heard t r).clock = s.clock ∧ (s.heard t r).cfg = s.cfg ∧ (s.heard t r).arbiter = s.arbiter ∧
    (s.heard t r).boiler = s.boiler ∧ (s.heard t r).field = s.field ∧ (s.heard t r).link = s.link.answered t ∧
    (s.heard t r).heads = setItem s.heads t.slot ((s.head t.slot).fields r) := by
  unfold State.heard
  split <;> simp [State.setHead]

theorem heard_onlyRaises (s : State) (t : Transaction) (r : StatusReply) : s.onlyRaises (s.heard t r) [.sensor] := by
  have written : s.onlyRaises ((s.setLink (s.link.answered t)).setHead t.slot ((s.head t.slot).fields r)) [.sensor] :=
    onlyRaises_of_ports _ rfl rfl
  unfold State.heard
  split
  · exact onlyRaises_trans written (takeHeadReading_onlyRaises _ _ _)
  · exact written

theorem heard_head {s : State} {v : Nat} (req : LinkRequest) (r : StatusReply) (h1 : 1 ≤ v) (h2 : v ≤ s.heads.length) :
    (s.heard ⟨v, req⟩ r).head v = (s.head v).fields r :=
  (head_congr (s := s.setHead v ((s.head v).fields r)) v (by simp [State.setHead])).trans (head_setHead_same _ h1 h2)

theorem heard_reads (s : State) (t : Transaction) {r : StatusReply} {x : Temp} (hx : r.temperature = some x) :
    s.heard t r = ((s.setLink (s.link.answered t)).setHead t.slot ((s.head t.slot).fields r)).takeHeadReading t.slot x := by
  rw [State.heard, hx]

/-! ## The event of a good reply -/

theorem exec_goodReply {s : State} {v pos : Nat} {req : LinkRequest} (running stall calibrated : Bool) (x : Option Temp)
    (ha : s.acting = none) (ht : s.link.transaction = some ⟨v, req⟩) (hpos : pos ≤ 100) :
    exec (.goodReply v pos running stall calibrated x) s =
      .next ((s.goodReply ⟨v, req⟩ ⟨v, pos, running, stall, calibrated, x⟩).settle s).endEvent := by
  have good : s.goodTransaction ⟨v, pos, running, stall, calibrated, x⟩ = some ⟨v, req⟩ := by
    rw [State.goodTransaction, ht]; exact if_pos ⟨rfl, hpos⟩
  show Host.Outcome.next (goodReplyEvent ⟨v, pos, running, stall, calibrated, x⟩ s) = _
  rw [goodReplyEvent, good]
  exact congrArg Host.Outcome.next (plantEvent_free s _ ha)

/-- What the event of a good reply leaves. -/
theorem goodReply_frame (s : State) (x : Transaction) (r : StatusReply) :
    ((s.goodReply x r).settle s).endEvent = { s with
      zones := ((s.goodReply x r).settle s).endEvent.zones, table := ((s.goodReply x r).settle s).endEvent.table
      heads := ((s.goodReply x r).settle s).endEvent.heads, link := ((s.goodReply x r).settle s).endEvent.link
      arbiter := ((s.goodReply x r).settle s).endEvent.arbiter, boiler := ((s.goodReply x r).settle s).endEvent.boiler
      field := ((s.goodReply x r).settle s).endEvent.field, main := ((s.goodReply x r).settle s).endEvent.main
      service := ((s.goodReply x r).settle s).endEvent.service } := state_ext

/-- The reply to a POLL moves the cursor to its slot (R88). -/
theorem goodReply_cursor (s : State) (v : Nat) (req : LinkRequest) (r : StatusReply) :
    ((s.goodReply ⟨v, req⟩ r).settle s).endEvent.link.cursor = if req = .poll then v else s.link.cursor := by
  obtain ⟨-, -, -, settled⟩ := settle_supplyKept (s.goodReply ⟨v, req⟩ r) s
  obtain ⟨-, replied⟩ := replyByState_link (s.heard ⟨v, req⟩ r) v (s.answersGrant v) r.kind
  have heard : (s.heard ⟨v, req⟩ r).link.cursor = if req = .poll then v else s.link.cursor := by
    simp [Link.answered, Link.ended]
  have ended : ((s.goodReply ⟨v, req⟩ r).settle s).endEvent.link = ((s.goodReply ⟨v, req⟩ r).settle s).link := by simp
  rw [ended, settled, goodReply_heard, replied, heard]

theorem goodReply_onlyRaises (s : State) (t : Transaction) (r : StatusReply) :
    s.onlyRaises (s.goodReply t r) [.sensor, .stall, .boiler, .capacity, .sink] :=
  onlyRaises_trans (onlyRaises_mono (heard_onlyRaises s t r) (by simp))
    (onlyRaises_mono (replyByState_onlyRaises _ _ _ _) (by simp))

theorem goodReply_zone {s : State} {k : Nat} (t : Transaction) {r : StatusReply} {x : Temp} (hx : r.temperature = some x)
    (hlen : s.zones.length = 16) (h1 : 1 ≤ k) (h16 : k ≤ 16) : (s.goodReply t r).zone k = { s.zone k with
      reading := if (s.zoneCfg k).source = some t.slot ∧ -400 ≤ x ∧ x ≤ 1250 then some ⟨x, s.clock.elapsed⟩
        else (s.zone k).reading } := by
  have zones : (s.goodReply t r).zone k = (s.heard t r).zone k := by simp [goodReply_heard, State.zone]
  rw [zones, heard_reads s t hx]
  exact takeHeadReading_zone (s := (s.setLink (s.link.answered t)).setHead t.slot ((s.head t.slot).fields r)) t.slot x
    hlen h1 h16

theorem goodReply_raised {s : State} {k : Nat} (t : Transaction) {r : StatusReply} {x : Temp} (hx : r.temperature = some x)
    (hattn : ∀ p, (s.port p).attn.length = 16) (h1 : 1 ≤ k) (h16 : k ≤ 16) (hsource : (s.zoneCfg k).source = some t.slot)
    (hout : x < -400 ∨ 1250 < x) (q : Port) : (s.goodReply t r).raised q .sensor (object k) := by
  have heard : (s.heard t r).raised q .sensor (object k) := by
    rw [heard_reads s t hx]
    exact takeHeadReading_raised (s := (s.setLink (s.link.answered t)).setHead t.slot ((s.head t.slot).fields r))
      (fun p => hattn p ▸ by cases p <;> rfl) h1 h16 hsource hout q
  exact raised_of_onlyRaises (replyByState_onlyRaises _ _ _ _) heard

end Sys2Proof.Machine
end

section
/-! PROOF. A good reply at the end of its event: the slot stands as the reply left it, or is granted again (R89, R93 to R95,
R118; O31). -/

namespace Sys2Proof.Machine

/-- The state of R89's table after a reply of this kind that is heeded. -/
def ReplyKind.next (k : ReplyKind) (st : HeadState) : HeadState :=
  match st, k with
  | .stalled, _ => .stalled
  | _, .stall => .stalled
  | .moving, .running => .moving
  | .homing, .running => .homing
  | _, .running => .unknown
  | _, .atRest => .ready
  | .homing, .uncalibrated => .stalled
  | _, .uncalibrated => .unknown

theorem replyByState_cases {u : State} {v : Nat} (h1 : 1 ≤ v) (h2 : v ≤ u.heads.length) (own : Bool) (k : ReplyKind) :
    u.replyByState v own k = u ∨ u.Answered (u.replyByState v own k) v k := by
  by_cases hst : (u.head v).state = .moving ∨ (u.head v).state = .homing
  · by_cases heeds : (u.head v).move.any (·.accepted) = true ∨ own = true
    · exact .inr (replyByState_runs_answered h1 h2 own hst heeds k)
    · obtain ⟨hacc, rfl⟩ : (u.head v).move.any (·.accepted) = false ∧ own = false := by simpa using heeds
      exact .inl (replyByState_early hst hacc)
  · have still : (u.head v).running = false := by simpa [Head.running] using hst
    cases hused : u.used v
    · exact .inl (replyByState_unheeded hused still)
    · exact .inr (replyByState_answered h1 h2 own hused (.inl (not_or.mp hst)) k)

/-- What no reply changes of a head's record. -/
theorem State.Answered.reported {u w : State} {v : Nat} {k : ReplyKind} (h : u.Answered w v k)
    (h1 : 1 ≤ v) (h2 : v ≤ u.heads.length) : w.head v = { u.head v with
      state := (w.head v).state, move := (w.head v).move, lastMoved := (w.head v).lastMoved
      retries := (w.head v).retries, retryDue := (w.head v).retryDue } := by
  cases h with
  | stays same => rw [same]
  | accepts accepted => rw [accepted, head_setHead_same _ h1 h2]; rfl
  | stalls stalls => rw [stalls.head]
  | stops stops => rw [stops.head]
  | readies readies => rw [readies.head]
  | homes homes => rw [homes.head]

/-- A reply to a head that runs no move leaves last-moved and the retry count (R89). -/
theorem State.Answered.counts {u w : State} {v : Nat} {k : ReplyKind} (h : u.Answered w v k)
    (still : (u.head v).running = false) :
    (w.head v).lastMoved = (u.head v).lastMoved ∧ (w.head v).retries = (u.head v).retries := by
  have homing : (u.head v).state ≠ .homing := fun hst => by simp [Head.running, hst] at still
  cases h with
  | stays same => rw [same]; exact ⟨rfl, rfl⟩
  | accepts _ runs => rw [still] at runs; cases runs
  | stalls stalls => rw [stalls.head]; exact ⟨rfl, rfl⟩
  | stops stops => rw [stops.head]; exact ⟨rfl, rfl⟩
  | readies readies => rw [readies.head, if_neg (by simp [still]), if_neg homing]; exact ⟨rfl, rfl⟩
  | homes homes => rw [homes.head]; exact ⟨rfl, rfl⟩

/-! ## The event -/

/-- The good reply `r` for slot `v` finds `u` and makes `w` of it; the event from `s` ends in `t`. -/
structure State.Hears (s u w t : State) (v : Nat) (r : StatusReply) : Prop where
  slot : 1 ≤ v ∧ v ≤ u.heads.length
  head : u.head v = (s.head v).fields r
  cfg : u.cfg = s.cfg
  clock : u.clock = s.clock
  arbiter : u.arbiter = s.arbiter
  attn : ∀ p, (u.port p).attn.length = 16
  reply : w = u.replyByState v (s.answersGrant v) r.kind
  replied : w.cfg = s.cfg ∧ w.link.fault = s.link.fault ∧ w.field = s.field ∧ w.boiler = s.boiler
  settles : w.SlotSettles t v
  ends : t = (w.settle s).endEvent

theorem goodReply_hears {s : State} {v : Nat} (req : LinkRequest) (r : StatusReply) (hshape : s.shaped) (h1 : 1 ≤ v)
    (h32 : v ≤ 32) : s.Hears (s.heard ⟨v, req⟩ r) (s.goodReply ⟨v, req⟩ r)
      ((s.goodReply ⟨v, req⟩ r).settle s).endEvent v r := by
  have slots : v ≤ s.heads.length := heads_length hshape ▸ h32
  have heard : v ≤ (s.heard ⟨v, req⟩ r).heads.length := by simpa [length_setItem] using slots
  obtain ⟨fault, -⟩ := replyByState_link (s.heard ⟨v, req⟩ r) v (s.answersGrant v) r.kind
  have length : (s.goodReply ⟨v, req⟩ r).heads.length = 32 :=
    (congrArg (·.2.2.2.1) (goodReply_sizes s ⟨v, req⟩ r)).trans (heads_length hshape)
  exact {
    slot := ⟨h1, heard⟩
    head := heard_head req r h1 slots
    cfg := by simp
    clock := by simp
    arbiter := by simp
    attn := fun p => (attn_length_of_onlyRaises (heard_onlyRaises s _ r) p).trans (attn_length hshape p)
    reply := goodReply_heard s _ r
    replied := ⟨by simp, by rw [goodReply_heard]; simpa [Link.answered, Link.ended] using fault, by simp, by simp⟩
    settles := endEvent_slotSettles _ s h1 (length ▸ h32)
    ends := rfl }

namespace State.Hears

variable {s u w t : State} {v : Nat} {r : StatusReply} {k : ReplyKind} (h : s.Hears u w t v r)
include h

theorem answered (hused : s.used v = true)
    (heeds : (s.head v).state ≠ .moving ∧ (s.head v).state ≠ .homing ∨ (s.head v).move.any (·.accepted) = true) :
    u.Answered w v r.kind := by
  obtain ⟨h1, h2⟩ := h.slot
  have used : u.used v = true := by rw [State.used, State.valveCfg, h.cfg]; exact hused
  rw [h.reply]
  exact replyByState_answered h1 h2 _ used (by rw [h.head]; exact heeds) r.kind

theorem answered_own (hst : (s.head v).state = .moving ∨ (s.head v).state = .homing) (own : s.answersGrant v = true) :
    u.Answered w v r.kind := by
  obtain ⟨h1, h2⟩ := h.slot
  rw [h.reply]
  exact replyByState_runs_answered h1 h2 _ (by rw [h.head]; exact hst) (.inr own) r.kind

theorem cases : w = u ∨ u.Answered w v r.kind := by
  obtain ⟨h1, h2⟩ := h.slot
  rw [h.reply]
  exact replyByState_cases h1 h2 _ r.kind

/-- The fields of the reply are the slot's, whatever else becomes of its head (R89). -/
theorem reported : t.head v = { (s.head v).fields r with
    state := (t.head v).state, move := (t.head v).move, lastMoved := (w.head v).lastMoved
    retries := (w.head v).retries, retryDue := (t.head v).retryDue } := by
  obtain ⟨h1, h2⟩ := h.slot
  have replied : w.head v = { u.head v with
      state := (w.head v).state, move := (w.head v).move, lastMoved := (w.head v).lastMoved
      retries := (w.head v).retries, retryDue := (w.head v).retryDue } := by
    rcases h.cases with same | answered
    · rw [same]
    · exact answered.reported h1 h2
  rw [h.settles.reported, replied, h.head]

theorem counts (still : (s.head v).state ≠ .moving ∧ (s.head v).state ≠ .homing) :
    (t.head v).lastMoved = (s.head v).lastMoved ∧ (t.head v).retries = (s.head v).retries := by
  rw [h.reported]
  have head := h.head
  rcases h.cases with same | answered
  · rw [same, head]; exact ⟨rfl, rfl⟩
  · obtain ⟨lastMoved, retries⟩ := answered.counts (by rw [head]; simpa [Head.running, Head.fields] using still)
    rw [lastMoved, retries, head]
    exact ⟨rfl, rfl⟩

theorem raised {q : Port} {c : Category} {o : ObjectSet} (hw : w.raised q c o) : t.raised q c o := by
  rw [h.ends]; exact endEvent_raised hw

/-! ### The slot is granted again (R92, R118) -/

theorem regranted {e : Entry} (granted : w.SlotGranted t v e) : s.regranted t v r.position e.op := by
  obtain ⟨cfg, fault, field, -⟩ := h.replied
  have position : (t.head v).position = r.position := by rw [h.reported]; rfl
  have head := granted.head
  rw [head] at position
  rw [State.valveCfg, cfg] at head
  refine ⟨fault ▸ granted.fault, field ▸ granted.supply, by rw [granted.state]; cases e.op <;> rfl,
    if e.op = .drive then e.target else 0, fun hop => by simp [hop], by rw [head, ← position]; rfl, ?_⟩
  obtain ⟨c, hc, hslot, hrequest⟩ := granted.commanded
  exact ⟨c, hc, hslot, by rw [hrequest, Entry.request]; cases e.op <;> rfl⟩

theorem regranted_home {e : Entry} (granted : w.SlotGranted t v e)
    (hst : (w.head v).state = .stalled ∨ (w.head v).state = .unknown) : s.regranted t v r.position .home :=
  granted.home_of_stalled hst ▸ h.regranted granted

theorem homedAgain {e : Entry} (granted : w.SlotGranted t v e)
    (hst : (w.head v).state = .stalled ∨ (w.head v).state = .unknown) (arbiter : w.arbiter = u.arbiter) :
    s.homedAgain t v r.position := by
  refine ⟨h.regranted_home granted hst, ?_⟩
  obtain ⟨f, hf, hop⟩ := granted.waited (granted.home_of_stalled hst)
  rw [arbiter, h.arbiter] at hf
  exact ⟨f, hf, hop⟩

theorem regranted_any {e : Entry} (granted : w.SlotGranted t v e) :
    s.regranted t v r.position .drive ∨ s.regranted t v r.position .home := by
  have again := h.regranted granted
  cases hop : e.op with
  | drive => exact .inl (hop ▸ again)
  | home => exact .inr (hop ▸ again)

/-! ### The slot at the end, by what the reply made of its head -/

theorem stays_runs (same : w = u) (hst : (s.head v).state = .moving ∨ (s.head v).state = .homing) :
    t.head v = (s.head v).fields r := by
  have stands := h.settles.stands fun op => by
    rw [same, h.head]
    show headTakes (s.head v).state op = false
    rcases hst with hst | hst <;> rw [hst] <;> cases op <;> rfl
  rw [stands.head, same, h.head]

theorem stalls (stalls : u.ReplyStalls w v) : (∀ q, t.raised q .stall (object v)) ∧
    ((t.head v).state = .stalled ∧ (t.head v).move = none ∧
        (t.head v).retryDue = (if (s.head v).retries < 3 then some (s.clock.elapsed + 60) else none) ∨
      s.homedAgain t v r.position) := by
  refine ⟨fun q => h.raised (stalls.raised h.attn q), ?_⟩
  have head := stalls.head
  rw [h.head, h.clock] at head
  rcases h.settles.outcome with stands | ⟨e, granted⟩
  · rw [stands.head, head]
    exact .inl ⟨rfl, rfl, rfl⟩
  · exact .inr (h.homedAgain granted (.inl (by rw [head])) stalls.arbiter)

theorem stops (stops : u.ReplyStops w v) :
    (t.head v).state = (if (s.head v).state = .stalled then .stalled else .unknown) ∧
        (∃ c ∈ t.link.commands, c.slot = v ∧ c.request = .stop) ∨
      s.homedAgain t v r.position := by
  have state : (w.head v).state = if (s.head v).state = .stalled then .stalled else .unknown := by
    rw [stops.head, h.head]; rfl
  rcases h.settles.outcome with stands | ⟨e, granted⟩
  · exact .inl ⟨by rw [stands.head, state], (stands.commands .stop).mpr stops.stop⟩
  · refine .inr (h.homedAgain granted ?_ stops.arbiter)
    rw [state]
    split
    · exact .inl rfl
    · exact .inr rfl

theorem readies (readies : u.ReplyReadies w v) :
    ((t.head v).state = .ready ∧ (t.head v).move = none ∨
      s.regranted t v r.position .drive ∨ s.regranted t v r.position .home) ∧
    ((s.head v).running = true → (t.head v).lastMoved = s.clock.elapsed) ∧
    (t.head v).retries = if (s.head v).state = .homing then 0 else (s.head v).retries := by
  have head := readies.head
  rw [h.head, h.clock] at head
  refine ⟨?_, fun runs => ?_, ?_⟩
  · rcases h.settles.outcome with stands | ⟨e, granted⟩
    · rw [stands.head, head]
      exact .inl ⟨rfl, rfl⟩
    · exact .inr (h.regranted_any granted)
  · rw [h.reported, head]
    exact if_pos runs
  · rw [h.reported, head]; rfl

theorem homes (homes : u.ReplyHomes w v) :
    (t.head v).state = .unknown ∧ ((s.head v).state = .moving → (t.head v).move = none) ∧
        (s.used v = true → s.queueOk → ∃ e ∈ t.queued v, e.op = .home ∧ e.target = 0) ∨
      s.regranted t v r.position .home := by
  have state : (w.head v).state = .unknown := by rw [homes.head]
  rcases h.settles.outcome with stands | ⟨e, granted⟩
  · refine .inl ⟨by rw [stands.head, state], fun hmoving => ?_, fun hused hqueue => ?_⟩
    · rw [stands.head]
      exact homes.ended (by rw [h.head]; exact hmoving)
    · obtain ⟨-, hentries, -⟩ := hqueue
      have used : u.used v = true := by rw [State.used, State.valveCfg, h.cfg]; exact hused
      obtain ⟨waits, targets⟩ := homes.home used fun e he hop => by
        rw [h.arbiter] at he
        obtain ⟨-, -, htarget⟩ := hentries e he
        exact htarget hop
      have waits' := homeWaits_of_orders waits (stands.waits waits)
      obtain ⟨e, he, hslot, hop⟩ := waits'.exists_home
      have target := targets (e.op, e.target) (stands.waits waits ▸ mem_orders.mpr ⟨e, he, hslot, rfl⟩)
      exact ⟨e.unmarked, mem_queued he hslot, hop, target⟩
  · exact .inr (h.regranted_home granted (.inr state))

end State.Hears

end Sys2Proof.Machine
end

section
/-! PROOF. R89's table over a whole event, the reply to a head's own command, and the offer of a head that becomes READY
(R89, R93, R95, R110, R111; O31). -/

namespace Sys2Proof.Machine

/-! ## The offer to a head that becomes READY (R110, R111) -/

/-- In READY an offer reads state, position, deadband and entries alone (R110). -/
theorem offered_of_ready {s s' t : State} {v : Nat} {w : Wanted} (h : s.offered t v w) (hs : (s.head v).state = .ready)
    (hs' : (s'.head v).state = .ready) (position : (s'.head v).position = (s.head v).position)
    (cfg : s'.valveCfg v = s.valveCfg v) (queued : s'.queued v = s.queued v) : s'.offered t v w := by
  obtain ⟨placed, -, -⟩ := h
  refine ⟨fun r hr => ?_, by rw [hs']; simp, by rw [hs']; exact nofun⟩
  obtain rfl : r = (s.head v).position := by
    rcases hr with ⟨-, hr⟩ | ⟨hmoving, -⟩
    · exact hr.trans position
    · rw [hs'] at hmoving; cases hmoving
  simpa only [State.driveJoined, cfg, queued] using placed _ (.inl ⟨hs, rfl⟩)

/-- In REST with the supply LOW settling leaves every slot's wanted target. -/
theorem settle_rest_wantedOf {s before : State} (hrest : s.boiler.state = .rest) (hbefore : before.boiler.state = .rest)
    (hfault : s.faultInput = false) (hsupply : s.field.supplyOk = false) (v : Nat) :
    (s.settle before).wantedOf v = s.wantedOf v := by
  have stays : s.boilerStays :=
    ⟨by simp [hrest, hfault], by simp [hrest], by simp [hrest], by simp [hrest], by simp [hrest]⟩
  have round : s.remark.grantRound = s.remark := grantRound_unsupplied hsupply
  have marked : s.remark.arbiter.wanted = s.arbiter.wanted := rfl
  rw [settle_of_stays stays (hrest.trans hbefore.symm), round]
  simp [State.wantedOf, marked]

/-- With the supply LOW a ZONE slot keeps target and entries while the plant settles, and so does every slot in REST. -/
theorem settle_low_slot {s before : State} {v : Nat} (hsupply : s.field.supplyOk = false)
    (hrole : (∃ k dump, (s.valveCfg v).role = .zone k dump) ∨
      s.boiler.state = .rest ∧ before.boiler.state = .rest ∧ s.faultInput = false) :
    (s.settle before).wantedOf v = s.wantedOf v ∧ (s.settle before).queued v = s.queued v := by
  rcases hrole with ⟨k, dump, hrole⟩ | ⟨hrest, hbefore, hfault⟩
  · obtain ⟨wanted, queued⟩ := settle_plain before (u := s) (v := v) (by rw [hrole]; rintro (h | h) <;> cases h)
    exact ⟨wanted, queued.resolve_right (by simp [hsupply])⟩
  · exact ⟨settle_rest_wantedOf hrest hbefore hfault hsupply v, settle_rest_queued hrest hbefore hfault hsupply v⟩

theorem offer_wantedOf (s : State) (v w : Nat) : (s.offer v).wantedOf w = s.wantedOf w := by
  rcases offer_cases s v with heq | ⟨-, heq | ⟨x, -, heq⟩⟩ <;> rw [heq]
  · unfold State.dropRegulated; repeat' split
    all_goals rfl
  · unfold State.joinDrive; split <;> rfl

/-! ## The rows of the table -/

section
variable {st : HeadState} {k : ReplyKind}

theorem next_stays (h : st = .stalled ∧ k ≠ .running ∨ st = .ready ∧ k = .atRest ∨
    (st == .moving || st == .homing) = true ∧ k = .running) : k.next st = st := by
  rcases h with ⟨rfl, -⟩ | ⟨rfl, rfl⟩ | ⟨hst, rfl⟩
  · rfl
  · rfl
  · cases st <;> simp_all [ReplyKind.next]

theorem next_stalls (other : st ≠ .stalled) (h : k = .stall ∨ st = .homing ∧ k = .uncalibrated) : k.next st = .stalled := by
  rcases h with rfl | ⟨rfl, rfl⟩
  · cases st <;> rfl
  · rfl

theorem next_running {h : Head} (still : h.running = false) :
    ReplyKind.running.next h.state = if h.state = .stalled then .stalled else .unknown := by
  cases hst : h.state <;> simp_all [ReplyKind.next, Head.running]

theorem next_atRest (other : st ≠ .stalled) : ReplyKind.atRest.next st = .ready := by
  cases st <;> simp_all [ReplyKind.next]

theorem next_uncalibrated (other : st ≠ .stalled ∧ st ≠ .homing) : ReplyKind.uncalibrated.next st = .unknown := by
  cases st <;> simp_all [ReplyKind.next]

end

namespace State.Hears

variable {s u w t : State} {v : Nat} {r : StatusReply} {k : ReplyKind} (h : s.Hears u w t v r)
include h

/-- A head becomes READY only by a reply AT REST. -/
theorem readies_of_ready (hsupply : s.field.supplyOk = false) (hbefore : (s.head v).state ≠ .ready)
    (hready : (t.head v).state = .ready) : u.ReplyReadies w v ∧ (w.head v).state = .ready := by
  obtain ⟨h1, h2⟩ := h.slot
  obtain ⟨-, -, field, -⟩ := h.replied
  have replied : (w.head v).state = .ready := by
    rcases h.settles.outcome with stands | ⟨e, granted⟩
    · rw [← stands.head]; exact hready
    · have supply := granted.supply
      rw [field, hsupply] at supply
      cases supply
  refine ⟨?_, replied⟩
  have found : (u.head v).state ≠ .ready := by rw [h.head]; exact hbefore
  rcases h.cases with same | answered
  · rw [same] at replied; exact absurd replied found
  · generalize r.kind = kind at answered
    cases answered with
    | stays same => rw [same] at replied; exact absurd replied found
    | accepts accepted => rw [accepted, head_setHead_same _ h1 h2] at replied; exact absurd replied found
    | stalls stalls => rw [stalls.head] at replied; cases replied
    | stops stops => rw [stops.head] at replied; dsimp only at replied; split at replied <;> cases replied
    | readies readies => exact readies
    | homes homes => rw [homes.head] at replied; cases replied

theorem offered {x : Wanted} (hslots : v ≤ s.heads.length) (hqueue : s.queueOk) (hsupply : s.field.supplyOk = false)
    (hbefore : (s.head v).state ≠ .ready) (hready : (t.head v).state = .ready) (hwanted : s.wantedOf v = some x)
    (hrole : (∃ k dump, (s.valveCfg v).role = .zone k dump) ∨ s.boiler.state = .rest ∧ s.faultInput = false) :
    t.wantedOf v = some x ∧
      (s.setHead v { s.head v with state := .ready, position := r.position }).offered t v x := by
  obtain ⟨h1, h2⟩ := h.slot
  obtain ⟨cfg, -, field, boiler⟩ := h.replied
  obtain ⟨readies, replied⟩ := h.readies_of_ready hsupply hbefore hready
  obtain ⟨heads, offer⟩ := readies.offers
  have settled : t.wantedOf v = w.wantedOf v ∧ t.queued v = w.queued v := by
    have low : (w.settle s).wantedOf v = w.wantedOf v ∧ (w.settle s).queued v = w.queued v := by
      refine settle_low_slot (field ▸ hsupply) (hrole.imp (fun hzone => ?_) fun ⟨hrest, hfault⟩ => ?_)
      · rw [State.valveCfg, cfg]; exact hzone
      · exact ⟨boiler ▸ hrest, hrest, (faultInput_congr (by rw [cfg]) field).trans hfault⟩
    rw [h.ends]
    exact low
  have head : ({ u with heads } : State).head v = w.head v := by rw [offer]; exact (head_congr v).symm
  have wanted : ({ u with heads } : State).wantedOf v = some x := by
    rw [← hwanted, State.wantedOf, State.wantedOf]; exact congrArg (fun a => item a.wanted v none) h.arbiter
  have queued : ({ u with heads } : State).queued v = s.queued v := queued_congr v (congrArg Arbiter.queue h.arbiter)
  have position : (w.head v).position = r.position := by rw [readies.head, h.head]; rfl
  have written := head_setHead_same (s := s) { s.head v with state := .ready, position := r.position } h1 hslots
  have made : ({ u with heads } : State).offered t v x :=
    offered_of_offer rfl rfl rfl (queued ▸ queued_length hqueue v) wanted (by rw [settled.2, offer])
  refine ⟨by rw [settled.1, offer, offer_wantedOf]; exact wanted, ?_⟩
  refine offered_of_ready made (by rw [head]; exact replied) (by rw [written]) (by rw [written, head, position]) ?_ ?_
  · rw [State.valveCfg, State.valveCfg]; exact congrArg (fun c => item c.valves v .initial) h.cfg.symm
  · exact queued.symm

/-- A head that the reply leaves alone stands, or is granted from READY or STALLED. -/
theorem stays (same : w = u) :
    (t.head v).state = (s.head v).state ∨
      (s.head v).state = .ready ∧ (s.regranted t v r.position .drive ∨ s.regranted t v r.position .home) ∨
      ((s.head v).state = .stalled ∨ (s.head v).state = .unknown) ∧ s.homedAgain t v r.position := by
  have found : (w.head v).state = (s.head v).state := by rw [same, h.head]; rfl
  rcases h.settles.outcome with stands | ⟨e, granted⟩
  · exact .inl (by rw [stands.head, found])
  · have takes := granted.takes
    rw [found] at takes
    by_cases hready : (s.head v).state = .ready
    · exact .inr (.inl ⟨hready, h.regranted_any granted⟩)
    · have waits : (s.head v).state = .stalled ∨ (s.head v).state = .unknown := by
        cases hop : e.op <;> cases hst : (s.head v).state <;> simp_all [headTakes]
      exact .inr (.inr ⟨waits, h.homedAgain granted (found ▸ waits) (by rw [same])⟩)

/-- R89's table: the head stands at the state of its row, or is granted again in the same event. -/
theorem table (answered : u.Answered w v k)
    (heeds : (s.head v).state ≠ .moving ∧ (s.head v).state ≠ .homing ∨ (s.head v).move.any (·.accepted) = true) :
    ((t.head v).state = k.next (s.head v).state ∧
      ((s.head v).state = .moving ∨ (s.head v).state = .homing → k.next (s.head v).state ≠ (s.head v).state →
        (t.head v).move = none)) ∨
    (k.next (s.head v).state = .ready ∧
      (s.regranted t v r.position .drive ∨ s.regranted t v r.position .home)) ∨
    ((k.next (s.head v).state = .stalled ∨ k.next (s.head v).state = .unknown) ∧ s.homedAgain t v r.position) ∨
    (k.next (s.head v).state = .unknown ∧ k = .uncalibrated ∧ s.regranted t v r.position .home) := by
  have state : (u.head v).state = (s.head v).state := by rw [h.head]; rfl
  have runs : (u.head v).running = (s.head v).running := by rw [h.head]; rfl
  have move : (u.head v).move = (s.head v).move := by rw [h.head]; rfl
  cases answered with
  | stays same why =>
    rw [state, runs] at why
    rw [next_stays why]
    rcases h.stays same with stood | ⟨hready, again⟩ | ⟨hwaits, again⟩
    · exact .inl ⟨stood, fun _ hne => absurd rfl hne⟩
    · exact .inr (.inl ⟨hready, again⟩)
    · exact .inr (.inr (.inl ⟨hwaits, again⟩))
  | accepts _ running waited =>
    rw [runs] at running
    rw [move] at waited
    rcases heeds with still | hacc
    · simp [Head.running, still] at running
    · rw [waited] at hacc; cases hacc
  | stalls stalls other why =>
    rw [state] at other why
    rw [next_stalls other why]
    obtain ⟨-, ⟨stood, ended, -⟩ | again⟩ := h.stalls stalls
    · exact .inl ⟨stood, fun _ _ => ended⟩
    · exact .inr (.inr (.inl ⟨.inl rfl, again⟩))
  | stops stops still =>
    rw [runs] at still
    rw [next_running still]
    rcases h.stops stops with ⟨stood, -⟩ | again
    · exact .inl ⟨stood, fun hruns => by rcases hruns with hst | hst <;> simp [Head.running, hst] at still⟩
    · exact .inr (.inr (.inl ⟨by split <;> simp, again⟩))
  | readies readies other =>
    rw [state] at other
    rw [next_atRest other.1]
    obtain ⟨⟨stood, ended⟩ | again, -, -⟩ := h.readies readies
    · exact .inl ⟨stood, fun _ _ => ended⟩
    · exact .inr (.inl ⟨rfl, again⟩)
  | homes homes other =>
    rw [state] at other
    rw [next_uncalibrated other]
    rcases h.homes homes with ⟨stood, ended, -⟩ | again
    · exact .inl ⟨stood, fun hruns _ => ended (hruns.resolve_right other.2)⟩
    · exact .inr (.inr (.inr ⟨rfl, rfl, again⟩))

end State.Hears

end Sys2Proof.Machine
end

section
/-! PROOF. Good replies, their heads and their readings (R89, R93 to R95, R110, R111, R118; O31). -/

namespace Sys2Proof.Machine

/-! ## The kind of a reply, and whose it is (05, section 5.4; R93) -/

/-- A reply to a command of the grant is the head's own. -/
theorem answersGrant_of_granted {s : State} {v : Nat} {cmd : Command}
    (h : s.link.commands.find? (fun c => c.slot == v && c.sent) = some cmd)
    (hcmd : cmd.request = .home ∨ ∃ target, cmd.request = .drive target) : s.answersGrant v = true := by
  rw [State.answersGrant, State.ownCommand, h]
  rcases hcmd with hreq | ⟨target, hreq⟩ <;> simp [hreq, LinkRequest.isGranted]

theorem answersGrant_of_none {s : State} {v : Nat}
    (h : ∀ c ∈ s.link.commands, c.slot = v → c.sent = true → c.request = .poll ∨ c.request = .stop) :
    s.answersGrant v = false := by
  cases hfound : s.ownCommand v with
  | none => rw [State.answersGrant, hfound]; rfl
  | some c =>
    obtain ⟨hslot, hsent⟩ : c.slot = v ∧ c.sent = true := by simpa using List.find?_some hfound
    rw [State.answersGrant, hfound]
    rcases h c (List.mem_of_find?_eq_some hfound) hslot hsent with hreq | hreq <;> simp [hreq, LinkRequest.isGranted]

section
variable {v pos : Nat} {running stall calibrated : Bool} {x : Option Temp}

theorem kind_stall (hstall : stall = true) : (StatusReply.mk v pos running stall calibrated x).kind = .stall := if_pos hstall

theorem kind_running (hstall : stall = false) (hrunning : running = true) :
    (StatusReply.mk v pos running stall calibrated x).kind = .running := by simp [StatusReply.kind, hstall, hrunning]

theorem kind_atRest (hstall : stall = false) (hrunning : running = false) (hcal : calibrated = true) :
    (StatusReply.mk v pos running stall calibrated x).kind = .atRest := by
  simp [StatusReply.kind, hstall, hrunning, hcal]

theorem kind_uncalibrated (hstall : stall = false) (hrunning : running = false) (hcal : calibrated = false) :
    (StatusReply.mk v pos running stall calibrated x).kind = .uncalibrated := by
  simp [StatusReply.kind, hstall, hrunning, hcal]

theorem kind_fails (h : stall = true ∨ running = false ∧ calibrated = false) :
    (StatusReply.mk v pos running stall calibrated x).kind = .stall ∨
      (StatusReply.mk v pos running stall calibrated x).kind = .uncalibrated := by
  cases hstall : stall
  · obtain ⟨hrunning, hcal⟩ := h.resolve_left (by simp [hstall])
    exact .inr (kind_uncalibrated rfl hrunning hcal)
  · exact .inl (kind_stall rfl)

end

theorem kind_running_false {r : StatusReply} (h : r.kind = .uncalibrated) : r.running = false := by
  cases hrunning : r.running
  · rfl
  · cases hstall : r.stall <;> simp [StatusReply.kind, hstall, hrunning] at h

/-! ## The row that answers a reply -/

namespace State.Answered

variable {u w : State} {v : Nat} {k : ReplyKind}

theorem of_stalls (h : u.Answered w v k) (other : (u.head v).state ≠ .stalled)
    (why : k = .stall ∨ (u.head v).state = .homing ∧ k = .uncalibrated) : u.ReplyStalls w v := by
  cases h with
  | stalls stalls => exact stalls
  | stays _ reason => rcases why with rfl | ⟨hst, rfl⟩ <;> simp_all
  | accepts | stops | readies => simp at why
  | homes _ outside => simp_all

theorem of_running (h : u.Answered w v .running) (still : (u.head v).running = false) : u.ReplyStops w v := by
  cases h with
  | stops stops => exact stops
  | stays _ reason => simp_all
  | accepts _ runs => simp_all
  | stalls _ _ reason => simp at reason

theorem of_atRest (h : u.Answered w v .atRest) (other : (u.head v).state ≠ .stalled ∧ (u.head v).state ≠ .ready) :
    u.ReplyReadies w v := by
  cases h with
  | readies readies => exact readies
  | stays _ reason => simp_all
  | stalls _ _ reason => simp at reason

theorem of_uncalibrated (h : u.Answered w v .uncalibrated)
    (other : (u.head v).state ≠ .stalled ∧ (u.head v).state ≠ .homing) : u.ReplyHomes w v := by
  cases h with
  | homes homes => exact homes
  | stays _ reason => simp_all
  | stalls _ _ reason => simp_all

end State.Answered

/-! ## The end of the event, by the reply's kind -/

namespace State.Hears

variable {s u w t : State} {v : Nat} {r : StatusReply} {k : ReplyKind} (h : s.Hears u w t v r)
include h

theorem found : (u.head v).state = (s.head v).state := by rw [h.head]; rfl

theorem found_running : (u.head v).running = (s.head v).running := by rw [h.head]; rfl

theorem stall_raised (answered : u.Answered w v k) (other : (s.head v).state ≠ .stalled)
    (why : k = .stall ∨ (s.head v).state = .homing ∧ k = .uncalibrated) : (∀ q, t.raised q .stall (object v)) ∧
      ((t.head v).state = .stalled ∧ (t.head v).move = none ∧
          (t.head v).retryDue = (if (s.head v).retries < 3 then some (s.clock.elapsed + 60) else none) ∨
        s.homedAgain t v r.position) := by
  rw [← h.found] at other why
  exact h.stalls (answered.of_stalls other why)

/-- A move that fails, or a stall without one, in a slot in use. -/
theorem failed (hused : s.used v = true)
    (heeds : (s.head v).state ≠ .moving ∧ (s.head v).state ≠ .homing ∨ (s.head v).move.any (·.accepted) = true)
    (other : (s.head v).state ≠ .stalled) (why : r.kind = .stall ∨ (s.head v).state = .homing ∧ r.kind = .uncalibrated) :
    (∀ q, t.raised q .stall (object v)) ∧
      ((t.head v).move = none ∧
          (t.head v).retryDue = (if (s.head v).retries < 3 then some (s.clock.elapsed + 60) else none) ∨
        s.homedAgain t v r.position) :=
  (h.stall_raised (h.answered hused heeds) other why).imp_right (Or.imp_left fun ⟨_, ended, due⟩ => ⟨ended, due⟩)

theorem stop_added (answered : u.Answered w v .running) (still : (s.head v).state ≠ .moving ∧ (s.head v).state ≠ .homing) :
    (∃ c ∈ t.link.commands, c.slot = v ∧ c.request = .stop) ∨ s.homedAgain t v r.position := by
  have stops := answered.of_running (by rw [h.found_running]; simpa [Head.running] using still)
  exact (h.stops stops).imp_left fun ⟨_, stop⟩ => stop

theorem completed (answered : u.Answered w v .atRest) (hst : (s.head v).state = .moving ∨ (s.head v).state = .homing) :
    (t.head v).lastMoved = s.clock.elapsed ∧
      (t.head v).retries = (if (s.head v).state = .homing then 0 else (s.head v).retries) ∧
      ((t.head v).state = .ready ∧ (t.head v).move = none ∨
        s.regranted t v r.position .drive ∨ s.regranted t v r.position .home) := by
  have other : (u.head v).state ≠ .stalled ∧ (u.head v).state ≠ .ready := by
    rw [h.found]; rcases hst with hst | hst <;> simp [hst]
  obtain ⟨outcome, moved, counted⟩ := h.readies (answered.of_atRest other)
  exact ⟨moved (by simpa [Head.running] using hst), counted, outcome⟩

theorem homing_asked (answered : u.Answered w v .uncalibrated)
    (other : (s.head v).state ≠ .stalled ∧ (s.head v).state ≠ .homing) :
    (t.head v).state = .unknown ∧ ((s.head v).state = .moving → (t.head v).move = none) ∧
        (s.used v = true → s.queueOk → ∃ e ∈ t.queued v, e.op = .home ∧ e.target = 0) ∨
      s.regranted t v r.position .home :=
  h.homes (answered.of_uncalibrated (by rwa [h.found]))

end State.Hears

/-! ## The reply to a head's own command (R93, R95) -/

/-- The timer of an accepted move: ten seconds over one and a half times the stroke it runs (R95). -/
theorem seconds_eq (m : Move) (op : HeadState) : m.seconds op = 10 +
    if op = .homing then (3 * m.stroke + 1) / 2
    else (3 * m.stroke * (max m.target m.start - min m.target m.start) + 199) / 200 := by
  unfold Move.seconds ceilDiv
  split
  · omega
  · rw [Nat.mul_comm _ 3, ← Nat.mul_assoc]; omega

theorem accept_of_move {h : Head} {m : Move} (hmove : h.move = some m) :
    h.accept = { h with move := some { m with accepted := true, timer := some (m.seconds h.state) } } := by
  rw [Head.accept, hmove]; rfl

namespace State.Hears

variable {s u w t : State} {v : Nat} {r : StatusReply} (h : s.Hears u w t v r)
  (hst : (s.head v).state = .moving ∨ (s.head v).state = .homing)
  (waits : (s.head v).move.any (·.accepted) = false)
include h hst waits

theorem early (own : s.answersGrant v = false) : t.head v = (s.head v).fields r := by
  have same : w = u := by
    rw [h.reply, own]
    exact replyByState_early (by rw [h.head]; exact hst) (by rw [h.head]; exact waits)
  exact h.stays_runs same hst

theorem accepts (own : s.answersGrant v = true) (hkind : r.kind = .running) :
    t.head v = ((s.head v).fields r).accept := by
  obtain ⟨h1, h2⟩ := h.slot
  have accepted : w = u.setHead v (u.head v).accept := by
    rw [h.reply, own, hkind]
    exact replyByState_own (by rw [h.head]; exact hst) (by rw [h.head]; exact waits)
  have head : w.head v = ((s.head v).fields r).accept := by
    rw [accepted, head_setHead_same _ h1 h2, h.head]
  have stands := h.settles.stands fun op => by
    rw [head]
    show headTakes (s.head v).state op = false
    rcases hst with hst | hst <;> rw [hst] <;> cases op <;> rfl
  rw [stands.head, head]

end State.Hears

/-- Settles O31: the reply's row of R89's table (`State.Answered`) and the end of its event (`State.Hears`); the zones'
readings in turn (`goodReply_zone`), and the offer of a head that becomes READY (`State.Hears.offered`). -/
theorem goodReplyUpdatesHeadAndReadings : Obligations.GoodReplyUpdatesHeadAndReadings := by
  refine ⟨fun v pos running stall calibrated x req s ha hshape ht hpos h1 h32 => ?_,
    fun v pos k running stall calibrated x req s ha hshape ht hpos h1 h16 => ?_,
    fun v pos running stall calibrated x req m s ha hshape ht hpos h1 h32 hst hmove hacc => ?_,
    fun v pos running stall calibrated x req s ha hshape ht hpos h1 h32 hused hqueue => ?_⟩
  all_goals have event := exec_goodReply running stall calibrated x ha ht hpos
  · have hears := goodReply_hears req ⟨v, pos, running, stall, calibrated, x⟩ hshape h1 h32
    have ports := portsKept_of_onlyRaises (settle_onlyRaises s
      (goodReply_onlyRaises s ⟨v, req⟩ ⟨v, pos, running, stall, calibrated, x⟩) (by simp))
    have frame := goodReply_frame s ⟨v, req⟩ ⟨v, pos, running, stall, calibrated, x⟩
    have cursor := goodReply_cursor s v req ⟨v, pos, running, stall, calibrated, x⟩
    generalize ((s.goodReply ⟨v, req⟩ ⟨v, pos, running, stall, calibrated, x⟩).settle s).endEvent = t
      at event hears ports frame cursor
    refine ⟨t, event, frame, ports, by rw [hears.reported]; rfl, by rw [hears.reported]; rfl, by rw [hears.reported]; rfl,
      by rw [hears.reported]; rfl, cursor, fun hmoving hhoming => hears.counts ⟨hmoving, hhoming⟩,
      fun hused hstall hrunning hcal hst hacc => ?_, fun hused heeds r hr => ?_⟩
    · have answered := hears.answered hused (.inr hacc)
      rw [kind_atRest hstall hrunning hcal] at answered
      obtain ⟨moved, counted, -⟩ := hears.completed answered hst
      exact ⟨moved, counted⟩
    · have next : r = (StatusReply.mk v pos running stall calibrated x).kind.next (s.head v).state := by
        rw [hr]
        generalize (s.head v).state = st
        cases st <;> cases stall <;> cases running <;> cases calibrated <;> rfl
      have table := hears.table (hears.answered hused heeds) heeds
      rw [← next] at table
      exact table.imp_right (.imp_right (.imp_right fun ⟨hunknown, huncal, again⟩ =>
        ⟨hunknown, kind_running_false huncal, again⟩))
  · have zone := goodReply_zone (r := ⟨v, pos, running, stall, calibrated, some x⟩) ⟨v, req⟩ rfl (zones_length hshape) h1 h16
    refine ⟨_, event, ?_, fun hsource hout q => endEvent_raised ?_⟩
    · rw [← zone]
      simp [State.zone]
    · exact goodReply_raised ⟨v, req⟩ rfl (attn_length hshape) h1 h16 hsource hout q
  · have hears := goodReply_hears req ⟨v, pos, running, stall, calibrated, x⟩ hshape h1 h32
    generalize ((s.goodReply ⟨v, req⟩ ⟨v, pos, running, stall, calibrated, x⟩).settle s).endEvent = t at event hears
    have waits : (s.head v).move.any (·.accepted) = false := by rw [hmove]; exact hacc
    refine ⟨fun hnone => ⟨t, event, hears.early hst waits (answersGrant_of_none hnone)⟩, fun cmd hfound hcmd => ?_⟩
    have own := answersGrant_of_granted hfound hcmd
    have answered := hears.answered_own hst own
    have other : (s.head v).state ≠ .stalled := by rcases hst with hst | hst <;> simp [hst]
    refine ⟨fun hrunning hstall => ⟨t, event, ?_⟩, fun hrunning hstall hcal => ⟨t, event, ?_⟩,
      fun hfails => ⟨t, event, ?_⟩, fun hstall hrunning hcal hmoving => ⟨t, event, ?_⟩⟩
    · rw [hears.accepts hst waits own (kind_running hstall hrunning), accept_of_move (h := (s.head v).fields _) hmove, seconds_eq]
      rfl
    · rw [kind_atRest hstall hrunning hcal] at answered
      exact hears.completed answered hst
    · refine hears.stall_raised answered other ?_
      rcases hfails with hstall | ⟨hrunning, hcal, hhoming⟩
      · exact .inl (kind_stall hstall)
      · exact (kind_fails (.inr ⟨hrunning, hcal⟩)).imp_right fun huncal => ⟨hhoming, huncal⟩
    · rw [kind_uncalibrated hstall hrunning hcal] at answered
      refine (hears.homing_asked answered ⟨other, by simp [hmoving]⟩).imp_left fun ⟨stood, ended, asked⟩ => ?_
      exact ⟨stood, ended hmoving, asked⟩
  · have hears := goodReply_hears req ⟨v, pos, running, stall, calibrated, x⟩ hshape h1 h32
    generalize ((s.goodReply ⟨v, req⟩ ⟨v, pos, running, stall, calibrated, x⟩).settle s).endEvent = t at event hears
    refine ⟨t, event, fun hstall hrunning hmoving hhoming => ?_, fun hstall hrunning hcal hst => ?_, fun hfails => ?_,
      fun x hsupply hbefore hready hwanted hrole =>
        hears.offered (heads_length hshape ▸ h32) hqueue hsupply hbefore hready hwanted hrole⟩
    · have answered := hears.answered hused (.inl ⟨hmoving, hhoming⟩)
      rw [kind_running hstall hrunning] at answered
      exact hears.stop_added answered ⟨hmoving, hhoming⟩
    · have heeds : (s.head v).state ≠ .moving ∧ (s.head v).state ≠ .homing ∨ (s.head v).move.any (·.accepted) = true := by
        rcases hst with hst | hst | hst | ⟨-, hacc⟩
        case inr.inr.inr => exact .inr hacc
        all_goals exact .inl (by simp [hst])
      have other : (s.head v).state ≠ .stalled ∧ (s.head v).state ≠ .homing := by
        rcases hst with hst | hst | hst | ⟨hst, -⟩ <;> simp [hst]
      have answered := hears.answered hused heeds
      rw [kind_uncalibrated hstall hrunning hcal] at answered
      exact (hears.homing_asked answered other).imp_left fun ⟨_, _, asked⟩ => asked hused hqueue
    · rcases hfails with ⟨hstall, hst⟩ | ⟨hacc, ⟨hstall, hst⟩ | ⟨hst, hends⟩⟩
      · have still : (s.head v).state ≠ .moving ∧ (s.head v).state ≠ .homing ∧ (s.head v).state ≠ .stalled := by
          rcases hst with hst | hst | hst <;> simp [hst]
        obtain ⟨hmoving, hhoming, hother⟩ := still
        exact hears.failed hused (.inl ⟨hmoving, hhoming⟩) hother (.inl (kind_stall hstall))
      · exact hears.failed hused (.inr hacc) (by simp [hst]) (.inl (kind_stall hstall))
      · exact hears.failed hused (.inr hacc) (by simp [hst]) ((kind_fails hends).imp_right fun huncal => ⟨hst, huncal⟩)

end Sys2Proof.Machine
end

section
/-! PROOF. What a property of the moves must be kept by for every command to keep it (O56, O57): the effects that bear on
heads, queue, link and supply, and the commands made of them. -/

namespace Sys2Proof.Machine

/-! ## The part of the state that bears on moves -/

/-- The slots' configuration, the motor allowance, the heads, the move queue with the wanted targets, the link's state and
the supply's. -/
def State.moves (s : State) : List ValveCfg × Nat × List Head × List Entry × List (Option Wanted) × Bool × Bool × Option Nat :=
  (s.cfg.valves, s.cfg.boiler.motorAllowance, s.heads, s.arbiter.queue, s.arbiter.wanted, s.link.fault, s.field.supplyOk,
    s.field.supplyLast)

/-- From `s` to `t` no head comes to run a move, none becomes ABSENT, and all else that bears on moves stands. -/
structure State.MovesStand (s t : State) : Prop where
  valves : t.cfg.valves = s.cfg.valves
  allowance : t.cfg.boiler.motorAllowance = s.cfg.boiler.motorAllowance
  queue : t.arbiter.queue = s.arbiter.queue
  wanted : t.arbiter.wanted = s.arbiter.wanted
  fault : t.link.fault = s.link.fault
  supply : t.field.supplyOk = s.field.supplyOk
  measured : t.field.supplyLast = s.field.supplyLast
  running : ∀ v, (t.head v).running = true → (s.head v).running = true
  absent : ∀ v, (t.head v).state = .absent → (s.head v).state = .absent

theorem movesStand_of_moves {s t : State} (h : t.moves = s.moves) : s.MovesStand t := by
  simp only [State.moves, Prod.mk.injEq] at h
  obtain ⟨valves, allowance, heads, queue, wanted, fault, supply, measured⟩ := h
  have head (v : Nat) : t.head v = s.head v := head_congr v heads
  exact ⟨valves, allowance, queue, wanted, fault, supply, measured, fun v h => head v ▸ h, fun v h => head v ▸ h⟩

/-- A record that is written reads as written, or not at all. -/
theorem item_setItem_cases {α : Type} (l : List α) (n m : Nat) (x d : α) :
    item (setItem l n x) m d = item l m d ∨ m = n ∧ item (setItem l n x) m d = x := by
  by_cases hm : m = n
  · subst hm
    by_cases hin : 1 ≤ m ∧ m ≤ l.length
    · exact .inr ⟨rfl, item_setItem_same l m x d hin.1 hin.2⟩
    · exact .inl (by rw [setItem_outside l m x (by omega)])
  · exact .inl (item_setItem_other l n m x d hm)

theorem head_setHead_cases (s : State) (v : Nat) (h : Head) (w : Nat) :
    (s.setHead v h).head w = s.head w ∨ w = v ∧ (s.setHead v h).head w = h := item_setItem_cases s.heads v w h .initial

/-- A head is written that runs, and is ABSENT, only where it did before. -/
theorem movesStand_setHead (s : State) (v : Nat) {h : Head} (running : h.running = true → (s.head v).running = true)
    (absent : h.state = .absent → (s.head v).state = .absent) : s.MovesStand (s.setHead v h) := by
  refine ⟨rfl, rfl, rfl, rfl, rfl, rfl, rfl, fun w => ?_, fun w => ?_⟩
  · rcases head_setHead_cases s v h w with heq | ⟨rfl, heq⟩ <;> rw [heq]
    · exact id
    · exact running
  · rcases head_setHead_cases s v h w with heq | ⟨rfl, heq⟩ <;> rw [heq]
    · exact id
    · exact absent

theorem movesStand_endMove (s : State) (v : Nat) {st : HeadState} (h : st = .unknown ∨ st = .ready) :
    s.MovesStand (s.endMove v st) := by
  rcases h with rfl | rfl <;> exact movesStand_setHead s v (by simp [Head.running]) (by simp)

/-! ## Properties of the moves -/

/-- A property of the moves that every effect on them keeps, each after the rule it follows. -/
structure MovesKeep (P : State → Prop) : Prop where
  stand : ∀ {s t : State}, P s → s.MovesStand t → P t
  form : ∀ s v, P s → P (s.setWanted v (s.formTarget v))
  offer : ∀ s v, P s → P (s.offer v)
  homing : ∀ s v, P s → P (s.requestHoming v)
  exercise : ∀ s v, s.exerciseDue v = true → P s → P (s.newEntry v .drive 100 .exercise)
  marks : ∀ s, P s → P s.remark
  grant : ∀ s e, s.nextGrant = some e → P s → P (s.grant e)
  absent : ∀ s v, P s → P (s.becomeAbsent v)
  fault : ∀ s, P s → P s.enterLinkFault
  clear : ∀ s, P s → P s.linkCleared
  supply : ∀ s n, P s → P (s.measureSupply n)
  role : ∀ s v x, P s → P ((s.setValveCfg v x).roleEffects v (s.valveCfg v).role x.role)
  allowance : ∀ s (b : BoilerCfg),
    ¬ (b.motorAllowance < s.cfg.boiler.motorAllowance ∧ b.motorAllowance < s.unitsInUse) → P s →
    P (s.setCfg { s.cfg with boiler := b })
  loaded : ∀ (s : State) cold, P (s.loadedFrom cold)

namespace MovesKeep

variable {P : State → Prop} (h : MovesKeep P)
include h

theorem same {s t : State} (hs : P s) (heq : t.moves = s.moves) : P t := h.stand hs (movesStand_of_moves heq)

/-! ### Settling -/

theorem formAndOffer {s : State} (v : Nat) (hs : P s) : P (s.formAndOffer v) := h.offer _ v (h.form s v hs)

theorem formAll {s : State} (vs : List Nat) (hs : P s) : P (s.formAll vs) :=
  foldl_induct P State.formAndOffer vs (fun _ v _ hu => h.formAndOffer v hu) s hs

theorem judgeTable {s : State} (hs : P s) : P s.judgeTable := by
  have judged : P (s.setTable (s.table.judged s.boiler.state.warm)) := h.same hs rfl
  unfold State.judgeTable; dsimp only; split
  · exact judged
  · exact h.formAll _ judged

theorem formSinks {s : State} (b : Bool) (hs : P s) : P (s.formSinks b) :=
  h.formAll _ (h.same (t := s.setArbiter { s.arbiter with sinkOpen := b }) hs rfl)

theorem settlingKeeps : SettlingKeeps P where
  boiler _ _ _ hs := h.same hs rfl
  relays _ _ _ _ _ hs := h.same hs rfl
  raises _ _ _ _ hs := h.same hs rfl
  table _ hs := h.judgeTable hs
  sinks s b hs := by
    unfold State.setSinkOpen; split
    · exact hs
    · exact h.formSinks b hs
  marks s hs := h.marks s hs
  grant s e hs hgrant := h.grant s e hgrant hs
  transaction s hs := h.same hs (by simp [State.moves, nextTransaction_fault])

theorem settle {s : State} (before : State) (hs : P s) : P (s.settle before) := h.settlingKeeps.settle before hs

theorem endEvent {s : State} (hs : P s) : P s.endEvent := h.same hs rfl

theorem event {s : State} {f : State → State} (hs : P s) (hf : P (f s)) : P (s.event f) := by
  unfold State.event; split
  · exact hs
  · exact h.endEvent hf

theorem plantEvent {s : State} {f : State → State} (hs : P s) (hf : P (f s)) : P (s.plantEvent f) := by
  unfold State.plantEvent; split
  · exact hs
  · exact h.endEvent (h.settle s hf)

/-! ### The consumer table and the regulator -/

theorem handRequest {s : State} (c level : Nat) (hs : P s) : P (s.handRequest c level) := by
  have judged := h.judgeTable (s := s.setTable
    { s.table with entries := setItem s.table.entries c ((s.consumer c).request level) }) (h.same hs rfl)
  unfold State.handRequest; dsimp only; split
  · exact judged
  · exact h.settlingKeeps.recomputeFlow judged

theorem handRequestOf {s : State} (c : Nat) (hs : P s) : P (s.handRequestOf c) := by
  unfold State.handRequestOf; split
  · exact h.handRequest _ _ hs
  · exact h.handRequest _ _ hs

theorem handOn {s : State} (k old : Nat) (hs : P s) : P (s.handOn k old) := by
  have handed : P ((s.formAll (s.zoneSlots k)).handZoneRequest k) := h.handRequest _ _ (h.formAll _ hs)
  unfold State.handOn; dsimp only; split
  · exact h.settlingKeeps.recomputeFlow handed
  · exact handed

theorem optimumStart {s : State} (k : Nat) (hs : P s) : P (s.optimumStart k) := by
  obtain ⟨rate, p, heq⟩ := preheatLearn_form ((s.preheatSearch k).spoilCheck k) k
  rw [State.optimumStart, heq]
  exact h.same hs (by simp [State.moves])

theorem pass {s : State} (k : Nat) (hs : P s) : P (s.pass k) := by
  have started : P ((s.setZone k { s.zone k with passDue := false }).optimumStart k) :=
    h.optimumStart k (h.same hs rfl)
  exact h.handOn k _ (h.same started (by simp [State.moves]))

/-! ### The valve link -/

theorem endMove {s : State} (v : Nat) {st : HeadState} (hst : st = .unknown ∨ st = .ready) (hs : P s) :
    P (s.endMove v st) := h.stand hs (movesStand_endMove s v hst)

theorem addCommand {s : State} (v : Nat) (r : LinkRequest) (hs : P s) : P (s.addCommand v r) := h.same hs rfl

theorem enterStalled {s : State} (v : Nat) (hs : P s) : P (s.enterStalled v) := by
  refine h.same (s := s.setHead v { s.head v with
    state := .stalled, move := none, retryDue := if (s.head v).retries < 3 then some (s.clock.elapsed + 60) else none })
    (h.stand hs (movesStand_setHead s v ?_ ?_)) rfl <;> simp [Head.running]

theorem becomeReady {s : State} (v : Nat) (hs : P s) : P (s.becomeReady v) :=
  h.offer _ v (h.endMove v (.inr rfl) hs)

theorem completeMove {s : State} (v : Nat) (hs : P s) : P (s.completeMove v) :=
  h.becomeReady v (h.stand hs (movesStand_setHead s v (fun hr => hr) fun ha => ha))

theorem homeUnknown {s : State} (v : Nat) (hs : P s) : P ((s.endMove v .unknown).requestHoming v) :=
  h.homing _ v (h.endMove v (.inl rfl) hs)

theorem unknownReply {s : State} (v : Nat) (kind : ReplyKind) (hs : P s) : P (s.unknownReply v kind) := by
  cases kind with
  | stall => exact h.enterStalled v hs
  | running => exact h.addCommand v _ hs
  | atRest => exact h.becomeReady v hs
  | uncalibrated => exact h.homing s v hs

theorem readyReply {s : State} (v : Nat) (kind : ReplyKind) (hs : P s) : P (s.readyReply v kind) := by
  cases kind with
  | stall => exact h.enterStalled v hs
  | running => exact h.addCommand v _ (h.endMove v (.inl rfl) hs)
  | atRest => exact hs
  | uncalibrated => exact h.homeUnknown v hs

theorem movingReply {s : State} (v : Nat) (kind : ReplyKind) (hs : P s) : P (s.movingReply v kind) := by
  cases kind with
  | stall => exact h.enterStalled v hs
  | running => exact hs
  | atRest => exact h.completeMove v hs
  | uncalibrated =>
    unfold State.movingReply; dsimp only; split
    · exact h.enterStalled v hs
    · exact h.homeUnknown v hs

theorem ownReply {s : State} (v : Nat) (kind : ReplyKind) (hs : P s) : P (s.ownReply v kind) := by
  cases kind with
  | running => exact h.stand hs (movesStand_setHead s v (fun hr => hr) fun ha => ha)
  | stall => exact h.movingReply v .stall hs
  | atRest => exact h.movingReply v .atRest hs
  | uncalibrated => exact h.movingReply v .uncalibrated hs

theorem stalledReply {s : State} (v : Nat) (kind : ReplyKind) (hs : P s) : P (s.stalledReply v kind) := by
  cases kind with
  | running => exact h.addCommand v _ hs
  | stall => exact hs
  | atRest => exact hs
  | uncalibrated => exact hs

theorem replyByState {s : State} (v : Nat) (own : Bool) (kind : ReplyKind) (hs : P s) : P (s.replyByState v own kind) := by
  have runs : P (if (s.head v).move.any (·.accepted) then s.movingReply v kind
      else if own then s.ownReply v kind else s) := by
    split
    · exact h.movingReply v kind hs
    split
    · exact h.ownReply v kind hs
    · exact hs
  unfold State.replyByState; dsimp only; split
  · exact hs
  split
  · exact h.unknownReply v kind hs
  · exact h.unknownReply v kind (h.endMove v (.inl rfl) hs)
  · exact h.readyReply v kind hs
  · exact h.stalledReply v kind hs
  · exact runs
  · exact runs

theorem goodReply {s : State} (t : Transaction) (r : StatusReply) (hs : P s) : P (s.goodReply t r) := by
  have answered : P (s.setLink (s.link.answered t)) := h.same hs rfl
  have heard := h.stand answered (movesStand_setHead _ t.slot
    (h := ((s.setLink (s.link.answered t)).head t.slot).fields r) (fun hr => hr) fun ha => ha)
  unfold State.goodReply; dsimp only
  refine h.replyByState _ _ _ ?_
  split
  · exact h.same heard (by simp [State.moves])
  · exact heard

theorem missed {s : State} (t : Transaction) (hs : P s) : P (s.missed t) := by
  have ended : P (s.setLink (s.link.unanswered t)) := h.same hs rfl
  unfold State.missed; dsimp only; split
  · exact ended
  split
  · exact h.stand ended (movesStand_setHead _ t.slot (fun hr => hr) fun ha => ha)
  · exact h.absent _ t.slot ended

theorem stallRetry {s : State} (v : Nat) (hs : P s) : P (s.stallRetry v) :=
  h.homing _ v (h.stand hs (movesStand_setHead s v (fun hr => hr) fun ha => ha))

/-! ### Sensors and inputs -/

theorem setHeatDump {s : State} (b : Bool) (hs : P s) : P (s.setHeatDump b) :=
  h.formAll _ (h.same (t := s.setBoiler { s.boiler with heatDump := b }) hs rfl)

theorem overheat {s : State} (hs : P s) : P s.overheat := by
  have raised : P (((s.setHeatDump true).formSinks true).raise .overheat overheatObject) :=
    h.same (h.formSinks true (h.setHeatDump true hs)) rfl
  unfold State.overheat; dsimp only; split
  · exact h.settlingKeeps.enterOverrun raised
  · exact raised

theorem endDump {s : State} (hs : P s) : P s.endDump := by
  have ended : P s.clearDump := by
    unfold State.clearDump; dsimp only; split
    · exact h.settlingKeeps.sinks _ false (h.setHeatDump false hs)
    · exact h.setHeatDump false hs
  unfold State.endDump; dsimp only; split
  · exact h.settlingKeeps.leadExpiry (h.same ended rfl)
  · exact ended

theorem flowSample {s : State} (hs : P s) : P s.flowSample := by
  unfold State.flowSample; split
  · exact hs
  split
  · exact h.overheat hs
  split
  · exact h.endDump hs
  · exact hs

theorem judgeSample {s : State} (x : Sensor) (v : Temp) (hs : P s) : P (s.judgeSample x v) := by
  have sampled : P (s.setSensor x ((s.sensor x).sample v)) := h.same hs (by cases x <;> rfl)
  unfold State.judgeSample; dsimp only; split
  · exact h.same sampled rfl
  · exact sampled

theorem handSample {s : State} (x : Sensor) (hs : P s) : P (s.handSample x) := by
  cases x with
  | flow => exact h.flowSample hs
  | outdoor => exact h.settlingKeeps.recomputeFlow hs
  | cylinder => exact h.handRequest _ _ (h.same hs rfl)

/-! ### Time and resets -/

theorem exerciseSlot {s : State} (hs : P s) : P s.exercise := by
  unfold State.exercise; split
  · refine foldl_induct P _ slotNumbers (fun u v _ hu => ?_) s hs
    split
    · exact h.exercise u v ‹_› hu
    · exact hu
  · exact hs

theorem wallMinute {s : State} (hs : P s) : P s.wallMinute := by
  have boundary : P ((s.setClock s.clock.wallMinute).slotBoundary s.baseLevel) := h.same hs (by simp [State.moves])
  unfold State.wallMinute; dsimp only; split
  · split
    · exact h.settle s (h.exerciseSlot boundary)
    · exact boundary
  · exact h.same hs rfl

theorem takeMinutes {s : State} (hs : P s) : P s.takeMinutes := by
  have elapsed : P (elapsedMinuteEvent s) := by
    unfold elapsedMinuteEvent; split
    · exact h.event hs (h.same hs (by simp [State.moves]))
    · exact hs
  unfold State.takeMinutes wallMinuteEvent; split
  · exact h.event elapsed (h.wallMinute elapsed)
  · exact elapsed

theorem tick {s : State} (hs : P s) : P s.tick := by
  have head (v : Nat) : s.tick.head v = (s.head v).tick := item_map Head.tick s.heads v .initial
  obtain ⟨supply, measured⟩ : s.tick.field.supplyOk = s.field.supplyOk ∧ s.tick.field.supplyLast = s.field.supplyLast := by
    show s.field.tick.supplyOk = _ ∧ s.field.tick.supplyLast = _
    unfold FieldIO.tick; dsimp only; split <;> exact ⟨rfl, rfl⟩
  exact h.stand hs ⟨rfl, rfl, rfl, rfl, rfl, supply, measured, fun v hr => by rw [head] at hr; exact hr,
    fun v ha => by rw [head] at ha; exact ha⟩

theorem bootFrom (s : State) (cold : Bool) : P (s.bootFrom cold) := by
  have raised : P ((s.loadedFrom cold).resetRaises cold) := by
    refine h.same (h.loaded s cold) ?_
    simp only [State.resetRaises]; repeat' split
    all_goals simp [State.moves]
  have compiled : P ((s.loadedFrom cold).resetRaises cold).compileAll := h.same raised (by simp [State.moves])
  exact h.endEvent (h.settlingKeeps.settleWith _ _ (h.settlingKeeps.withFlow (h.formAll slotNumbers compiled)))

end MovesKeep

end Sys2Proof.Machine
end

section
/-! PROOF. Every command keeps a property of the moves that the effects on them keep (O56, O57). -/

namespace Sys2Proof.Machine

/-! ## Writes that do not bear on moves -/

theorem writeDraft_moves (s : State) (c : Nat) (d : ChannelDraft) : (s.writeDraft c d).moves = s.moves := by
  unfold State.writeDraft; dsimp only; split <;> rfl

theorem parkIn_moves (s : State) (k n : Nat) : (s.parkIn k n).moves = s.moves := rfl

theorem unparkFrom_moves (s : State) (k n : Nat) (x : Park) : (s.unparkFrom k n x).moves = s.moves := by
  unfold State.unparkFrom; dsimp only; split
  · simp [State.moves]
  · rfl

theorem reconfigureInput_moves (s : State) (n : Nat) (x : InputCfg) : (s.reconfigureInput n x).moves = s.moves := by
  unfold State.reconfigureInput; dsimp only
  repeat' split
  all_goals simp [State.moves]

theorem commit_moves (s : State) (c : EditClaim) : (s.commit c).moves = s.moves := by
  simp [State.commit, State.moves]

theorem establishInput_moves (s : State) (n : Nat) (high : Bool) : (s.establishInput n high).moves = s.moves := by
  unfold State.establishInput; dsimp only; split
  · simp [State.moves]
  · rfl

theorem changeInput_moves (s : State) (n : Nat) (high : Bool) : (s.changeInput n high).moves = s.moves := by
  unfold State.changeInput; dsimp only
  repeat' split
  all_goals simp [State.moves]

theorem sampleInput_moves (s : State) (n : Nat) (high : Bool) : (s.sampleInput n high).moves = s.moves := by
  unfold State.sampleInput; split
  · rfl
  · exact establishInput_moves s n high
  · exact changeInput_moves s n high

theorem clearEdges_moves (s : State) (ns : List Nat) : (ns.foldl State.clearEdges s).moves = s.moves :=
  foldl_keeps State.clearEdges State.moves (fun _ _ => rfl) ns s

theorem placeLayers_moves (l : State → Nat → Layer) (cs : List Nat) (s : State) :
    (cs.foldl (fun t c => t.placeLayer c (l s c)) s).moves = s.moves :=
  foldl_keeps (fun t c => t.placeLayer c (l s c)) State.moves (fun t c => by simp [State.moves]) cs s

theorem setPort_moves (s : State) (p : Port) (x : PortState) : (s.setPort p x).moves = s.moves := by cases p <;> rfl

/-- A request whose work leaves all that bears on moves. -/
def Request.LeavesMoves (r : Request) : Prop := ∀ s : State, (r.work s).1.moves = s.moves

theorem clockSet_leavesMoves (m sec q : Nat) : (clockSetRequest m sec q).LeavesMoves := fun s => by
  simp only [clockSetRequest, clockSetWork]; repeat' split
  · rfl
  · rfl
  · simp [done, State.moves]

theorem roomTemp_leavesMoves (k : Nat) (x : Temp) : (roomTempRequest k x).LeavesMoves := fun s => by
  simp only [roomTempRequest, roomTempWork]; repeat' split
  · rfl
  · rfl
  · simp [State.moves]

theorem layerPush_leavesMoves (p : Port) (m : BitVec 24) (k : Nat) (x : Temp) (d : Nat) :
    (layerPushRequest p m k x d).LeavesMoves := fun s => by
  simp only [layerPushRequest, layerPushWork]; repeat' split
  case h_3.isFalse.isFalse kind _ _ _ _ => exact placeLayers_moves (fun s c => s.pushedLayer c kind (portOrigin p) x d) _ s
  all_goals rfl

theorem layerClear_leavesMoves (m : BitVec 24) : (layerClearRequest m).LeavesMoves := fun s => by
  simp only [layerClearRequest, layerClearWork]; split
  · rfl
  · exact foldl_keeps State.clearStack State.moves (fun _ _ => rfl) (maskChannels m) s

theorem inputGet_leavesMoves (n : Option Nat) (clear : Bool) : (inputGetRequest n clear).LeavesMoves := fun s => by
  simp only [inputGetRequest, inputGetWork]; repeat' split
  · rfl
  · exact clearEdges_moves s _
  · rfl

theorem attnMask_leavesMoves (p : Port) (items : List MaskItem) : (attnMaskRequest p items).LeavesMoves := fun s => by
  simp only [attnMaskRequest, attnMaskWork]; split
  · cases p <;> rfl
  · rfl

theorem editCommit_leavesMoves (p : Port) : (editCommitRequest p).LeavesMoves := fun s => by
  simp only [editCommitRequest, editCommitWork]; repeat' split
  · rfl
  · rfl
  · exact commit_moves s _

theorem readPart_moves (p : Port) (tag : Nat) (t : TableName) (first : Nat) (s : State) :
    (readPart p tag t first s).1.moves = s.moves := by
  unfold readPart; dsimp only; split <;> exact setPort_moves s p _

theorem tableRead_leavesMoves (p : Port) (tag : Nat) : (tableReadRequest p tag).LeavesMoves := fun s => by
  simp only [tableReadRequest, tableReadWork]; repeat' split
  · exact readPart_moves ..
  · rfl
  · rfl
  · exact readPart_moves ..
  · rfl

/-- An event that takes place on a condition, or not at all (log 2). -/
theorem event_ite {P : State → Prop} {c : Prop} [Decidable c] {s t : State} (hs : P s) (ht : P t) :
    P (if c then t else s) := by
  split
  · exact ht
  · exact hs

namespace MovesKeep

variable {P : State → Prop} (h : MovesKeep P)
include h

/-! ## Requests -/

theorem channelSetWork {s : State} (c : Nat) (fs : List (Nat × Int)) (hs : P s) : P (channelSetWork c fs s).1 := by
  have effects (d : ChannelDraft) : P ((s.writeDraft c d).draftEffects c (s.draft c) d) :=
    h.same (h.same hs (writeDraft_moves s c d)) (by simp [State.moves])
  unfold Machine.channelSetWork; dsimp only
  split
  · exact hs
  split
  · exact hs
  next d _ =>
  split
  · exact hs
  split
  · exact effects d
  · exact h.settle s (h.handRequestOf c (effects d))

theorem zoneParkWork {s : State} (k : Nat) (hs : P s) : P (zoneParkWork k s).1 := by
  unfold Machine.zoneParkWork
  split
  · exact hs
  split
  · exact hs
  split
  · exact hs
  · exact h.settle s (h.handRequest _ _ (h.same hs (parkIn_moves s k _)))

theorem zoneUnparkWork {s : State} (k : Nat) (hs : P s) : P (zoneUnparkWork k s).1 := by
  unfold Machine.zoneUnparkWork
  split
  · exact hs
  split
  · exact hs
  split
  · exact hs
  · exact h.settle s (h.handRequest _ _ (h.same hs (unparkFrom_moves s k _ _)))

theorem valveSetWork {s : State} (v : Nat) (fs : List (Nat × Int)) (hs : P s) : P (valveSetWork v fs s).1 := by
  unfold Machine.valveSetWork
  split
  · exact hs
  split
  · exact hs
  split
  · exact hs
  · exact h.settle s (h.role s v _ hs)

theorem valveHomeWork {s : State} (v : Nat) (hs : P s) : P (valveHomeWork v s).1 := by
  unfold Machine.valveHomeWork
  split
  · exact hs
  split
  · exact hs
  · exact h.settle s (h.homing _ v (h.stand hs (movesStand_setHead s v (fun hr => hr) fun ha => ha)))

theorem linkClearWork {s : State} (hs : P s) : P (linkClearWork s).1 := by
  unfold Machine.linkClearWork
  split
  · exact hs
  · exact h.settle s (h.clear s hs)

theorem boilerSetWork {s : State} (fs : List (Nat × Int)) (hs : P s) : P (boilerSetWork fs s).1 := by
  unfold Machine.boilerSetWork
  split
  · exact hs
  split
  · exact hs
  · next b _ hfree =>
    exact h.settlingKeeps.settleWith _ _ (h.settlingKeeps.recomputeFlow (h.allowance s b hfree hs))

theorem inputSetWork {s : State} (n a b : Nat) (z : Option Nat) (x : Option Temp) (m : Option Nat) (hs : P s) :
    P (inputSetWork n a b z x m s).1 := by
  unfold Machine.inputSetWork
  split
  · split
    · exact hs
    split
    · exact hs
    · exact h.settle s (h.same hs (reconfigureInput_moves s n _))
  · exact hs

theorem leaves {s : State} {r : Request} (hr : r.LeavesMoves) (hs : P s) : P (r.work s).1 := h.same hs (hr s)

/-- The work of every request command's request. -/
theorem work {i : Instr} {p : Port} {r : Request} (hi : requestOf i = some (p, r)) {s : State} (hs : P s) :
    P (r.work s).1 := by
  cases i <;> cases hi
  case channelSet => exact h.channelSetWork _ _ hs
  case zonePark => exact h.zoneParkWork _ hs
  case zoneUnpark => exact h.zoneUnparkWork _ hs
  case valveSet => exact h.valveSetWork _ _ hs
  case valveHome => exact h.valveHomeWork _ hs
  case linkClear => exact h.linkClearWork hs
  case boilerSet => exact h.boilerSetWork _ hs
  case inputSet => exact h.inputSetWork _ _ _ _ _ _ hs
  case clockSet => exact h.leaves (clockSet_leavesMoves _ _ _) hs
  case roomTemp => exact h.leaves (roomTemp_leavesMoves _ _) hs
  case layerPush => exact h.leaves (layerPush_leavesMoves _ _ _ _ _) hs
  case layerClear => exact h.leaves (layerClear_leavesMoves _) hs
  case inputGet => exact h.leaves (inputGet_leavesMoves _ _) hs
  case attnMask => exact h.leaves (attnMask_leavesMoves _ _) hs
  case editCommit => exact h.leaves (editCommit_leavesMoves _) hs
  case tableRead => exact h.leaves (tableRead_leavesMoves _ _) hs
  case attnGet => exact h.same hs (setPort_moves s _ _)
  case channelGet => simp only [channelGetRequest, channelGetWork]; split <;> exact hs
  case valveGet => simp only [valveGetRequest, valveGetWork]; split <;> exact hs
  case layerPop =>
    simp only [layerPopRequest, layerPopWork]; repeat' split
    all_goals exact h.same hs rfl
  case holdRelease =>
    simp only [holdReleaseRequest, holdReleaseWork]; repeat' split
    all_goals exact h.same hs rfl
  case editClaim =>
    simp only [editClaimRequest, editClaimWork]; repeat' split
    all_goals exact h.same hs rfl
  case editDrop =>
    simp only [editDropRequest, editDropWork]; split
    all_goals exact h.same hs rfl
  case tableWrite =>
    simp only [tableWriteRequest, tableWriteWork]; repeat' split
    all_goals exact h.same hs rfl
  all_goals exact h.same hs rfl

/-! ## Requests met at a port (R168, R169) -/

theorem serve {s : State} (f : Form) (hf : ∀ r, f = .fits r → ∃ i p, requestOf i = some (p, r)) (hs : P s) :
    P (f.serve s).1 := by
  cases f with
  | unknown => exact hs
  | malformed => exact hs
  | fits r =>
    obtain ⟨i, p, hi⟩ := hf r rfl
    unfold Form.serve; dsimp only
    split
    · exact hs
    split
    · exact hs
    split
    · exact hs
    · exact h.work hi hs

theorem complete {s : State} (p : Port) (kind : Byte) (f : Form)
    (hf : ∀ r, f = .fits r → ∃ i p, requestOf i = some (p, r)) (hs : P s) : P (s.complete p kind f) := by
  have met : P (s.met p) := h.same hs (by simp [State.moves])
  rw [complete_met]
  unfold State.meet; dsimp only
  split
  · exact h.same (h.serve f hf met) (setPort_moves _ p _)
  split
  · exact h.same met (setPort_moves _ p _)
  · exact h.same met (setPort_moves _ p _)

theorem discardFrame {s : State} (p : Port) (hs : P s) : P (s.discardFrame p) := h.same hs (by simp [State.moves])

theorem takeByteAt {s : State} (p : Port) (b : Byte) (hs : P s) : P (s.takeByteAt p b) := by
  have received (rx : Receiver) : P (s.setRx p rx) := h.same hs (setPort_moves s p _)
  have completed (bytes : List Byte) : P (s.completeFrame p bytes) := by
    cases bytes with
    | nil => exact received .idle
    | cons kind payload =>
      refine h.complete p kind _ (fun r hr => ?_) hs
      obtain ⟨i, hi⟩ := formOf_requestOf hr
      exact ⟨i, p, hi⟩
  unfold State.takeByteAt
  split
  · split
    · exact received _
    · exact hs
  · split
    · exact h.discardFrame p hs
    · exact received _
  · split
    · exact received _
    split
    · exact completed _
    · exact h.discardFrame p hs

/-! ## Events -/

theorem nextStop {s : State} (vs : List Nat) (hs : P s) : P (s.nextStop vs) := by
  cases vs <;> exact h.same hs rfl

theorem warmStart {s : State} (hs : P s) : P s.warmStart := by
  unfold State.warmStart; dsimp only
  exact h.nextStop _ (h.same hs rfl)

theorem frameSentEvent {s : State} (p : Port) (hs : P s) : P (frameSentEvent p s) := by
  unfold Machine.frameSentEvent; split
  · exact hs
  split
  · exact h.warmStart hs
  · exact h.event hs (h.same hs (setPort_moves s p _))

theorem exec_event {i : Instr} (hi : requestOf i = none) {s : State} (hs : P s) : ∃ t, exec i s = .next t ∧ P t := by
  cases i <;> simp only [requestOf, reduceCtorEq] at hi <;> refine ⟨_, rfl, ?_⟩
  case coldReset => exact h.bootFrom s true
  case warmResetComplete => exact event_ite hs (h.bootFrom s false)
  case wallMinute => exact event_ite hs (h.event hs (h.wallMinute hs))
  case elapsedMinute => exact event_ite hs (h.event hs (h.same hs (by simp [State.moves])))
  case secondTick =>
    simp only [secondTickEvent]; split
    · exact h.same hs rfl
    · exact h.tick (h.takeMinutes hs)
  case layerExpiry => exact h.event hs (h.same hs rfl)
  case watchEnd => exact event_ite hs (h.event hs (h.same hs rfl))
  case discardedReply => exact hs
  case stallRetry v => exact event_ite hs (h.plantEvent hs (h.stallRetry v hs))
  case minOnElapsed => exact event_ite hs (h.plantEvent hs (h.settlingKeeps.enterOverrun hs))
  case minOffElapsed => exact event_ite hs (h.plantEvent hs (h.settlingKeeps.enterIdle hs))
  case regulationPass k => exact event_ite hs (h.plantEvent hs (h.pass k hs))
  case goodReply =>
    simp only [goodReplyEvent]; split
    · exact hs
    · exact h.plantEvent hs (h.goodReply _ _ hs)
  case miss =>
    simp only [missEvent]; split
    · exact hs
    · exact h.plantEvent hs (h.missed _ hs)
  case moveTimeout v => exact event_ite hs (h.plantEvent hs (h.addCommand v _ (h.enterStalled v hs)))
  case linkFault =>
    simp only [linkFaultEvent]; split
    · exact hs
    · exact h.plantEvent hs (h.fault s hs)
  case supplyMeasurement n => exact h.plantEvent hs (h.supply s n hs)
  case supplyQualified n => exact event_ite hs (h.plantEvent hs (h.supply s n hs))
  case sensorSample x v => exact event_ite hs (h.plantEvent hs (h.handSample x (h.judgeSample x v hs)))
  case inputChange n high => exact event_ite hs (h.plantEvent hs (h.same hs (changeInput_moves s n high)))
  case inputEstablished n high => exact event_ite hs (h.plantEvent hs (h.same hs (establishInput_moves s n high)))
  case inputSample n high =>
    have sampled : P (s.sampleInput n high) := h.same hs (sampleInput_moves s n high)
    simp only [inputSampleEvent]; split
    · exact hs
    split
    · exact h.event hs sampled
    · exact h.plantEvent hs sampled
  case leadExpiry => exact event_ite hs (h.plantEvent hs (h.settlingKeeps.leadExpiry hs))
  case overrunExpiry => exact event_ite hs (h.plantEvent hs (h.settlingKeeps.enterRest hs))
  case pumpTimerExpiry => exact event_ite hs (h.plantEvent hs (h.same hs rfl))
  case rampStep => exact event_ite hs (h.event hs (h.same hs (by simp only [State.rampStep]; split <;> rfl)))
  case storeWriteEnd =>
    simp only [storeWriteEndEvent]; split
    · exact hs
    · exact h.event hs (h.same hs rfl)
  case editClaimLapse =>
    simp only [editClaimLapseEvent]; split
    · exact event_ite hs (h.event hs (h.same hs (by simp [State.moves, State.lapse])))
    · exact hs
  case frameGap p =>
    simp only [frameGapEvent]; split
    · exact hs
    · exact h.event hs (h.discardFrame p hs)
  case frameDiscard p _ => exact event_ite hs (h.event hs (h.discardFrame p hs))
  case frameSent p => exact h.frameSentEvent p hs
  case unknownKind p kind =>
    simp only [unknownKindEvent]; split
    · exact hs
    · exact h.event hs (h.complete p kind _ (by simp) hs)
  case byteArrival p b => exact h.event hs (h.takeByteAt p b hs)
  case warmResetStopEnd =>
    simp only [warmResetStopEndEvent]; split
    · exact hs
    · exact event_ite hs (h.nextStop _ hs)

theorem exec (i : Instr) {s : State} (hs : P s) : ∃ t, exec i s = .next t ∧ P t := by
  cases hi : requestOf i with
  | none => exact h.exec_event hi hs
  | some q =>
    obtain ⟨p, r⟩ := q
    exact ⟨_, exec_requestOf hi s, h.event hs (h.complete p r.kind _ (by rintro _ ⟨⟩; exact ⟨i, p, hi⟩) hs)⟩

/-- A step keeps it: taking the command off the queue bears on no move. -/
theorem step {s t : State} (hs : P s) (hstep : step s = .next t) : P t := by
  unfold Machine.step at hstep
  split at hstep
  · cases hstep; exact hs
  · next c rest _ =>
    obtain ⟨u, hu, hP⟩ := h.exec c (s := { s with pending := rest }) (h.same hs rfl)
    rw [hu] at hstep
    cases hstep
    exact hP

end MovesKeep

end Sys2Proof.Machine
end

section
/-! PROOF. The motor allowance (R116), kept by every command (O56). -/

namespace Sys2Proof.Machine

/-! ## Units in use (R116) -/

theorem unitsInUse_le {s t : State} (h : ∀ v, (t.head v).running = true → (s.head v).running = true) :
    t.unitsInUse ≤ s.unitsInUse :=
  (List.monotone_filter_right slotNumbers h).length_le

theorem unitsInUse_congr {s t : State} (h : t.heads = s.heads) : t.unitsInUse = s.unitsInUse := by
  simp only [State.unitsInUse, State.runningSlots, head_congr _ h]

theorem unitsInUse_eq_zero {s : State} (h : ∀ v, (s.head v).running ≠ true) : s.unitsInUse = 0 :=
  List.length_eq_zero_iff.mpr (List.filter_eq_nil_iff.mpr fun v _ => h v)

/-- A grant takes at most one unit, whatever slot it is of (R116). -/
theorem grant_unitsInUse_le (s : State) (e : Entry) : (s.grant e).unitsInUse ≤ s.unitsInUse + 1 := by
  refine (List.subperm_of_subset (l₂ := e.slot :: s.runningSlots) (runningSlots_nodup _) fun v hv => ?_).length_le
  by_cases hslot : v = e.slot
  · rw [hslot]; exact List.mem_cons_self ..
  · rw [mem_runningSlots, grant_head_other s e v hslot] at hv
    exact List.mem_cons_of_mem _ (mem_runningSlots.mpr hv)

/-! ## Moves that are stopped (R98, R102) -/

theorem endMove_running {s : State} {k v : Nat} (h : ((s.endMove k .unknown).head v).running = true) :
    v ≠ k ∧ (s.head v).running = true := by
  by_cases hv : v = k
  · subst hv
    by_cases hin : 1 ≤ v ∧ v ≤ s.heads.length
    · rw [State.endMove, head_setHead_same _ hin.1 hin.2] at h
      cases h
    · rw [State.head, item_outside _ _ _ (by simp only [State.endMove, State.setHead, length_setItem]; omega)] at h
      cases h
  · rw [State.endMove, head_setHead_other s _ hv] at h
    exact ⟨hv, h⟩

/-- Of slots whose moves are ended none runs, whatever else is done beside it. -/
theorem foldl_endMove_running {f : State → Nat → State} (hf : ∀ u k, (f u k).heads = (u.endMove k .unknown).heads)
    (vs : List Nat) {s : State} {v : Nat} (h : ((vs.foldl f s).head v).running = true) :
    v ∉ vs ∧ (s.head v).running = true := by
  induction vs generalizing s with
  | nil => exact ⟨List.not_mem_nil, h⟩
  | cons k vs ih =>
    obtain ⟨hvs, hrun⟩ := ih h
    rw [head_congr v (hf s k)] at hrun
    obtain ⟨hk, hrun⟩ := endMove_running hrun
    exact ⟨fun hmem => (List.mem_cons.mp hmem).elim hk hvs, hrun⟩

/-- Once the moves of all running slots are ended no unit is in use. -/
theorem unitsInUse_stopped {f : State → Nat → State} (hf : ∀ u k, (f u k).heads = (u.endMove k .unknown).heads)
    {s t : State} (h : t.heads = s.heads) : (s.runningSlots.foldl f t).unitsInUse = 0 := by
  refine List.length_eq_zero_iff.mpr (List.filter_eq_nil_iff.mpr fun v hv hrun => ?_)
  obtain ⟨hstopped, hrun⟩ := foldl_endMove_running hf _ hrun
  exact hstopped (List.mem_filter.mpr ⟨hv, head_congr v h ▸ hrun⟩)

theorem enterLinkFault_unitsInUse (s : State) : s.enterLinkFault.unitsInUse = 0 :=
  unitsInUse_stopped (f := fun u v => u.endMove v .unknown) (fun _ _ => rfl)
    (t := s.setLink { s.link with fault := true, transaction := none, commands := [] }) rfl

theorem supplyStop_unitsInUse (s : State) : s.supplyStop.unitsInUse = 0 :=
  unitsInUse_stopped (f := fun u v => (u.endMove v .unknown).addCommand v .stop) (fun _ _ => rfl)
    (t := s.setField { s.field with supplyOk := false, supplyQual := 0 }) rfl

/-! ## The allowance, effect by effect -/

/-- With no more heads running, under the same allowance, link and supply. -/
theorem movesBounded_of_le {s t : State} (h : s.movesBounded) (units : t.unitsInUse ≤ s.unitsInUse)
    (allowance : t.cfg.boiler.motorAllowance = s.cfg.boiler.motorAllowance) (fault : t.link.fault = s.link.fault)
    (supply : t.field.supplyOk = s.field.supplyOk) (measured : t.field.supplyLast = s.field.supplyLast) :
    t.movesBounded := by
  obtain ⟨hle, hlow, hfault, hlast⟩ := h
  refine ⟨by omega, fun h => ?_, fun h => ?_, fun h => supply ▸ hlast (measured ▸ h)⟩
  · have := hlow (supply ▸ h); omega
  · have := hfault (fault ▸ h); omega

theorem movesBounded_of_stand {s t : State} (h : s.movesBounded) (hstand : s.MovesStand t) : t.movesBounded :=
  movesBounded_of_le h (unitsInUse_le hstand.running) hstand.allowance hstand.fault hstand.supply hstand.measured

/-- What changes the queue and the wanted targets alone. -/
theorem movesBounded_congr {s t : State} (h : s.movesBounded) (heads : t.heads = s.heads := by simp)
    (cfg : t.cfg = s.cfg := by simp) (link : t.link = s.link := by simp) (field : t.field = s.field := by simp) :
    t.movesBounded :=
  movesBounded_of_le h (unitsInUse_congr heads).le (by rw [cfg]) (by rw [link]) (by rw [field]) (by rw [field])

/-- With no head running only the supply's record is judged (R101). -/
theorem movesBounded_of_none {s : State} (h : s.unitsInUse = 0) (hlast : s.field.supplyLast = none → s.field.supplyOk = false) :
    s.movesBounded := ⟨by omega, fun _ => h, fun _ => h, hlast⟩

/-- A head is written that runs only where it ran. -/
theorem setHead_movesBounded {s : State} (v : Nat) {g : Head} (hg : g.running = true → (s.head v).running = true)
    (h : s.movesBounded) : (s.setHead v g).movesBounded := by
  refine movesBounded_of_le h (unitsInUse_le fun w hw => ?_) rfl rfl rfl rfl
  rcases head_setHead_cases s v g w with heq | ⟨rfl, heq⟩ <;> rw [heq] at hw
  · exact hw
  · exact hg hw

theorem grant_movesBounded {s : State} {e : Entry} (hgrant : s.nextGrant = some e) (h : s.movesBounded) :
    (s.grant e).movesBounded := by
  obtain ⟨-, -, -, hlast⟩ := h
  obtain ⟨hfree, -, hel⟩ := nextGrant_some s e hgrant
  obtain ⟨hfault, hsupply, -⟩ := eligible_spec s e hel
  have hunits := grant_unitsInUse_le s e
  have field : (s.grant e).field = s.field := by simp
  have cfg : (s.grant e).cfg = s.cfg := by simp
  have link : (s.grant e).link.fault = s.link.fault := rfl
  exact ⟨by rw [cfg]; omega, fun h => by simp [hsupply] at h, fun h => by simp [link, hfault] at h,
    by rw [field]; exact hlast⟩

theorem measureSupply_movesBounded {s : State} (n : Nat) (h : s.movesBounded) : (s.measureSupply n).movesBounded := by
  obtain ⟨hle, hlow, hfault, hlast⟩ := h
  unfold State.measureSupply; dsimp only
  split
  · next hfirst =>
    have none : s.unitsInUse = 0 := hlow (hlast (by simpa using hfirst))
    split
    · exact movesBounded_of_none none (by simp)
    · exact movesBounded_of_none none (by simp)
  split
  · split
    · exact movesBounded_of_none (supplyStop_unitsInUse _) (by simp [supplyStop_field])
    · exact ⟨hle, hlow, hfault, by simp⟩
  · next hsupply =>
    have low : s.field.supplyOk = false := by simpa using hsupply
    refine movesBounded_of_none (hlow low) fun hnone => ?_
    have : ((s.setField { s.field with supplyLast := some n }).field.qualify n).supplyLast = some n := by
      unfold FieldIO.qualify; split <;> rfl
    exact absurd (this.symm.trans hnone) (by simp)

theorem enlisted_running {h : Head} (hrun : h.enlisted.running = true) : h.running = true := by
  unfold Head.enlisted at hrun
  split at hrun
  · assumption
  · cases hrun

theorem roleEffects_movesBounded {s : State} (v : Nat) (x : ValveCfg) (old : Role) (h : s.movesBounded) :
    ((s.setValveCfg v x).roleEffects v old x.role).movesBounded := by
  have written : (s.setValveCfg v x).movesBounded := movesBounded_of_le h le_rfl rfl rfl rfl rfl
  unfold State.roleEffects
  split
  · exact written
  split
  · have retired := setHead_movesBounded v (g := { (s.setValveCfg v x).head v with retryDue := none }) (fun hr => hr) written
    exact movesBounded_of_le retired le_rfl rfl rfl rfl rfl
  split
  · exact movesBounded_congr (setHead_movesBounded v enlisted_running written)
  · exact movesBounded_congr written

/-- Every head that runs was granted a free unit with link and supply OK (`grant_movesBounded`); every other effect lets
heads stop (R98, R100 to R102) or leaves them. -/
theorem movesBounded_keep : MovesKeep State.movesBounded where
  stand h hstand := movesBounded_of_stand h hstand
  form _ _ h := movesBounded_congr h
  offer _ _ h := movesBounded_congr h
  homing _ _ h := movesBounded_congr h
  exercise _ _ _ h := movesBounded_congr h
  marks _ h := movesBounded_congr h
  grant _ _ hgrant h := grant_movesBounded hgrant h
  absent s v h :=
    movesBounded_of_le (setHead_movesBounded v (g := (s.head v).gone) (by simp [Head.gone, Head.running]) h)
      le_rfl rfl rfl rfl rfl
  fault s h := by
    obtain ⟨-, -, -, hlast⟩ := h
    exact movesBounded_of_none (enterLinkFault_unitsInUse s) (by simpa using hlast)
  clear s h := by
    obtain ⟨-, -, -, hlast⟩ := h
    exact movesBounded_of_none (unitsInUse_eq_zero fun v => by rw [linkCleared_head]; simp [Head.cleared, Head.running]) hlast
  supply _ n h := measureSupply_movesBounded n h
  role s v x h := roleEffects_movesBounded v x (s.valveCfg v).role h
  allowance s b hfree h := by
    obtain ⟨hle, hlow, hfault, hlast⟩ := h
    refine ⟨?_, hlow, hfault, hlast⟩
    show s.unitsInUse ≤ b.motorAllowance
    omega
  loaded s cold := by
    refine movesBounded_of_none (unitsInUse_eq_zero fun v => ?_) fun _ => rfl
    have head : (s.loadedFrom cold).head v = .initial := item_replicate 32 v Head.initial
    rw [head]; decide

/-- Settles O56: every effect on the moves keeps the allowance (`movesBounded_keep`), and a step is made of such effects
(`MovesKeep.step`). -/
theorem stepsKeepTheMotorAllowance : Obligations.StepsKeepTheMotorAllowance :=
  fun _ _ h hstep => movesBounded_keep.step h hstep

end Sys2Proof.Machine
end

section
/-! PROOF. The move queue (R106, R112, R114), kept by every command (O57). -/

namespace Sys2Proof.Machine

/-! ## Slots in use, wanted targets -/

theorem used_congr {s t : State} (v : Nat) (h : t.cfg.valves = s.cfg.valves) : t.used v = s.used v := by
  rw [State.used, State.used, State.valveCfg, State.valveCfg, h]

theorem used_eq_false {s : State} {v : Nat} : s.used v = false ↔ (s.valveCfg v).role = .unused := by simp [State.used]

theorem used_eq_true {s : State} {v : Nat} : s.used v = true ↔ (s.valveCfg v).role ≠ .unused := by simp [State.used]

/-- An UNUSED slot has no wanted target to be formed (R106). -/
theorem formTarget_unused {s : State} {v : Nat} (h : s.used v = false) : s.formTarget v = none := by
  rw [State.formTarget, used_eq_false.mp h]

theorem wantedOf_setWanted_cases (s : State) (v : Nat) (x : Option Wanted) (w : Nat) :
    (s.setWanted v x).wantedOf w = s.wantedOf w ∨ w = v ∧ (s.setWanted v x).wantedOf w = x :=
  item_setItem_cases s.arbiter.wanted v w x none

theorem valveCfg_setValveCfg_cases (s : State) (v : Nat) (x : ValveCfg) (w : Nat) :
    (s.setValveCfg v x).valveCfg w = s.valveCfg w ∨ w = v ∧ (s.setValveCfg v x).valveCfg w = x :=
  item_setItem_cases s.cfg.valves v w x .initial

/-! ## The queue, effect by effect -/

/-- The heads are written, and become ABSENT nowhere. -/
theorem queueOk_of_heads {s t : State} (h : s.queueOk) (absent : ∀ v, (t.head v).state = .absent → (s.head v).state = .absent)
    (valves : t.cfg.valves = s.cfg.valves := by simp) (queue : t.arbiter.queue = s.arbiter.queue := by simp)
    (wanted : t.arbiter.wanted = s.arbiter.wanted := by simp) : t.queueOk := by
  obtain ⟨hnodup, hentries, hwanted⟩ := h
  refine ⟨by rw [queue]; exact hnodup, fun e he => ?_, fun v hv => ?_⟩
  · obtain ⟨hused, hthere, hhome⟩ := hentries e (queue ▸ he)
    exact ⟨(used_congr _ valves).trans hused, fun h => hthere (absent _ h), hhome⟩
  · rw [State.wantedOf, wanted]
    exact hwanted v ((used_congr v valves).symm.trans hv)

theorem queueOk_congr {s t : State} (h : s.queueOk) (heads : t.heads = s.heads := by simp)
    (valves : t.cfg.valves = s.cfg.valves := by simp) (queue : t.arbiter.queue = s.arbiter.queue := by simp)
    (wanted : t.arbiter.wanted = s.arbiter.wanted := by simp) : t.queueOk :=
  queueOk_of_heads h (fun v hv => head_congr v heads ▸ hv) valves queue wanted

theorem setHead_queueOk {s : State} (v : Nat) {g : Head} (hg : g.state = .absent → (s.head v).state = .absent)
    (h : s.queueOk) : (s.setHead v g).queueOk := by
  refine queueOk_of_heads h (fun w hw => ?_) rfl rfl rfl
  rcases head_setHead_cases s v g w with heq | ⟨rfl, heq⟩ <;> rw [heq] at hw
  · exact hw
  · exact hg hw

/-- Entries go, and with them all of slot `v`: what is written of that slot bears on no entry. -/
theorem queueOk_without {s t : State} (v : Nat) (h : s.queueOk) (queue : t.arbiter.queue.Sublist s.arbiter.queue)
    (free : ∀ e ∈ t.arbiter.queue, e.slot ≠ v) (used : ∀ w, w ≠ v → t.used w = s.used w)
    (head : ∀ w, w ≠ v → t.head w = s.head w) (wanted : ∀ w, t.used w = false → t.wantedOf w = none) : t.queueOk := by
  obtain ⟨hnodup, hentries, -⟩ := h
  refine ⟨hnodup.sublist (queue.map _), fun e he => ?_, wanted⟩
  rw [used _ (free e he), head _ (free e he)]
  exact hentries e (queue.subset he)

/-- Entries are changed in their places, a HOME's target staying 0 (R114). -/
theorem queueOk_map {s : State} {f : Entry → Entry} (h : s.queueOk) (slot : ∀ e, (f e).slot = e.slot)
    (home : ∀ e, (e.op = .home → e.target = 0) → (f e).op = .home → (f e).target = 0) :
    (s.setQueue (s.arbiter.queue.map f)).queueOk := by
  obtain ⟨hnodup, hentries, hwanted⟩ := h
  refine ⟨?_, fun e he => ?_, hwanted⟩
  · show ((s.arbiter.queue.map f).map (·.slot)).Nodup
    rw [List.map_map, show (·.slot) ∘ f = (·.slot) from funext slot]
    exact hnodup
  · obtain ⟨g, hg, rfl⟩ := List.mem_map.mp he
    obtain ⟨hused, hthere, hhome⟩ := hentries g hg
    rw [slot]
    exact ⟨hused, hthere, home g hhome⟩

theorem updateEntry_queueOk {s : State} (v : Nat) {f : Entry → Entry} (h : s.queueOk) (slot : ∀ e, (f e).slot = e.slot)
    (home : ∀ e, (e.op = .home → e.target = 0) → (f e).op = .home → (f e).target = 0) : (s.updateEntry v f).queueOk := by
  refine queueOk_map h (fun e => ?_) fun e he => ?_
  · split
    · exact slot e
    · rfl
  · split
    · exact home e he
    · exact he

theorem entryOf_none_mem {s : State} {v : Nat} (h : s.entryOf v = none) : ∀ e ∈ s.arbiter.queue, e.slot ≠ v := fun e he hv =>
  List.find?_eq_none.mp h e he (by simpa using hv)

/-- A slot in use without an entry, its head not ABSENT, takes one (R112). -/
theorem newEntry_queueOk {s : State} {v : Nat} {op : MoveOp} {target : Nat} (cls : MoveClass) (h : s.queueOk)
    (free : s.entryOf v = none) (used : s.used v = true) (there : (s.head v).state ≠ .absent)
    (home : op = .home → target = 0) : (s.newEntry v op target cls).queueOk := by
  obtain ⟨hnodup, hentries, hwanted⟩ := h
  refine ⟨?_, fun e he => ?_, hwanted⟩
  · show ((s.arbiter.queue ++ [_]).map Entry.slot).Nodup
    rw [List.map_append, List.nodup_append]
    refine ⟨hnodup, List.nodup_singleton _, fun a ha b hb hab => ?_⟩
    obtain ⟨e, he, rfl⟩ := List.mem_map.mp ha
    exact entryOf_none_mem free e he (hab.trans (List.mem_singleton.mp hb))
  · rcases List.mem_append.mp he with he | he
    · exact hentries e he
    · obtain rfl := List.mem_singleton.mp he
      exact ⟨used, there, home⟩

theorem removeEntry_queueOk {s : State} (v : Nat) (h : s.queueOk) : (s.removeEntry v).queueOk :=
  have ⟨_, _, hwanted⟩ := h
  queueOk_without v h List.filter_sublist (fun e he => by simpa using (List.mem_filter.mp he).2) (fun _ _ => rfl)
    (fun _ _ => rfl) hwanted

theorem joinDrive_queueOk {s : State} {v : Nat} (target : Nat) (cls : MoveClass) (h : s.queueOk) (used : s.used v = true)
    (there : (s.head v).state ≠ .absent) : (s.joinDrive v target cls).queueOk := by
  unfold State.joinDrive
  split
  · exact newEntry_queueOk cls h ‹_› used there (by simp)
  · refine updateEntry_queueOk v h (takeDrive_slot target cls) fun e he => ?_
    unfold Entry.takeDrive
    cases hop : e.op with
    | drive => simp
    | home => exact fun _ => he hop

theorem dropRegulated_queueOk {s : State} (v : Nat) (h : s.queueOk) : (s.dropRegulated v).queueOk := by
  unfold State.dropRegulated
  split
  · split
    · exact removeEntry_queueOk v h
    · exact h
  · exact h

/-- Only a slot in use has a wanted target to offer, and to an ABSENT head nothing is offered (R106, R110). -/
theorem offer_queueOk {s : State} (v : Nat) (h : s.queueOk) : (s.offer v).queueOk := by
  obtain ⟨-, -, hwanted⟩ := id h
  rcases offer_cases s v with heq | ⟨there, heq | ⟨w, hw, heq⟩⟩ <;> rw [heq]
  · exact h
  · exact dropRegulated_queueOk v h
  · refine joinDrive_queueOk _ _ h (Bool.not_eq_false _ ▸ fun hunused => ?_) there
    rw [hwanted v hunused] at hw
    cases hw

theorem setWanted_formTarget_queueOk {s : State} (v : Nat) (h : s.queueOk) : (s.setWanted v (s.formTarget v)).queueOk := by
  obtain ⟨hnodup, hentries, hwanted⟩ := h
  refine ⟨hnodup, hentries, fun w hw => ?_⟩
  rcases wantedOf_setWanted_cases s v (s.formTarget v) w with heq | ⟨rfl, heq⟩ <;> rw [heq]
  · exact hwanted w hw
  · exact formTarget_unused hw

theorem formAndOffer_queueOk {s : State} (v : Nat) (h : s.queueOk) : (s.formAndOffer v).queueOk :=
  offer_queueOk v (setWanted_formTarget_queueOk v h)

/-- No homing is taken for an UNUSED slot or an ABSENT head (R114). -/
theorem requestHoming_queueOk {s : State} (v : Nat) (h : s.queueOk) : (s.requestHoming v).queueOk := by
  unfold State.requestHoming
  split
  · exact h
  · next hfree =>
    obtain ⟨used, there, -⟩ := not_or.mp hfree |>.imp not_not.mp not_or.mp
    split
    · exact newEntry_queueOk .homing h ‹_› used there fun _ => rfl
    · refine updateEntry_queueOk v h (fun e => by unfold Entry.takeHoming; split <;> rfl) fun e he => ?_
      unfold Entry.takeHoming
      cases hop : e.op with
      | drive => exact fun _ => rfl
      | home => exact fun _ => he hop

/-! ## Heads and roles -/

theorem endMove_unknown_queueOk {s : State} (v : Nat) (h : s.queueOk) : (s.endMove v .unknown).queueOk :=
  setHead_queueOk v (by simp) h

/-- An ABSENT head's entry goes with it (R90). -/
theorem becomeAbsent_queueOk {s : State} (v : Nat) (h : s.queueOk) : (s.becomeAbsent v).queueOk := by
  obtain ⟨-, -, hwanted⟩ := id h
  refine queueOk_without v h List.filter_sublist (fun e he => by simpa using (List.mem_filter.mp he).2) (fun _ _ => rfl)
    (fun w hw => ?_) hwanted
  exact head_setHead_other s (s.head v).gone hw

theorem enterLinkFault_queueOk {s : State} (h : s.queueOk) : s.enterLinkFault.queueOk := by
  have failed : (s.setLink { s.link with fault := true, transaction := none, commands := [] }).queueOk := queueOk_congr h
  exact queueOk_congr (foldl_induct State.queueOk (fun u v => u.endMove v .unknown) s.runningSlots
    (fun _ v _ hu => endMove_unknown_queueOk v hu) _ failed) rfl rfl rfl rfl

theorem supplyStop_queueOk {s : State} (h : s.queueOk) : s.supplyStop.queueOk := by
  have low : (s.setField { s.field with supplyOk := false, supplyQual := 0 }).queueOk := queueOk_congr h
  exact queueOk_congr (foldl_induct State.queueOk (fun u v => (u.endMove v .unknown).addCommand v .stop) s.runningSlots
    (fun _ v _ hu => queueOk_congr (endMove_unknown_queueOk v hu)) _ low) rfl rfl rfl rfl

theorem measureSupply_queueOk {s : State} (n : Nat) (h : s.queueOk) : (s.measureSupply n).queueOk := by
  have measured : (s.setField { s.field with supplyLast := some n }).queueOk := queueOk_congr h
  unfold State.measureSupply; dsimp only
  split
  · split
    · exact queueOk_congr measured
    · exact queueOk_congr measured
  split
  · split
    · exact supplyStop_queueOk measured
    · exact measured
  · exact queueOk_congr measured

theorem used_setValveCfg_other (s : State) {v w : Nat} (x : ValveCfg) (h : w ≠ v) :
    (s.setValveCfg v x).used w = s.used w := by
  rcases valveCfg_setValveCfg_cases s v x w with heq | ⟨hv, -⟩
  · rw [State.used, State.used, heq]
  · exact absurd hv h

/-- A slot is written that stays in use, or stays out of it. -/
theorem setValveCfg_queueOk {s : State} {v : Nat} {x : ValveCfg} (h : s.queueOk)
    (stays : x.role = .unused ↔ (s.valveCfg v).role = .unused) : (s.setValveCfg v x).queueOk := by
  have used (w : Nat) : (s.setValveCfg v x).used w = s.used w := by
    rcases valveCfg_setValveCfg_cases s v x w with heq | ⟨rfl, heq⟩
    · rw [State.used, State.used, heq]
    · rw [Bool.eq_iff_iff, used_eq_true, used_eq_true, heq]
      exact not_congr stays
  obtain ⟨hnodup, hentries, hwanted⟩ := h
  refine ⟨hnodup, fun e he => ?_, fun w hw => hwanted w ((used w).symm.trans hw)⟩
  rw [used]
  exact hentries e he

theorem sameAssignment_unused {old new : Role} (h : old.sameAssignment new = true) : new = .unused ↔ old = .unused := by
  cases old <;> cases new <;> simp_all [Role.sameAssignment]

/-- A slot that goes out of use loses entry and wanted target (R83, R106). -/
theorem retired_queueOk {s : State} (v : Nat) {x : ValveCfg} (h : s.queueOk) :
    ((((s.setValveCfg v x).removeEntry v).setHead v { (s.setValveCfg v x).head v with retryDue := none }).setWanted v
      none).queueOk := by
  obtain ⟨-, -, hwanted⟩ := id h
  refine queueOk_without v h List.filter_sublist (fun e he => by simpa using (List.mem_filter.mp he).2)
    (fun w hw => used_setValveCfg_other s x hw) (fun w hw => head_setHead_other (s.setValveCfg v x) _ hw) fun w hw => ?_
  by_cases hv : w = v
  · subst hv
    by_cases hin : 1 ≤ w ∧ w ≤ s.arbiter.wanted.length
    · exact item_setItem_same s.arbiter.wanted w none none hin.1 hin.2
    · exact item_outside (setItem s.arbiter.wanted w none) w none (by rw [length_setItem]; omega)
  · exact (item_setItem_other _ _ _ _ _ hv).trans (hwanted w ((used_setValveCfg_other s x hv).symm.trans hw))

/-- A slot that comes into use had neither entry nor wanted target (R112, R106). -/
theorem enlisted_queueOk {s : State} {v : Nat} {x : ValveCfg} (g : Head) (h : s.queueOk) (unused : s.used v = false) :
    ((s.setValveCfg v x).setHead v g).queueOk := by
  obtain ⟨-, hentries, hwanted⟩ := id h
  refine queueOk_without v h (List.Sublist.refl _) (fun e he hv => ?_) (fun w hw => used_setValveCfg_other s x hw)
    (fun w hw => head_setHead_other (s.setValveCfg v x) _ hw) fun w hw => ?_
  · obtain ⟨hused, -⟩ := hentries e he
    rw [hv, unused] at hused
    cases hused
  · by_cases hv : w = v
    · exact hv ▸ hwanted v unused
    · exact hwanted w ((used_setValveCfg_other s x hv).symm.trans hw)

theorem reassignEntry_queueOk {s : State} (v : Nat) (h : s.queueOk) : (s.reassignEntry v).queueOk := by
  unfold State.reassignEntry
  split
  · exact h
  split
  · exact requestHoming_queueOk v (removeEntry_queueOk v h)
  · exact removeEntry_queueOk v h

theorem roleEffects_queueOk {s : State} (v : Nat) (x : ValveCfg) (h : s.queueOk) :
    ((s.setValveCfg v x).roleEffects v (s.valveCfg v).role x.role).queueOk := by
  unfold State.roleEffects
  split
  · exact setValveCfg_queueOk h (sameAssignment_unused ‹_›)
  split
  · exact retired_queueOk v h
  split
  · exact formAndOffer_queueOk v (enlisted_queueOk _ h (used_eq_false.mpr ‹_›))
  · exact formAndOffer_queueOk v (reassignEntry_queueOk v (setValveCfg_queueOk h (iff_of_false ‹_› ‹_›)))

/-! ## Every command -/

/-- Entries are made for slots in use with a head that is there, and go where either ceases. -/
theorem queueOk_keep : MovesKeep State.queueOk where
  stand h hstand := queueOk_of_heads h hstand.absent hstand.valves hstand.queue hstand.wanted
  form _ v h := setWanted_formTarget_queueOk v h
  offer _ v h := offer_queueOk v h
  homing _ v h := requestHoming_queueOk v h
  exercise s v hdue h := by
    simp only [State.exerciseDue, Bool.and_eq_true, beq_iff_eq, Option.isNone_iff_eq_none] at hdue
    obtain ⟨⟨⟨used, ready⟩, free⟩, -⟩ := hdue
    exact newEntry_queueOk _ h free used (by simp [ready]) (by simp)
  marks _ h := queueOk_map h (fun _ => rfl) fun _ he => he
  grant s e _ h := by
    refine queueOk_congr (setHead_queueOk e.slot (g := (s.head e.slot).granted e (s.valveCfg e.slot).stroke) ?_
      (removeEntry_queueOk e.slot h)) rfl rfl rfl rfl
    cases hop : e.op <;> simp [Head.granted, hop, MoveOp.headState]
  absent _ v h := becomeAbsent_queueOk v h
  fault _ h := enterLinkFault_queueOk h
  clear s h := queueOk_of_heads h (fun v hv => by rw [linkCleared_head] at hv; cases hv) rfl rfl rfl
  supply _ n h := measureSupply_queueOk n h
  role _ v x h := roleEffects_queueOk v x h
  allowance _ _ _ h := queueOk_congr h
  loaded s cold := ⟨List.nodup_nil, fun _ he => absurd he List.not_mem_nil, fun v _ => item_replicate 32 v none⟩

/-- Settles O57: every effect on the moves keeps the queue well formed (`queueOk_keep`), and a step is made of such effects
(`MovesKeep.step`). -/
theorem stepsKeepOneEntryPerSlot : Obligations.StepsKeepOneEntryPerSlot :=
  fun _ _ h hstep => queueOk_keep.step h hstep

end Sys2Proof.Machine
end

section
/-! PROOF. A wanted target formed and offered, and what settling leaves of it (R106, R110, R117; O26). -/

namespace Sys2Proof.Machine

/-! ## A slot that waits -/

/-- Slot `v`'s wanted target stands, and with the supply LOW its entries do (R117). -/
structure State.SlotWaits (s t : State) (v : Nat) : Prop where
  cfg : t.cfg = s.cfg
  supply : t.field.supplyOk = s.field.supplyOk
  wanted : t.wantedOf v = s.wantedOf v
  entries : s.field.supplyOk = false → t.queued v = s.queued v

namespace State.SlotWaits

theorem refl (s : State) (v : Nat) : s.SlotWaits s v := ⟨rfl, rfl, rfl, fun _ => rfl⟩

theorem trans {s t u : State} {v : Nat} (h : s.SlotWaits t v) (h' : t.SlotWaits u v) : s.SlotWaits u v where
  cfg := h'.cfg.trans h.cfg
  supply := h'.supply.trans h.supply
  wanted := h'.wanted.trans h.wanted
  entries := fun hlow => (h'.entries (h.supply.trans hlow)).trans (h.entries hlow)

/-- A slot that is formed and offered nothing. -/
theorem of_same {s t : State} (v : Nat) (cfg : t.cfg = s.cfg := by simp)
    (supply : t.field.supplyOk = s.field.supplyOk := by simp) (wanted : t.arbiter.wanted = s.arbiter.wanted := by simp)
    (queue : t.arbiter.queue = s.arbiter.queue := by simp) : s.SlotWaits t v :=
  ⟨cfg, supply, congrArg (item · v none) wanted, fun _ => queued_congr v queue⟩

end State.SlotWaits

theorem formAll_slotWaits (s : State) {vs : List Nat} {v : Nat} (h : v ∉ vs) : s.SlotWaits (s.formAll vs) v :=
  ⟨by simp, by simp, formAll_wantedOf_other s h, fun _ => formAll_queued_other s h⟩

theorem judgeTable_slotWaits {s : State} {v : Nat} (h : (s.valveCfg v).role ≠ .cylinder) : s.SlotWaits s.judgeTable v := by
  have hv : v ∉ s.tableJudged.cylinderSlots := fun hmem => h (eq_of_beq (List.mem_filter.mp hmem).2)
  have judged : s.SlotWaits s.tableJudged v := .of_same v rfl rfl rfl rfl
  unfold State.judgeTable
  dsimp only
  split
  · exact judged
  · exact judged.trans (formAll_slotWaits s.tableJudged hv)

theorem formSinks_slotWaits {s : State} (b : Bool) {v : Nat} (h : (s.valveCfg v).role ≠ .sink) :
    s.SlotWaits (s.formSinks b) v := by
  have hv : v ∉ (s.setArbiter { s.arbiter with sinkOpen := b }).sinkSlots := fun hmem =>
    h (eq_of_beq (List.mem_filter.mp hmem).2)
  have opened : s.SlotWaits (s.setArbiter { s.arbiter with sinkOpen := b }) v := .of_same v rfl rfl rfl rfl
  exact opened.trans (formAll_slotWaits _ hv)

theorem setSinkOpen_slotWaits {s : State} (b : Bool) {v : Nat} (h : (s.valveCfg v).role ≠ .sink) :
    s.SlotWaits (s.setSinkOpen b) v := by
  unfold State.setSinkOpen
  split
  · exact .refl s v
  · exact formSinks_slotWaits b h

theorem remark_slotWaits (s : State) (v : Nat) : s.SlotWaits s.remark v := ⟨rfl, rfl, rfl, fun _ => remark_queued s v⟩

/-- What a grant says of any slot, it says with the supply OK. -/
theorem grant_slotWaits {s : State} {e : Entry} (v : Nat) (h : s.nextGrant = some e) : s.SlotWaits (s.grant e) v :=
  ⟨by simp, by simp, rfl, fun hlow => absurd h (nextGrant_barred (.inr hlow) e)⟩

theorem nextTransaction_slotWaits (s : State) (v : Nat) : s.SlotWaits s.nextTransaction v := .of_same v

/-- Settling leaves the target of a slot that neither W's heat nor sink-open is a cause of. -/
theorem slotWaits_keeps {s : State} {v k : Nat} {dump : Bool} (hrole : (s.valveCfg v).role = .zone k dump) :
    SettlingKeeps fun t => s.SlotWaits t v where
  boiler _ _ _ h := h.trans (.of_same v rfl rfl rfl rfl)
  relays _ _ _ _ _ h := h.trans (.of_same v rfl rfl rfl rfl)
  raises _ _ _ _ h := h.trans (.of_same v)
  table t h := h.trans (judgeTable_slotWaits (by rw [State.valveCfg, h.cfg]; exact hrole.symm ▸ by simp))
  sinks t b h := h.trans (setSinkOpen_slotWaits b (by rw [State.valveCfg, h.cfg]; exact hrole.symm ▸ by simp))
  marks t h := h.trans (remark_slotWaits t v)
  grant _ _ h hgrant := h.trans (grant_slotWaits v hgrant)
  transaction t h := h.trans (nextTransaction_slotWaits t v)

/-! ## A target formed and offered -/

/-- Slot `v` wants `w` in `t`, and with the supply LOW it was offered `w` since `s` (R110). -/
def State.WantsOffered (s t : State) (v : Nat) (w : Wanted) : Prop :=
  t.wantedOf v = some w ∧ (s.field.supplyOk = false → s.queueOk → s.offered t v w)

/-- An offer is seen in the slot's entries alone. -/
theorem offered_congr {s t u : State} {v : Nat} {w : Wanted} (h : s.offered t v w) (hu : u.queued v = t.queued v) :
    s.offered u v w := by
  unfold State.offered State.driveJoined
  rw [hu]
  exact h

theorem State.WantsOffered.waits {s t u : State} {v : Nat} {w : Wanted} (h : s.WantsOffered t v w)
    (hsupply : t.field.supplyOk = s.field.supplyOk) (hu : t.SlotWaits u v) : s.WantsOffered u v w :=
  ⟨hu.wanted.trans h.1, fun hlow hok => offered_congr (h.2 hlow hok) (hu.entries (hsupply.trans hlow))⟩

theorem formAll_formTarget (s : State) (vs : List Nat) (v : Nat) : (s.formAll vs).formTarget v = s.formTarget v :=
  foldl_keeps State.formAndOffer (·.formTarget v) (fun u w => formAndOffer_formTarget u w v) vs s

theorem formAll_sinkOpen (s : State) (vs : List Nat) : (s.formAll vs).arbiter.sinkOpen = s.arbiter.sinkOpen :=
  foldl_keeps State.formAndOffer (·.arbiter.sinkOpen) formAndOffer_sinkOpen vs s

/-- The arbiter turns once to each slot whose target is formed, with the slot's entries as they were. -/
theorem formAll_queued {s : State} {vs : List Nat} {v : Nat} (hvs : vs.Nodup) (hv : v ∈ vs) :
    ∃ u : State, u = { s with arbiter := u.arbiter } ∧ u.queued v = s.queued v ∧
      u.arbiter.wanted.length = s.arbiter.wanted.length ∧
      (s.formAll vs).queued v = ((u.setWanted v (s.formTarget v)).offer v).queued v := by
  obtain ⟨before, after, rfl⟩ := List.append_of_mem hv
  obtain ⟨-, hafter, hdisjoint⟩ := List.nodup_append.mp hvs
  have hnotBefore : v ∉ before := fun hmem => hdisjoint v hmem v (by simp) rfl
  have hnotAfter : v ∉ after := (List.nodup_cons.mp hafter).1
  have hfold : s.formAll (before ++ v :: after) = ((s.formAll before).formAndOffer v).formAll after := by
    rw [State.formAll, List.foldl_append]; rfl
  refine ⟨s.formAll before, formAll_frame s before, formAll_queued_other s hnotBefore, formAll_wanted_length s before, ?_⟩
  rw [hfold, formAll_queued_other _ hnotAfter, State.formAndOffer, formAll_formTarget]

/-- A target formed in a state where the slot's head, configuration and entries are those of `s`. -/
theorem formAll_wantsOffered {s r : State} {vs : List Nat} {v : Nat} {w : Wanted} (hheads : r.heads = s.heads)
    (hcfg : r.cfg = s.cfg) (hqueued : r.queued v = s.queued v) (hlen : r.arbiter.wanted.length = 32) (hvs : vs.Nodup)
    (hv : v ∈ vs) (h1 : 1 ≤ v) (h32 : v ≤ 32) (htarget : r.formTarget v = some w) :
    s.WantsOffered (r.formAll vs) v w := by
  have hformed : (r.formAll vs).targetFormed v := formAll_formed h1 (by omega) (.inl hv)
  refine ⟨by rw [hformed, formAll_formTarget, htarget], fun _ hok => ?_⟩
  obtain ⟨u, hframe, hsame, hulen, hoffer⟩ := formAll_queued (s := r) hvs hv
  have hheadsU : u.heads = s.heads := by rw [hframe]; exact hheads
  have hcfgU : u.cfg = s.cfg := by rw [hframe]; exact hcfg
  refine offered_of_offer (u := u.setWanted v (r.formTarget v)) (head_congr v hheadsU) ?_ ?_ (queued_length hok v) ?_ hoffer
  · show item u.cfg.valves v _ = _
    rw [hcfgU]; rfl
  · exact (queued_congr v rfl).trans (hsame.trans hqueued)
  · exact (item_setItem_same _ _ _ _ h1 (by omega)).trans htarget

theorem mem_radiatorSlots {s : State} {v k : Nat} {dump : Bool} (h1 : 1 ≤ v) (h32 : v ≤ 32)
    (hrole : (s.valveCfg v).role = .zone k dump) : v ∈ s.radiatorSlots :=
  List.mem_filter.mpr ⟨(mem_numbers 32 v).mpr ⟨h1, h32⟩, by rw [hrole]; rfl⟩

theorem mem_sinkSlots {s : State} {v : Nat} (h1 : 1 ≤ v) (h32 : v ≤ 32) (hrole : (s.valveCfg v).role = .sink) :
    v ∈ s.sinkSlots := List.mem_filter.mpr ⟨(mem_numbers 32 v).mpr ⟨h1, h32⟩, beq_iff_eq.mpr hrole⟩

theorem radiatorSlots_no_sink {s : State} {v : Nat} (hrole : (s.valveCfg v).role = .sink) : v ∉ s.radiatorSlots :=
  fun hmem => by simpa [hrole, Role.isZone] using (List.mem_filter.mp hmem).2

theorem setHeatDump_slotWaits {s : State} (b : Bool) {v : Nat} (hrole : (s.valveCfg v).role = .sink) :
    s.SlotWaits (s.setHeatDump b) v := by
  have noted : s.SlotWaits (s.setBoiler { s.boiler with heatDump := b }) v := .of_same v rfl rfl rfl rfl
  exact noted.trans (formAll_slotWaits (s.setBoiler { s.boiler with heatDump := b }) (radiatorSlots_no_sink hrole))

theorem setHeatDump_wanted_length (s : State) (b : Bool) :
    (s.setHeatDump b).arbiter.wanted.length = s.arbiter.wanted.length := formAll_wanted_length _ _

/-- A heat dump set or cleared forms every ZONE slot's target, and the slot is offered it (R107, R110). -/
theorem setHeatDump_wantsOffered {s : State} (b : Bool) {v k : Nat} {dump : Bool} (hlen : s.arbiter.wanted.length = 32)
    (h1 : 1 ≤ v) (h32 : v ≤ 32) (hrole : (s.valveCfg v).role = .zone k dump) :
    s.WantsOffered (s.setHeatDump b) v
      (if b && dump then ⟨100, .safety⟩ else ⟨regulatedTarget (s.valveCfg v) (s.zone k).demand, .normal⟩) :=
  formAll_wantsOffered (r := s.setBoiler { s.boiler with heatDump := b }) rfl rfl rfl hlen ((numbers_nodup 32).filter _)
    (mem_radiatorSlots h1 h32 hrole) h1 h32 (formTarget_zone hrole)

/-- Sink-open given a value forms every SINK slot's target, and the slot is offered it (R109, R110). -/
theorem formSinks_wantsOffered {s r : State} (b : Bool) {v : Nat} (hheads : r.heads = s.heads) (hcfg : r.cfg = s.cfg)
    (hqueued : r.queued v = s.queued v) (hlen : r.arbiter.wanted.length = 32) (h1 : 1 ≤ v) (h32 : v ≤ 32)
    (hrole : (s.valveCfg v).role = .sink) :
    s.WantsOffered (r.formSinks b) v (if b then ⟨100, .safety⟩ else ⟨0, .normal⟩) := by
  have hroleR : (r.valveCfg v).role = .sink := by rw [State.valveCfg, hcfg]; exact hrole
  refine formAll_wantsOffered (r := r.setArbiter { r.arbiter with sinkOpen := b }) hheads hcfg hqueued hlen
    ((numbers_nodup 32).filter _) (mem_sinkSlots h1 h32 hroleR) h1 h32 ?_
  have hroleB : ((r.setArbiter { r.arbiter with sinkOpen := b }).valveCfg v).role = .sink := hroleR
  rw [State.formTarget, hroleB]; rfl

/-! ## The SINK slots while sink-open stands (R109) -/

/-- Sink-open stands, and the SINK slots wait. -/
structure State.SinksStand (s t : State) : Prop where
  sinkOpen : t.arbiter.sinkOpen = s.arbiter.sinkOpen
  cfg : t.cfg = s.cfg
  slots : ∀ v, (s.valveCfg v).role = .sink → s.SlotWaits t v

namespace State.SinksStand

theorem refl (s : State) : s.SinksStand s := ⟨rfl, rfl, fun v _ => .refl s v⟩

theorem trans {s t u : State} (h : s.SinksStand t) (h' : t.SinksStand u) : s.SinksStand u where
  sinkOpen := h'.sinkOpen.trans h.sinkOpen
  cfg := h'.cfg.trans h.cfg
  slots v hv := (h.slots v hv).trans (h'.slots v (by rw [State.valveCfg, h.cfg]; exact hv))

/-- The arbiter's own state is not touched. -/
theorem of_same {s t : State} (arbiter : t.arbiter = s.arbiter := by simp) (cfg : t.cfg = s.cfg := by simp)
    (supply : t.field.supplyOk = s.field.supplyOk := by simp) : s.SinksStand t :=
  ⟨by rw [arbiter], cfg, fun v _ => .of_same v cfg supply (by rw [arbiter]) (by rw [arbiter])⟩

end State.SinksStand

theorem judgeTable_sinksStand (s : State) : s.SinksStand s.judgeTable where
  sinkOpen := by
    unfold State.judgeTable
    dsimp only
    split
    · rfl
    · exact formAll_sinkOpen _ _
  cfg := by simp
  slots v hv := judgeTable_slotWaits (by simp [hv])

theorem remark_sinksStand (s : State) : s.SinksStand s.remark := ⟨rfl, rfl, fun v _ => remark_slotWaits s v⟩

theorem grant_sinksStand {s : State} {e : Entry} (h : s.nextGrant = some e) : s.SinksStand (s.grant e) :=
  ⟨rfl, by simp, fun v _ => grant_slotWaits v h⟩

theorem nextTransaction_sinksStand (s : State) : s.SinksStand s.nextTransaction := .of_same

/-- Entering a boiler state leaves sink-open and the SINK slots (R109, R118). -/
theorem enterState_sinksStand (s : State) (b : Boiler) : s.SinksStand (s.enterState b) :=
  enterState_induct s.SinksStand b s (fun u h => h.trans (judgeTable_sinksStand u)) (fun u h => h.trans (remark_sinksStand u))
    (fun _ _ h hgrant => h.trans (grant_sinksStand hgrant)) (.of_same rfl rfl rfl)

theorem burnerOut_supplyOk (s : State) : s.burnerOut.field.supplyOk = s.field.supplyOk := by
  have ended : s.endHold.field = s.field := by simp
  show s.endHold.field.supplyOk = _
  rw [ended]

theorem burnerOut_sinksStand (s : State) : s.SinksStand s.burnerOut := .of_same (supply := burnerOut_supplyOk s)

theorem setSinkOpen_sinkOpen (s : State) (b : Bool) : (s.setSinkOpen b).arbiter.sinkOpen = b := by
  unfold State.setSinkOpen
  split
  · next h => exact h
  · exact formAll_sinkOpen _ _

end Sys2Proof.Machine
end

section
/-! PROOF. The boiler controller's moves in a heat dump and after it (R118, R129 to R140, R143; O26). -/

namespace Sys2Proof.Machine

/-! ## Settling, cut where the controller's moves end -/

/-- What the plant does when the controller has made its moves (R88, R118, R144). -/
def State.ended (s : State) : State := s.remark.grantRound.nextTransaction.setPump

theorem ended_boiler (s : State) : s.ended.boiler = s.boiler := by simp [State.ended]

theorem grantRound_sinksStand (s : State) : s.SinksStand s.grantRound :=
  grantRound_induct s.SinksStand (fun _ _ h hgrant => h.trans (grant_sinksStand hgrant)) s (.refl s)

theorem setPump_sinksStand (s : State) : s.SinksStand s.setPump := .of_same rfl rfl rfl

theorem ended_sinksStand (s : State) : s.SinksStand s.ended :=
  (((remark_sinksStand s).trans (grantRound_sinksStand _)).trans (nextTransaction_sinksStand _)).trans (setPump_sinksStand _)

section
variable {s t : State} {before : Nat → Nat} {cue : Cue}

theorem settleWith_still (h : s.boilerMove before cue = none) : s.settleWith before cue = s.ended := by
  rw [State.settleWith, boilerFuel, boilerMoves, h]; rfl

theorem settleWith_once (h : s.boilerMove before cue = some t) (ht : t.boilerMove before .judge = none) :
    s.settleWith before cue = t.ended := by
  rw [State.settleWith, boilerFuel, boilerMoves, h]
  dsimp only
  rw [boilerMoves, ht]; rfl

/-! ## Sink-open and the SINK slots where the controller stands (R109) -/

theorem enterFaulted_sinksStand (s : State) : s.SinksStand s.enterFaulted := by
  have raised (u : State) : u.SinksStand (u.raise .boiler (objectsOf (u.activeInputs .boilerFault))) := .of_same
  have out : s.SinksStand (if s.boiler.state = .firing then s.burnerOut else s) := by
    split
    · exact burnerOut_sinksStand s
    · exact .refl s
  exact (out.trans (raised _)).trans (enterState_sinksStand _ _)

/-- With the boiler fault's input active the controller is in FAULTED, or goes there and stays (R140). -/
theorem settleWith_fault (h : s.faultInput = true) :
    s.settleWith before cue = s.ended ∨ s.settleWith before cue = s.enterFaulted.ended := by
  by_cases hstate : s.boiler.state = .faulted
  · exact .inl (settleWith_still (by rw [State.boilerMove, if_pos hstate, if_pos h]))
  · have stays : s.enterFaulted.boilerMove before .judge = none := by
      have hfault : s.enterFaulted.faultInput = true := (enterFaulted_settlesTo s).faultInput.trans h
      rw [State.boilerMove, if_pos (by simp [State.enterFaulted, enterState_boiler]), if_pos hfault]
    exact .inr (settleWith_once (by rw [State.boilerMove, if_neg hstate, if_pos h]) stays)

theorem settleWith_fault_sinksStand (h : s.faultInput = true) : s.SinksStand (s.settleWith before cue) := by
  rcases settleWith_fault h with heq | heq <;> rw [heq]
  · exact ended_sinksStand s
  · exact (enterFaulted_sinksStand s).trans (ended_sinksStand _)

theorem settleWith_still_sinksStand (h : s.boilerMove before cue = none) : s.SinksStand (s.settleWith before cue) :=
  settleWith_still h ▸ ended_sinksStand s

/-- In REST, and in IDLE with no request or a blocker, the controller does not turn to the sinks (R129, R139). -/
theorem settleWith_parked (h : s.boiler.state = .rest ∨
    s.boiler.state = .idle ∧ (s.anyRequest = false ∨ s.held = true ∨ s.faultInput = true)) :
    s.SinksStand (s.settleWith before .settle) := by
  by_cases hfault : s.faultInput = true
  · exact settleWith_fault_sinksStand hfault
  refine settleWith_still_sinksStand ?_
  rcases h with hrest | ⟨hidle, hblocked⟩
  · simp [State.boilerMove, hrest, hfault]
  · rcases hblocked with hany | hheld | hfault'
    · simp [State.boilerMove, hidle, hfault, hany]
    · simp [State.boilerMove, hidle, hfault, hheld]
    · exact absurd hfault' hfault

/-- In OVERRUN with its timer running, without the boiler fault, the controller stays (R136). -/
theorem boilerMove_overrun (hstate : s.boiler.state = .overrun) (htimer : s.boiler.overrunTimer ≠ none)
    (hfault : s.faultInput = false) : s.boilerMove before cue = none := by
  simp [State.boilerMove, hstate, hfault, htimer]

/-! ## A heat dump in progress -/

end

/-- From `s` on: a heat dump with sink-open set, the burner out, and the SINK slots wait. -/
structure State.Dumping (s t : State) : Prop where
  heatDump : t.boiler.heatDump = true
  sinkOpen : t.arbiter.sinkOpen = true
  unlit : t.boiler.state ≠ .firing
  sinks : s.SinksStand t

namespace State.Dumping

variable {s t u : State} (h : s.Dumping t)
include h

/-- Nothing of the controller or the arbiter that the dump reads is touched. -/
theorem stand (hu : t.SinksStand u) (hboiler : u.boiler = t.boiler := by simp) : s.Dumping u :=
  ⟨hboiler ▸ h.heatDump, hu.sinkOpen.trans h.sinkOpen, hboiler ▸ h.unlit, h.sinks.trans hu⟩

theorem setBoiler (b : Boiler) (hdump : b.heatDump = t.boiler.heatDump) (hstate : b.state ≠ .firing) :
    s.Dumping (t.setBoiler b) :=
  ⟨hdump.trans h.heatDump, h.sinkOpen, hstate, h.sinks.trans (.of_same rfl rfl rfl)⟩

theorem enterState (b : Boiler) (hdump : b.heatDump = t.boiler.heatDump) (hstate : b.state ≠ .firing) :
    s.Dumping (t.enterState b) where
  heatDump := by rw [enterState_boiler, hdump, h.heatDump]
  sinkOpen := (enterState_sinksStand t b).sinkOpen.trans h.sinkOpen
  unlit := by rw [enterState_boiler]; exact hstate
  sinks := h.sinks.trans (enterState_sinksStand t b)

theorem closeSinks : t.closeSinks = t := if_pos h.heatDump

theorem enterIdle : s.Dumping t.enterIdle := by
  unfold State.enterIdle
  rw [h.closeSinks]
  exact h.enterState _ rfl (by simp)

theorem enterRest : s.Dumping t.enterRest := by
  unfold State.enterRest
  rw [h.closeSinks]
  exact h.enterState _ rfl (by simp)

theorem openSinksIfShort : t.openSinksIfShort = t := by
  unfold State.openSinksIfShort State.setSinkOpen
  rw [if_pos h.sinkOpen, ite_self]

theorem enterLead : s.Dumping t.enterLead := by
  have timed := h.setBoiler { t.boiler.cleared with leadTimer := startTimer t.cfg.boiler.leadTime } rfl h.unlit
  exact (timed.openSinksIfShort.symm ▸ timed : s.Dumping (State.openSinksIfShort _)).enterState _ rfl (by simp)

theorem enterFaulted : s.Dumping t.enterFaulted := by
  unfold State.enterFaulted
  rw [if_neg h.unlit]
  exact (h.stand (u := t.raise .boiler (objectsOf (t.activeInputs .boilerFault))) .of_same).enterState _ rfl (by simp)

/-- The dump holds a lead expiry (R133). -/
theorem leadExpiry : s.Dumping t.leadExpiry := by
  unfold State.leadExpiry
  rw [if_pos h.heatDump]
  exact h.setBoiler _ rfl h.unlit

theorem boilerMove {before : Nat → Nat} {cue : Cue} (hmove : t.boilerMove before cue = some u) : s.Dumping u := by
  unfold State.boilerMove at hmove
  split at hmove
  · split at hmove <;> cases hmove; exact h.enterRest
  split at hmove
  · cases hmove; exact h.enterFaulted
  split at hmove
  · split at hmove <;> cases hmove; exact h.enterLead
  · unfold State.leadMove at hmove
    rw [h.sinkOpen] at hmove
    repeat' split at hmove
    all_goals cases hmove
    · exact h.enterIdle
    · next hshut => exact absurd rfl hshut.2
    · exact h.leadExpiry
  · next hfiring => exact absurd hfiring h.unlit
  · split at hmove <;> cases hmove; exact h.enterRest
  · split at hmove <;> cases hmove; exact h.enterIdle
  · cases hmove

/-- Settling leaves the dump, sink-open and the SINK slots' targets, and does not light the burner (R109, R133). -/
theorem settle (before : State) : s.Dumping (t.settle before) :=
  settleWith_induct s.Dumping _ _ t (fun _ _ _ hv => hv.boilerMove) (fun v hv => hv.stand (remark_sinksStand v))
    (fun _ _ hv hgrant => hv.stand (grant_sinksStand hgrant)) (fun v hv => hv.stand (nextTransaction_sinksStand v))
    (fun v hv => hv.stand (setPump_sinksStand v)) h

end State.Dumping

/-! ## No heat dump in progress -/

/-- Settling neither starts nor ends a heat dump. -/
theorem heatDump_keeps (b : Bool) : SettlingKeeps fun t => t.boiler.heatDump = b where
  boiler _ _ hb h := hb.trans h
  relays _ _ _ _ _ h := h
  raises _ _ _ _ h := by simpa using h
  table _ h := by simpa using h
  sinks _ _ h := by simpa using h
  marks _ h := h
  grant _ _ h _ := h
  transaction _ h := by simpa using h

theorem enterState_leadHeld {s : State} {b : Boiler} (h : b.leadHeld = false) : (s.enterState b).boiler.leadHeld = false := by
  rw [enterState_boiler]; exact h

theorem enterLead_leadHeld (s : State) : s.enterLead.boiler.leadHeld = false := by
  unfold State.enterLead
  exact enterState_leadHeld (by simp [Boiler.cleared])

section
variable {s t : State} (hdump : s.boiler.heatDump = false) (hhold : s.boiler.leadHeld = false)
include hdump hhold

/-- A lead expiry is held in a heat dump only (R133). -/
theorem leadExpiry_leadHeld : s.leadExpiry.boiler.leadHeld = false := by
  unfold State.leadExpiry
  rw [if_neg (by simp [hdump])]
  split
  · exact enterState_leadHeld rfl
  split
  · exact hhold
  · exact enterState_leadHeld rfl

theorem leadMove_leadHeld (h : s.leadMove = some t) : t.boiler.leadHeld = false := by
  unfold State.leadMove at h
  repeat' split at h
  all_goals cases h
  · exact enterState_leadHeld rfl
  · rw [setSinkOpen_boiler]; exact hhold
  · exact leadExpiry_leadHeld hdump hhold

omit hdump in
theorem firingMove_leadHeld {before : Nat → Nat} {cue : Cue} (h : s.firingMove before cue = some t) :
    t.boiler.leadHeld = false := by
  unfold State.firingMove at h
  repeat' split at h
  all_goals cases h
  · exact enterState_leadHeld rfl
  · exact enterState_leadHeld rfl
  · rw [recomputeFlow_boiler]; exact hhold
  · exact enterState_leadHeld rfl
  · rw [recomputeFlow_boiler]; exact hhold

theorem boilerMove_leadHeld {before : Nat → Nat} {cue : Cue} (h : s.boilerMove before cue = some t) :
    t.boiler.leadHeld = false := by
  unfold State.boilerMove at h
  split at h
  · split at h <;> cases h; exact enterState_leadHeld rfl
  split at h
  · cases h; exact enterState_leadHeld rfl
  split at h
  · split at h <;> cases h; exact enterLead_leadHeld s
  · exact leadMove_leadHeld hdump hhold h
  · exact firingMove_leadHeld hhold h
  · split at h <;> cases h; exact enterState_leadHeld rfl
  · split at h <;> cases h; exact enterState_leadHeld rfl
  · cases h

/-- With no dump in progress settling holds no lead expiry. -/
theorem settle_leadHeld (before : State) : (s.settle before).boiler.leadHeld = false := by
  refine (settleWith_induct (fun t => t.boiler.heatDump = false ∧ t.boiler.leadHeld = false) _ _ s
    (fun u cue t ⟨hd, hl⟩ hmove => ⟨(heatDump_keeps false).boilerMove hd hmove, boilerMove_leadHeld hd hl hmove⟩)
    (fun _ h => h) (fun _ _ h _ => h) (fun _ h => by simpa using h) (fun _ h => h) ⟨hdump, hhold⟩).2

end

end Sys2Proof.Machine
end

section
/-! PROOF. A flow sample that starts a heat dump or ends it (R107, R109, R133, R141 to R143, R153; O26). -/

namespace Sys2Proof.Machine

/-! ## The sample taken (R152, R153) -/

/-- The flow sensor's record after a valid sample. -/
def State.flowTaken (s : State) (v : Temp) : State :=
  s.setField { s.field with flow := { value := some v, valid := true, sampled := true, due := false } }

section
variable {s : State} {v : Temp}

theorem judgeSample_flow (hlo : -400 ≤ v) (hhi : v ≤ 1250) : s.judgeSample .flow v = s.flowTaken v := by
  have hin : inMeasuringRange v = true := by simp [inMeasuringRange, hlo, hhi]
  unfold State.judgeSample SensorRec.fails SensorRec.sample
  simp only [hin]
  rfl

theorem exec_flowSample (hacting : s.acting = none) (hdue : s.field.flow.due = true) (hlo : -400 ≤ v) (hhi : v ≤ 1250) :
    exec (.sensorSample .flow v) s = .next (((s.flowTaken v).flowSample.settle s).endEvent) := by
  show Host.Outcome.next (sensorSampleEvent .flow v s) = _
  rw [sensorSampleEvent, if_pos (show (s.sensor .flow).due = true from hdue), plantEvent_free s _ hacting,
    judgeSample_flow hlo hhi]
  rfl

theorem flowSample_overheat (hdump : s.boiler.heatDump = false)
    (hhot : s.cfg.boiler.flowMax + s.cfg.boiler.highLimitDelta ≤ v) : (s.flowTaken v).flowSample = (s.flowTaken v).overheat := by
  have overheats : (s.flowTaken v).overheats v = true := by
    show (!s.boiler.heatDump && decide (s.cfg.boiler.flowMax + s.cfg.boiler.highLimitDelta ≤ v)) = true
    simp [hdump, hhot]
  show (if (s.flowTaken v).overheats v = true then _ else _) = _
  rw [if_pos overheats]

/-- With a dump in progress a sample is judged against flow max alone (R143). -/
theorem flowSample_dumping (hdump : s.boiler.heatDump = true) :
    (s.flowTaken v).flowSample = if v < s.cfg.boiler.flowMax then (s.flowTaken v).endDump else s.flowTaken v := by
  have calm : (s.flowTaken v).overheats v = false := by
    show (!s.boiler.heatDump && _) = false
    simp [hdump]
  show (if (s.flowTaken v).overheats v = true then _
    else if s.boiler.heatDump = true ∧ v < s.cfg.boiler.flowMax then _ else _) = _
  rw [calm]
  simp [hdump]

end

/-! ## The dump begins (R141, R142) -/

/-- The dump and sink-open set and OVERHEAT raised, before FIRING ends. -/
def State.dumpBegun (s : State) : State := ((s.setHeatDump true).formSinks true).raise .overheat overheatObject

theorem overheat_eq (s : State) :
    s.overheat = if s.boiler.state = .firing then s.dumpBegun.enterOverrun else s.dumpBegun := by
  have state : s.dumpBegun.boiler.state = s.boiler.state := by simp [State.dumpBegun, State.setHeatDump]
  show (if s.dumpBegun.boiler.state = .firing then _ else _) = _
  rw [state]; rfl

theorem dumpBegun_heatDump (s : State) : s.dumpBegun.boiler.heatDump = true := by
  simp [State.dumpBegun, State.setHeatDump]

theorem dumpBegun_sinkOpen (s : State) : s.dumpBegun.arbiter.sinkOpen = true := by
  have raised : s.dumpBegun.arbiter = ((s.setHeatDump true).formSinks true).arbiter := by simp [State.dumpBegun]
  rw [raised]
  exact formAll_sinkOpen _ _

theorem enterOverrun_sinksStand (s : State) : s.SinksStand s.enterOverrun :=
  (burnerOut_sinksStand s).trans (enterState_sinksStand _ _)

theorem overheat_dumping (s : State) : s.dumpBegun.Dumping s.overheat := by
  rw [overheat_eq]
  split
  · have stand := enterOverrun_sinksStand s.dumpBegun
    exact ⟨(heatDump_keeps true).enterOverrun (dumpBegun_heatDump s), stand.sinkOpen.trans (dumpBegun_sinkOpen s),
      (enterOverrun_goesOut _).state, stand⟩
  · next hunlit =>
    exact ⟨dumpBegun_heatDump s, dumpBegun_sinkOpen s, by simpa [State.dumpBegun, State.setHeatDump] using hunlit, .refl _⟩

theorem dumpBegun_slotWaits (s : State) (v : Nat) : ((s.setHeatDump true).formSinks true).SlotWaits s.dumpBegun v :=
  .of_same v (by simp [State.dumpBegun]) (by simp [State.dumpBegun]) (by simp [State.dumpBegun]) (by simp [State.dumpBegun])

theorem overheat_zone {s : State} (before : State) {n k : Nat} {dump : Bool} (hlen : s.arbiter.wanted.length = 32) (h1 : 1 ≤ n)
    (h32 : n ≤ 32) (hrole : (s.valveCfg n).role = .zone k dump) :
    s.WantsOffered (s.overheat.settle before) n
      (if dump then ⟨100, .safety⟩ else ⟨regulatedTarget (s.valveCfg n) (s.zone k).demand, .normal⟩) := by
  have formed := setHeatDump_wantsOffered true hlen h1 h32 hrole
  have hroleDump : ((s.setHeatDump true).valveCfg n).role = .zone k dump := by simpa [State.valveCfg] using hrole
  have begun : (s.setHeatDump true).SlotWaits s.dumpBegun n :=
    (formSinks_slotWaits true (by simp [hroleDump])).trans (dumpBegun_slotWaits s n)
  have overheated : (s.setHeatDump true).SlotWaits s.overheat n := by
    rw [overheat_eq]
    split
    · exact (slotWaits_keeps hroleDump).enterOverrun begun
    · exact begun
  exact formed.waits (by simp) ((slotWaits_keeps hroleDump).settle before overheated)

theorem overheat_sink {s : State} (before : State) {n : Nat} (hlen : s.arbiter.wanted.length = 32) (h1 : 1 ≤ n) (h32 : n ≤ 32)
    (hrole : (s.valveCfg n).role = .sink) : s.WantsOffered (s.overheat.settle before) n ⟨100, .safety⟩ := by
  have formed : s.WantsOffered ((s.setHeatDump true).formSinks true) n ⟨100, .safety⟩ :=
    formSinks_wantsOffered true (by simp) (by simp) (formAll_queued_other _ (radiatorSlots_no_sink hrole))
      ((setHeatDump_wanted_length s true).trans hlen) h1 h32 hrole
  have hroleBegun : (s.dumpBegun.valveCfg n).role = .sink := by simpa [State.dumpBegun, State.valveCfg] using hrole
  exact formed.waits (by simp)
    ((dumpBegun_slotWaits s n).trans (((overheat_dumping s).settle before).sinks.slots n hroleBegun))

/-- OVERHEAT is raised for the flow sensor on both ports (R142, R171). -/
theorem overheat_raised {s : State} (hattn : ∀ q, (s.port q).attn.length = 16) (q : Port) :
    s.overheat.raised q .overheat (object 1) := by
  have ports : ∀ p, ((s.setHeatDump true).formSinks true).port p = s.port p := fun p => by cases p <;> simp [State.port]
  have begun : s.dumpBegun.raised q .overheat (object 1) := raised_raise q .overheat (object 1) (by rw [ports, hattn])
  rw [overheat_eq]
  split
  · exact raised_of_onlyRaises (enterOverrun_settlesTo s.dumpBegun).ports begun
  · exact begun

/-- FIRING ends in OVERRUN, and its timer keeps the controller there (R136, R142). -/
theorem overheat_overrun {s : State} (before : State) (hstate : s.boiler.state = .firing) (hfault : s.faultInput = false)
    (htime : 1 ≤ s.cfg.boiler.overrunTime) :
    (s.overheat.settle before).boiler.state = .overrun ∧ (s.overheat.settle before).boiler.restMark = s.clock.elapsed := by
  have heq : s.overheat = s.dumpBegun.enterOverrun := by rw [overheat_eq, if_pos hstate]
  have boiler : s.dumpBegun.enterOverrun.boiler = { s.dumpBegun.burnerOut.boiler.cleared with
      state := .overrun, overrunTimer := startTimer s.dumpBegun.burnerOut.cfg.boiler.overrunTime } := enterState_boiler _ _
  have cfg : s.dumpBegun.burnerOut.cfg = s.cfg := by simp [State.dumpBegun]
  have timer : s.dumpBegun.enterOverrun.boiler.overrunTimer ≠ none := by
    rw [boiler, cfg]
    simp [startTimer]; omega
  have fault : s.dumpBegun.enterOverrun.faultInput = false := by
    rw [(enterOverrun_settlesTo _).faultInput, ← hfault]
    exact faultInput_congr (by simp [State.dumpBegun]) (by simp [State.dumpBegun])
  have elapsed : s.dumpBegun.burnerOut.boiler.restMark = s.clock.elapsed := by
    show s.dumpBegun.endHold.clock.elapsed = _
    simp [State.dumpBegun]
  rw [heq, State.settle, settleWith_still (boilerMove_overrun (by rw [boiler]) timer fault), ended_boiler, boiler]
  exact ⟨rfl, elapsed⟩

/-! ## The dump ends (R143) -/

theorem clearDump_parked {s : State} (h : s.boiler.state = .idle ∨ s.boiler.state = .rest) :
    s.clearDump = (s.setHeatDump false).setSinkOpen false := if_pos (by simpa [State.setHeatDump] using h)

theorem clearDump_working {s : State} (h : ¬ (s.boiler.state = .idle ∨ s.boiler.state = .rest)) :
    s.clearDump = s.setHeatDump false := if_neg (by simpa [State.setHeatDump] using h)

theorem clearDump_boiler (s : State) : s.clearDump.boiler = { s.boiler with heatDump := false } := by
  by_cases hstate : s.boiler.state = .idle ∨ s.boiler.state = .rest
  · rw [clearDump_parked hstate, setSinkOpen_boiler]; simp [State.setHeatDump]
  · rw [clearDump_working hstate]; simp [State.setHeatDump]

/-- The dump cleared with what it says of a held lead expiry, which is then taken. -/
def State.dumpCleared (s : State) : State := s.clearDump.setBoiler { s.clearDump.boiler with leadHeld := false }

theorem dumpCleared_boiler (s : State) : s.dumpCleared.boiler = { s.boiler with heatDump := false, leadHeld := false } := by
  show { s.clearDump.boiler with leadHeld := false } = _
  rw [clearDump_boiler]

theorem endDump_eq (s : State) : s.endDump = if s.boiler.leadHeld = true then s.dumpCleared.leadExpiry else s.clearDump := by
  have held : s.clearDump.boiler.leadHeld = s.boiler.leadHeld := by rw [clearDump_boiler]
  show (if s.clearDump.boiler.leadHeld = true then s.dumpCleared.leadExpiry else _) = _
  rw [held]

theorem endDump_heatDump (s : State) : s.endDump.boiler.heatDump = false := by
  rw [endDump_eq]
  split
  · exact (heatDump_keeps false).leadExpiry (by rw [dumpCleared_boiler])
  · rw [clearDump_boiler]

theorem endDump_leadHeld (s : State) : s.endDump.boiler.leadHeld = false := by
  rw [endDump_eq]
  split
  · exact leadExpiry_leadHeld (by rw [dumpCleared_boiler]) (by rw [dumpCleared_boiler])
  · next hfree => rw [clearDump_boiler]; simpa using hfree

theorem endDump_zone {s : State} (before : State) {n k : Nat} {dump : Bool} (hlen : s.arbiter.wanted.length = 32) (h1 : 1 ≤ n)
    (h32 : n ≤ 32) (hrole : (s.valveCfg n).role = .zone k dump) :
    s.WantsOffered (s.endDump.settle before) n ⟨regulatedTarget (s.valveCfg n) (s.zone k).demand, .normal⟩ := by
  have formed := setHeatDump_wantsOffered false hlen h1 h32 hrole
  have hroleDump : ((s.setHeatDump false).valveCfg n).role = .zone k dump := by simpa [State.valveCfg] using hrole
  have keeps := slotWaits_keeps hroleDump
  have cleared : (s.setHeatDump false).SlotWaits s.clearDump n := by
    unfold State.clearDump
    dsimp only
    split
    · exact setSinkOpen_slotWaits false (by simp [hroleDump])
    · exact .refl _ n
  have ended : (s.setHeatDump false).SlotWaits s.endDump n := by
    rw [endDump_eq]
    split
    · exact keeps.leadExpiry (keeps.boiler _ _ rfl cleared)
    · exact cleared
  exact formed.waits (by simp) (keeps.settle before ended)

/-- In REST and IDLE the dump's end clears sink-open, and the SINK slots want 0 again (R109, R143). -/
theorem clearDump_sink {s : State} (hstate : s.boiler.state = .idle ∨ s.boiler.state = .rest) (hopen : s.arbiter.sinkOpen = true)
    {n : Nat} (hlen : s.arbiter.wanted.length = 32) (h1 : 1 ≤ n) (h32 : n ≤ 32) (hrole : (s.valveCfg n).role = .sink) :
    s.WantsOffered s.clearDump n ⟨0, .normal⟩ := by
  have still : (s.setHeatDump false).arbiter.sinkOpen = true := (formAll_sinkOpen _ _).trans hopen
  rw [clearDump_parked hstate, State.setSinkOpen, if_neg (by simp [still])]
  exact formSinks_wantsOffered false (by simp) (by simp) (formAll_queued_other _ (radiatorSlots_no_sink hrole))
    ((setHeatDump_wanted_length s false).trans hlen) h1 h32 hrole

end Sys2Proof.Machine
end

section
/-! PROOF. The lead expiry that a heat dump held, taken at the dump's end (R109, R133, R134, R143; O26). -/

namespace Sys2Proof.Machine

/-! ## What the cleared dump leaves of the controller's conditions -/

section
variable {s : State}

theorem dumpCleared_cfg (s : State) : s.dumpCleared.cfg = s.cfg := by simp [State.dumpCleared]

theorem dumpCleared_elapsed (s : State) : s.dumpCleared.clock.elapsed = s.clock.elapsed := by simp [State.dumpCleared]

theorem activeInputs_congr {s t : State} (f : InputFunction) (hcfg : t.cfg = s.cfg) (hfield : t.field = s.field) :
    t.activeInputs f = s.activeInputs f := by
  simp only [State.activeInputs, State.inputActive, State.inputCfg, State.inputRec, hcfg, hfield]

theorem clearDump_faultInput (s : State) : s.clearDump.faultInput = s.faultInput := faultInput_congr (by simp) (by simp)

theorem held_congr {s t : State} (hcfg : t.cfg = s.cfg) (hfield : t.field = s.field) : t.held = s.held := by
  rw [State.held, State.held, State.inhibitInput, State.inhibitInput, activeInputs_congr .inhibit hcfg hfield, hfield]

theorem anyRequest_congr {s t : State} (h : t.table = s.table) : t.anyRequest = s.anyRequest := by
  rw [State.anyRequest, State.anyRequest, h]

theorem dumpCleared_faultInput (s : State) : s.dumpCleared.faultInput = s.faultInput := clearDump_faultInput s

theorem dumpCleared_held (s : State) : s.dumpCleared.held = s.held := held_congr (s := s) (t := s.clearDump) (by simp) (by simp)

theorem dumpCleared_anyRequest (s : State) : s.dumpCleared.anyRequest = s.anyRequest :=
  anyRequest_congr (s := s) (t := s.clearDump) (by simp)

theorem dumpCleared_capacity (s : State) : s.dumpCleared.capacity = s.capacity :=
  capacity_congr (by simp [State.dumpCleared]) (by simp [State.dumpCleared]) (by simp [State.dumpCleared])

theorem dumpCleared_sinkMinimum (s : State) : s.dumpCleared.sinkMinimum = s.sinkMinimum := by
  rw [State.sinkMinimum, State.sinkMinimum, dumpCleared_cfg]

theorem dumpCleared_noDump (s : State) : s.dumpCleared.boiler.heatDump = false := by rw [dumpCleared_boiler]

/-! ## The burner lit (R134) -/

theorem enterFiring_burner (s : State) : s.enterFiring.field.burner = true := by
  have ramped : ((s.setField { s.field with burner := true }).handRamp 0 s.boiler.modulationTarget).field.burner = true := by
    unfold State.handRamp; split <;> rfl
  have entered : s.enterFiring.field = ((s.setField { s.field with burner := true }).handRamp 0 s.boiler.modulationTarget).field := by
    simp [State.enterFiring, State.enterState]
  rw [entered, ramped]

theorem ended_burner (s : State) : s.ended.field.burner = s.field.burner := by
  have round : s.remark.grantRound.nextTransaction.field = s.field := by simp
  show s.remark.grantRound.nextTransaction.field.burner = _
  rw [round]

/-- Where nothing bars the burner a firing entered stands when the plant has settled. -/
theorem enterFiring_settle {u : State} (before : State) (hclear : ¬ u.Barred) :
    (u.enterFiring.settle before).boiler.state = .firing ∧
      (u.enterFiring.settle before).boiler.fireMark = u.clock.elapsed ∧ (u.enterFiring.settle before).field.burner = true := by
  have stays (cue : Cue) : u.enterFiring.boilerMove before.committed cue = none :=
    Option.eq_none_iff_forall_ne_some.mpr fun t => lit_stays (enterFiring_lit hclear)
  rw [State.settle, settleWith_still (stays _), ended_boiler, ended_burner, State.enterFiring, enterState_boiler]
  exact ⟨rfl, by simp, enterFiring_burner u⟩

theorem heldExpiry_fires (before : State) (hany : s.anyRequest = true) (hheld : s.held = false) (hfault : s.faultInput = false)
    (hcap : s.sinkMinimum ≤ s.capacity) :
    (s.dumpCleared.leadExpiry.settle before).boiler.state = .firing ∧
      (s.dumpCleared.leadExpiry.settle before).boiler.fireMark = s.clock.elapsed ∧
      (s.dumpCleared.leadExpiry.settle before).field.burner = true := by
  have heq : s.dumpCleared.leadExpiry = s.dumpCleared.enterFiring := by
    rw [State.leadExpiry, if_neg (by simp [dumpCleared_noDump]),
      if_pos (by rwa [dumpCleared_sinkMinimum, dumpCleared_capacity])]
  have hclear : ¬ s.dumpCleared.Barred := by
    rw [State.Barred, dumpCleared_faultInput, dumpCleared_held, dumpCleared_anyRequest, dumpCleared_capacity,
      dumpCleared_sinkMinimum]
    simp [hany, hheld, hfault, hcap]
  rw [heq, ← dumpCleared_elapsed s]
  exact enterFiring_settle before hclear

/-! ## The lead extended (R133) -/

/-- In LEAD with a request, nothing in the way and the timer running, settling opens the sinks where capacity is short. -/
theorem settle_lead_short {u : State} (before : State) (hstate : u.boiler.state = .lead) (hany : u.anyRequest = true)
    (hheld : u.held = false) (hfault : u.faultInput = false) (hcap : u.capacity < u.sinkMinimum)
    (htimer : u.boiler.leadTimer ≠ none) : u.settle before = (u.setSinkOpen true).ended := by
  have move (w : State) (cue : Cue) (hw : u.SettlesTo w) (hboiler : w.boiler = u.boiler)
      (hshort : w.capacity = u.capacity) : w.boilerMove before.committed cue =
        if w.arbiter.sinkOpen = true then none else some (w.setSinkOpen true) := by
    have hshort' : w.capacity < w.sinkMinimum := by rwa [hshort, hw.sinkMinimum]
    cases hopen : w.arbiter.sinkOpen <;> simp [State.boilerMove, State.leadMove, hboiler, hstate, hw.faultInput, hfault, hw.anyRequest, hany, hw.held, hheld,
      hshort', htimer, hopen]
  by_cases hopen : u.arbiter.sinkOpen = true
  · have hsame : u.setSinkOpen true = u := if_pos hopen
    rw [hsame]
    exact settleWith_still (by rw [move u _ (.refl u) rfl rfl, if_pos hopen])
  · have hopened := setSinkOpen_sinkOpen u true
    refine settleWith_once (by rw [move u _ (.refl u) rfl rfl, if_neg hopen]) ?_
    rw [move _ _ (setSinkOpen_settlesTo u true) (setSinkOpen_boiler u true)
      (capacity_congr (by simp) (by simp) (by simp)), if_pos hopened]

theorem heldExpiry_extends (before : State) (hstate : s.boiler.state = .lead) (hany : s.anyRequest = true)
    (hheld : s.held = false) (hfault : s.faultInput = false) (hcap : s.capacity < s.sinkMinimum)
    (hfirst : s.boiler.leadExtended = false) :
    (s.dumpCleared.leadExpiry.settle before).boiler.state = .lead ∧
      (s.dumpCleared.leadExpiry.settle before).boiler.leadExtended = true ∧
      (s.dumpCleared.leadExpiry.settle before).arbiter.sinkOpen = true ∧
      (s.dumpCleared.leadExpiry.settle before).boiler.leadTimer =
        some (if s.cfg.boiler.leadTime = 0 then 30 else s.cfg.boiler.leadTime) := by
  obtain ⟨u, hu⟩ : ∃ u, u = s.dumpCleared.leadExpiry := ⟨_, rfl⟩
  have heq : u = s.dumpCleared.setBoiler { s.dumpCleared.boiler with
      leadExtended := true
      leadTimer := some (if s.dumpCleared.cfg.boiler.leadTime = 0 then 30 else s.dumpCleared.cfg.boiler.leadTime) } := by
    rw [hu, State.leadExpiry, if_neg (by simp [dumpCleared_noDump]),
      if_neg (by rw [dumpCleared_sinkMinimum, dumpCleared_capacity]; omega),
      if_pos (by simp [dumpCleared_boiler, hfirst])]
  have hboiler : u.boiler = { s.boiler with
      heatDump := false
      leadHeld := false
      leadExtended := true
      leadTimer := some (if s.cfg.boiler.leadTime = 0 then 30 else s.cfg.boiler.leadTime) } := by
    rw [heq, dumpCleared_cfg, dumpCleared_boiler]; rfl
  have hsettles : s.dumpCleared.SettlesTo u := heq ▸ settlesTo_setBoiler _ _
  have hsettle : u.settle before = (u.setSinkOpen true).ended := by
    refine settle_lead_short before (by rw [hboiler]; exact hstate) ?_ ?_ ?_ ?_ (by simp [hboiler])
    · rw [hsettles.anyRequest, dumpCleared_anyRequest, hany]
    · rw [hsettles.held, dumpCleared_held, hheld]
    · rw [hsettles.faultInput, dumpCleared_faultInput, hfault]
    · have := hsettles.capacity_le
      rw [hsettles.sinkMinimum, dumpCleared_sinkMinimum]
      rw [dumpCleared_capacity] at this
      omega
  rw [← hu, hsettle, ended_boiler, setSinkOpen_boiler, hboiler]
  exact ⟨hstate, rfl, (ended_sinksStand _).sinkOpen.trans (setSinkOpen_sinkOpen u true), rfl⟩

/-! ## The lead given up (R133, R139) -/

/-- A REST just entered stands when the plant has settled, its min-off time not yet over (R139). -/
theorem enterRest_settle {u : State} (before : State) (hdump : u.boiler.heatDump = false) (hfault : u.faultInput = false)
    (hmark : u.boiler.restMark = u.clock.elapsed) (hmin : 1 ≤ u.cfg.boiler.minOff) :
    (u.enterRest.settle before).boiler.state = .rest ∧ (u.enterRest.settle before).boiler.restMark = u.clock.elapsed ∧
      (u.enterRest.settle before).arbiter.sinkOpen = false := by
  have hclose : u.closeSinks = u.setSinkOpen false := if_neg (by simp [hdump])
  have hboiler : u.enterRest.boiler = { u.boiler.cleared with state := .rest } := by
    rw [State.enterRest, enterState_boiler, hclose, setSinkOpen_boiler]
  have hopen : u.enterRest.arbiter.sinkOpen = false := by
    rw [State.enterRest, (enterState_sinksStand _ _).sinkOpen, hclose, setSinkOpen_sinkOpen]
  have hyoung : u.enterRest.minOffElapsed = false := by
    have hclock : u.enterRest.clock = u.clock := by simp
    have hcfg : u.enterRest.cfg = u.cfg := by simp
    rw [State.minOffElapsed, hclock, hcfg, hboiler]
    show decide (u.cfg.boiler.minOff ≤ minutesSince u.clock.elapsed u.boiler.restMark) = false
    rw [hmark]
    simp [minutesSince]; omega
  have stays (cue : Cue) : u.enterRest.boilerMove before.committed cue = none := by
    simp [State.boilerMove, hboiler, (enterRest_settlesTo u).faultInput, hfault, hyoung]
  rw [State.settle, settleWith_still (stays _), ended_boiler, hboiler, (ended_sinksStand _).sinkOpen]
  exact ⟨rfl, hmark, hopen⟩

theorem heldExpiry_rests (before : State) (hfault : s.faultInput = false) (hcap : s.capacity < s.sinkMinimum)
    (hextended : s.boiler.leadExtended = true) (hmin : 1 ≤ s.cfg.boiler.minOff)
    (hattn : ∀ q, (s.port q).attn.length = 16) :
    (s.dumpCleared.leadExpiry.settle before).boiler.state = .rest ∧
      (s.dumpCleared.leadExpiry.settle before).boiler.restMark = s.clock.elapsed ∧
      (s.dumpCleared.leadExpiry.settle before).arbiter.sinkOpen = false ∧
      ∀ n, 1 ≤ n → n ≤ 32 → (s.valveCfg n).role = .sink → ∀ q, s.dumpCleared.leadExpiry.raised q .sink (object n) := by
  have hshort : ¬ s.dumpCleared.sinkMinimum ≤ s.dumpCleared.capacity := by
    rw [dumpCleared_sinkMinimum, dumpCleared_capacity]; omega
  obtain ⟨u, hu⟩ : ∃ u, u = s.dumpCleared.setBoiler { s.dumpCleared.boiler with restMark := s.dumpCleared.clock.elapsed } :=
    ⟨_, rfl⟩
  have heq : s.dumpCleared.leadExpiry = (u.raise .sink (objectsOf u.sinkSlots)).enterRest := by
    rw [State.leadExpiry, if_neg (by simp [dumpCleared_noDump]), if_neg hshort,
      if_neg (by simp [dumpCleared_boiler, hextended]), hu]
  have hcfg : u.cfg = s.cfg := by rw [hu]; exact dumpCleared_cfg s
  have helapsed : u.clock.elapsed = s.clock.elapsed := by rw [hu]; exact dumpCleared_elapsed s
  have hports : ∀ q, u.port q = s.port q := fun q => by rw [hu]; cases q <;> simp [State.port, State.dumpCleared]
  have hfaultU : (u.raise .sink (objectsOf u.sinkSlots)).faultInput = false := by
    rw [(settlesTo_raise u .sink _ (by simp)).faultInput, hu, (settlesTo_setBoiler _ _).faultInput, dumpCleared_faultInput,
      hfault]
  have hnoDump : u.boiler.heatDump = false := by rw [hu]; exact dumpCleared_noDump s
  have hmark : u.boiler.restMark = u.clock.elapsed := by rw [hu]; rfl
  obtain ⟨hrest, hrestMark, hopen⟩ := enterRest_settle (u := u.raise .sink (objectsOf u.sinkSlots)) before
    hnoDump hfaultU hmark (by rw [← hcfg] at hmin; exact hmin)
  rw [heq]
  refine ⟨hrest, hrestMark.trans helapsed, hopen, fun n h1 h32 hrole q => ?_⟩
  have hmem : n ∈ u.sinkSlots := mem_sinkSlots h1 h32 (by rw [State.valveCfg, hcfg]; exact hrole)
  exact raised_of_onlyRaises (enterRest_settlesTo _).ports
    (raised_raise_within q .sink (by rw [hports, hattn]) (object_within hmem))

end

end Sys2Proof.Machine
end

section
/-! PROOF. A heat dump starts and ends with a flow sample (R107, R109, R133, R141 to R143; O26). -/

namespace Sys2Proof.Machine

/-! ## Read at the end of the event -/

theorem State.WantsOffered.endEvent {s t : State} {n : Nat} {w : Wanted} (h : s.WantsOffered t n w) :
    s.WantsOffered t.endEvent n w :=
  ⟨by simpa [State.wantedOf] using h.1, fun hlow hok => offered_congr (h.2 hlow hok) (queued_congr n (by simp))⟩

@[simp] theorem flowTaken_keeps (s : State) (v : Temp) : (s.flowTaken v).cfg = s.cfg ∧ (s.flowTaken v).clock = s.clock ∧
    (s.flowTaken v).wRequest = s.wRequest ∧ (s.flowTaken v).arbiter = s.arbiter := ⟨rfl, rfl, rfl, rfl⟩

/-- With a valid flow sensor the inhibit input alone holds the controller (R129). -/
theorem flowTaken_held (s : State) (v : Temp) : (s.flowTaken v).held = s.inhibitInput := by
  show (s.inhibitInput || !true) = _
  simp

/-- Only a sample below flow max ends a dump that holds no lead expiry (R143). -/
theorem flowSample_heatDump {s : State} {v : Temp} (hdump : s.boiler.heatDump = true) :
    (s.flowTaken v).flowSample.boiler.heatDump = decide (s.cfg.boiler.flowMax ≤ v) := by
  rw [flowSample_dumping hdump]
  split
  · next hcool => rw [endDump_heatDump, decide_eq_false (Int.not_le.mpr hcool)]
  · next hwarm => rw [decide_eq_true (Int.not_lt.mp hwarm)]; exact hdump

/-! ## Where the dump's end leaves sink-open (R109, R143) -/

section
variable {s before : State} (hfree : s.boiler.leadHeld = false)
include hfree

theorem endDump_free : s.endDump = s.clearDump := by rw [endDump_eq, if_neg (by simp [hfree])]

/-- The dump's end, of itself, moves the controller to no other state. -/
theorem endDump_settle (hbefore : before.boiler.state = s.boiler.state) :
    s.endDump.settle before = s.clearDump.settleWith before.committed .settle := by
  rw [endDump_free hfree, State.settle, if_pos (by rw [clearDump_boiler, hbefore])]

theorem endDump_parked (hbefore : before.boiler.state = s.boiler.state) (hstate : s.boiler.state = .rest ∨
      s.boiler.state = .idle ∧ (s.anyRequest = false ∨ s.held = true ∨ s.faultInput = true)) :
    s.clearDump.SinksStand (s.endDump.settle before) ∧ s.clearDump.arbiter.sinkOpen = false := by
  have hor : s.boiler.state = .idle ∨ s.boiler.state = .rest := hstate.elim .inr fun h => .inl h.1
  refine ⟨?_, by rw [clearDump_parked hor, setSinkOpen_sinkOpen]⟩
  rw [endDump_settle hfree hbefore]
  refine settleWith_parked ?_
  rw [clearDump_boiler, anyRequest_congr (s := s) (by simp), held_congr (s := s) (by simp) (by simp), clearDump_faultInput]
  exact hstate

theorem endDump_working (hbefore : before.boiler.state = s.boiler.state)
    (hstate : s.boiler.state = .overrun ∧ s.boiler.overrunTimer ≠ none ∧ s.faultInput = false ∨
      s.boiler.state = .faulted ∧ s.faultInput = true) :
    (s.endDump.settle before).arbiter.sinkOpen = s.arbiter.sinkOpen := by
  have hcleared : s.clearDump.arbiter.sinkOpen = s.arbiter.sinkOpen := by
    rw [clearDump_working (by rcases hstate with ⟨h, -⟩ | ⟨h, -⟩ <;> simp [h])]
    exact formAll_sinkOpen _ _
  have hstand : s.clearDump.SinksStand (s.clearDump.settleWith before.committed .settle) := by
    rcases hstate with ⟨hover, htimer, hfault⟩ | ⟨-, hfault⟩
    · exact settleWith_still_sinksStand (boilerMove_overrun (by rw [clearDump_boiler]; exact hover)
        (by rw [clearDump_boiler]; exact htimer) (by rw [clearDump_faultInput, hfault]))
    · exact settleWith_fault_sinksStand (by rw [clearDump_faultInput, hfault])
  rw [endDump_settle hfree hbefore, hstand.sinkOpen, hcleared]

end

/-! ## The two samples -/

/-- A sample that starts a dump: what the event ends in. -/
theorem exec_overheat {s : State} {v : Temp} (hacting : s.acting = none) (hdue : s.field.flow.due = true) (hlo : -400 ≤ v)
    (hhi : v ≤ 1250) (hdump : s.boiler.heatDump = false) (hhot : s.cfg.boiler.flowMax + s.cfg.boiler.highLimitDelta ≤ v) :
    exec (.sensorSample .flow v) s = .next (((s.flowTaken v).overheat.settle s).endEvent) := by
  rw [exec_flowSample hacting hdue hlo hhi, flowSample_overheat hdump hhot]

/-- A sample that ends a dump: what the event ends in. -/
theorem exec_endDump {s : State} {v : Temp} (hacting : s.acting = none) (hdue : s.field.flow.due = true) (hlo : -400 ≤ v)
    (hhi : v ≤ 1250) (hdump : s.boiler.heatDump = true) (hcool : v < s.cfg.boiler.flowMax) :
    exec (.sensorSample .flow v) s = .next (((s.flowTaken v).endDump.settle s).endEvent) := by
  rw [exec_flowSample hacting hdue hlo hhi, flowSample_dumping hdump, if_pos hcool]

/-- Settles O26: the dump begun is kept through settling by `State.Dumping`; the dump ended, with the expiry it held, is
settled state by state. -/
theorem heatDumpStartsAndEnds : Obligations.HeatDumpStartsAndEnds := by
  unfold Obligations.HeatDumpStartsAndEnds
  refine ⟨fun v s hacting hshape hdue hlo hhi hdump hhot => ⟨_, exec_overheat hacting hdue hlo hhi hdump hhot, ?_⟩,
    fun v s hacting hdue hlo hhi hdump _ => ⟨_, exec_flowSample hacting hdue hlo hhi, ?_⟩,
    fun v s hacting hshape hdue hlo hhi hcool hdump => ⟨_, exec_endDump hacting hdue hlo hhi hdump hcool, ?_⟩⟩
  · have hlen : (s.flowTaken v).arbiter.wanted.length = 32 := wanted_length hshape
    obtain ⟨hheat, hopen, hunlit, -⟩ := (overheat_dumping (s.flowTaken v)).settle s
    refine ⟨by simpa using hheat, by simpa using hopen, fun q => endEvent_raised (overheat_raised (s := s.flowTaken v) (attn_length hshape) q), ?_,
      fun n h1 h32 hrole => (overheat_sink s hlen h1 h32 hrole).endEvent, by simpa using hunlit, fun hfiring hfault htime => ?_⟩
    · rintro n dump h1 h32 ⟨k, hrole⟩
      obtain ⟨hwants, hoffered⟩ := (overheat_zone s hlen h1 h32 hrole).endEvent
      refine ⟨_, hwants, ?_, ?_, hoffered⟩ <;> rintro rfl <;> rfl
    · simpa using overheat_overrun (s := s.flowTaken v) s hfiring hfault htime
  · have hheat := (heatDump_keeps _).settle s (flowSample_heatDump (v := v) hdump)
    exact ⟨by simpa using hheat, by simp, by simp, by simp⟩
  · have hlen : (s.flowTaken v).arbiter.wanted.length = 32 := wanted_length hshape
    have hheat := (heatDump_keeps false).settle s (endDump_heatDump (s.flowTaken v))
    have hheld := settle_leadHeld (endDump_heatDump (s.flowTaken v)) (endDump_leadHeld (s.flowTaken v)) s
    refine ⟨by simpa using hheat, by simpa using hheld,
      fun n k dump h1 h32 hrole => (endDump_zone s hlen h1 h32 hrole).endEvent, fun hfree => ⟨fun hstate => ?_, fun hstate => ?_⟩,
      fun hheld hlead hany hinhibit hfault => ?_⟩
    · have hparked : (s.flowTaken v).boiler.state = .rest ∨ (s.flowTaken v).boiler.state = .idle ∧
          ((s.flowTaken v).anyRequest = false ∨ (s.flowTaken v).held = true ∨ (s.flowTaken v).faultInput = true) := by
        rw [flowTaken_held]; exact hstate
      obtain ⟨hstand, hshut⟩ := endDump_parked (s := s.flowTaken v) (before := s) hfree rfl hparked
      refine ⟨by simpa using hstand.sinkOpen.trans hshut, fun hopen n h1 h32 hrole => ?_⟩
      have hwants := clearDump_sink (s := s.flowTaken v) (hparked.elim .inr fun h => .inl h.1) hopen hlen h1 h32 hrole
      exact (hwants.waits (by simp) (hstand.slots n (by simpa [State.valveCfg] using hrole))).endEvent
    · simpa using endDump_working (s := s.flowTaken v) (before := s) hfree rfl hstate
    · have hheldR : (s.flowTaken v).held = false := (flowTaken_held s v).trans hinhibit
      have heq : (s.flowTaken v).endDump = (s.flowTaken v).dumpCleared.leadExpiry := by rw [endDump_eq]; exact if_pos hheld
      rw [heq]
      refine ⟨fun hcap => ?_, fun hcap hfirst => ?_, fun hcap hextended hmin => ?_⟩
      · simpa using heldExpiry_fires (s := s.flowTaken v) s hany hheldR hfault hcap
      · simpa using heldExpiry_extends (s := s.flowTaken v) s hlead hany hheldR hfault hcap hfirst
      · obtain ⟨hrest, hmark, hshut, hraised⟩ :=
          heldExpiry_rests (s := s.flowTaken v) s hfault hcap hextended hmin (attn_length hshape)
        exact ⟨by simpa using hrest, by simpa using hmark, by simpa using hshut,
          fun n h1 h32 hrole q => endEvent_raised (hraised n h1 h32 hrole q)⟩

end Sys2Proof.Machine
end
